-- ==== Sys2Proof/Word.lean ====
section
/-!
DEFINITION. The words of the model: bytes, 32-bit and 64-bit words. Multi-byte values are little-endian
(00_scope, Numbers and units); `Word.bytes` and `Word.ofBytes` fix that once.
-/
namespace Sys2Proof

/-- A byte of memory. -/
abbrev Byte := BitVec 8

/-- A register or a 64-bit word (R6). -/
abbrev Word := BitVec 64

/-- Bits [hi:lo] of a number. -/
def Word.slice (v hi lo : Nat) : Nat := v / 2 ^ lo % 2 ^ (hi - lo + 1)

/-- The `n` little-endian bytes of a number. -/
def Word.bytes : Nat → Nat → List Byte
  | 0, _ => []
  | n + 1, v => BitVec.ofNat 8 v :: Word.bytes n (v / 256)

/-- The number that little-endian bytes spell. -/
def Word.ofBytes : List Byte → Nat
  | [] => 0
  | b :: bs => b.toNat + 256 * Word.ofBytes bs

end Sys2Proof
end

