-- ==== Sys2Proof/Syntax.lean ====
section
/-!
DEFINITION. The commands of the D824: one constructor of `Instr` for each row of spec/opcode_table.json, with what
the command carries. Operands that name a unit are bounded numbers; register values, addresses and headers are bit
vectors; what is measured or counted is a natural number.
-/
namespace Sys2Proof

/-- Who makes a register write (R544): the requester identity of R381, the module it came from, whether it came over
a link and whether it came from the I3C port. -/
structure Origin where
  rid : BitVec 14
  module : BitVec 6
  remote : Bool
  i3c : Bool
  deriving DecidableEq, Repr

/-- A bank of EIC bitmaps (R457): word w of the shared sources, or the private sources of a core. -/
inductive Bank where
  | shared (w : Fin 13)
  | core (c : Fin 11)
  deriving DecidableEq, Repr

/-- What the sites show at a local edge: those that overdrew by more than 5 % in the beat that ends (R425), and the watts
on the REQ_W wires of site 0 and up (R423); a site not listed keeps its sample. -/
structure EdgeSites where
  overdrawn : BitVec 8
  wanted : List (BitVec 10)
  deriving DecidableEq, Repr

/-- What upsets stored bits before an access: code-word bits (0 to 63 data, 64 to 71 check) of 8-byte words by local
address, and 64-byte blocks one of whose three valid-bit copies disagrees (R126, R127). -/
structure Upset where
  bits : List (BitVec 41 × Fin 72)
  votes : List (BitVec 41)
  deriving DecidableEq, Repr

/-- What the DRAM of a stack does to a controller's access: symbols upset first, by block address, symbol (0 to 63
data, 64 to 67 check) and flipped bits; row tags upset first, by an address in the row and flipped bits; and how many
errors the on-die ECC reports (R151 to R154). -/
structure DramUpset where
  symbols : List (BitVec 41 × Fin 68 × Byte)
  tags : List (BitVec 41 × BitVec 32)
  inner : Nat
  deriving DecidableEq, Repr

/-- An owner entry (R61). -/
inductive OwnerTarget where
  | frame (f : Fin 720)
  | part (p : Fin 96)
  deriving DecidableEq, Repr

/-- What upsets an engine's scratch before an access (R236): words with a correctable and with an uncorrectable error,
by the address of one of their bytes. -/
structure ScratchHit where
  ce : List (BitVec 25)
  ue : List (BitVec 25)
  deriving DecidableEq, Repr

/-- A source that queue feedback throttles (R353). -/
inductive Throttled where
  | queue (g : Fin 256) (q : Fin 16)
  | engine (n : Fin 16)
  | port (d : Fin 8) (p : Fin 64)
  deriving DecidableEq, Repr

/-- A register whose write starts a recomputation of the effective minimums (R347). -/
inductive RglTarget where
  | minimum (m : Fin 24) (c : Fin 15)
  | stack (m : Fin 24)
  | control
  deriving DecidableEq, Repr

/-- A wear indicator (R548). -/
inductive Wearing where
  | age (d : Fin 8) (k : Fin 64)
  | stack (m : Fin 24)
  | link (p : Fin 32)
  | charge (d : Fin 8)
  | flash
  deriving DecidableEq, Repr

/-- The routing of a control husk (R379, R400): its target, its sender, its SEQ, its hop count, and whether it is
LOCAL to the link. -/
structure CtlHead where
  dest : BitVec 6
  src : BitVec 6
  seq : BitVec 32
  hops : Nat
  link : Bool
  deriving DecidableEq, Repr

/-- HELLO of R400. Roles are those of TGL_POD_CFG.ROLE; `id` is 64 for a sender without an ID. -/
structure HelloBody where
  serial : BitVec 48
  role : BitVec 2
  bestSerial : BitVec 48
  bestRole : BitVec 2
  elected : Bool
  ready : Bool
  id : Nat
  deriving DecidableEq, Repr

/-- JOIN of R400: the sponsor's port to the joiner is filled in by the sponsor. -/
structure JoinBody where
  serial : BitVec 48
  role : BitVec 2
  reqId : Option (BitVec 6)
  hostBridge : Bool
  port : Fin 32
  deriving DecidableEq, Repr

/-- ASSIGN of R400. -/
structure AssignBody where
  serial : BitVec 48
  id : BitVec 6
  masterId : BitVec 6
  masterSerial : BitVec 48
  deriving DecidableEq, Repr

/-- One module of a MEMBERS message (R400). -/
structure MemberRow where
  id : BitVec 6
  serial : BitVec 48
  hostBridge : Bool
  deriving DecidableEq, Repr

/-- One entry of a ROUTES message (R392, R400): the primary and the alternate port to a module. -/
structure RouteRow where
  dest : BitVec 6
  primary : Option (Fin 32)
  alternate : Option (Fin 32)
  deriving DecidableEq, Repr

/-- One group of a GROUPS message (R394, R400). -/
structure GroupRow where
  group : Fin 256
  members : Word
  member : Bool
  tree : List (Fin 32 × Word)
  deriving DecidableEq, Repr

/-- The body of a control message (R400). -/
inductive CtlBody where
  | hello (b : HelloBody)
  | join (b : JoinBody)
  | assign (b : AssignBody)
  | members (version : BitVec 32) (rows : List MemberRow)
  | routes (version : BitVec 32) (rows : List RouteRow)
  | groups (version : BitVec 32) (rows : List GroupRow)
  | portDown (port : Fin 32) (far : BitVec 6)
  | portUp (port : Fin 32) (far : BitVec 6)
  | leave (id : BitVec 6)
  | stretch (level : BitVec 4)
  | beatQuery
  | beatReply (number : BitVec 48)
  | ack (code : Byte) (version : BitVec 32)
  deriving DecidableEq, Repr

/-- What power good finds (R483, R581, R584): BSCAN_EN high, the I3C address straps, a valid SFDP header in the flash. -/
structure PowerPins where
  bscan : Bool
  addr : BitVec 2
  sfdp : Bool
  deriving DecidableEq, Repr

/-- How the training of a stack ends (R145, R150, R497): `words` are STK_TRAINED[0] to STK_TRAINED[7]; `channels` those
whose lanes cannot be repaired; `complete` whether the stack completed training; `rfm` the refresh-management threshold
that it advertises, 0 for none (R162). -/
structure TrainedStack where
  words : List Word
  channels : BitVec 32
  complete : Bool
  rfm : Nat
  deriving DecidableEq, Repr

/-- What the tests of SELFTEST find (R499, R505, R260): physical banks and physical movers that failed, by die; physical
row units that failed and the combined signature, by engine; and the engines whose W ring connection failed. -/
structure UnitTests where
  banks : List (Fin 8 × Fin 4224)
  movers : List (Fin 8 × Fin 34)
  rows : List (Fin 16 × Fin 100)
  signatures : List (Fin 16 × BitVec 32)
  ring : BitVec 16
  deriving DecidableEq, Repr

/-- What ends a condition of the limiter (R519): a comparator that releases, or a channel that has cooled. -/
inductive LimiterEnd where
  | uv
  | oc
  | channel (d : Fin 8) (j : Fin 48)
  deriving DecidableEq, Repr

/-- A cause of input loss that is no thermal shutdown (R522). -/
inductive LossCause where
  | inputLoss
  | overvoltage
  | removed
  deriving DecidableEq, Repr

/-- The commands: one constructor for each row of spec/opcode_table.json, in the table's families. -/
inductive Instr where
  /-- REGISTER_WRITE (R7): a write of `bytes` at a byte offset of register space, by a requester. -/
  | registerWrite (off : Nat) (bytes : List Byte) (by' : Origin)
  /-- INPUT_SWITCH_CLOSE (R514): `fell`: since the last thermal shutdown V_in has been below 10 V for 1 s (R527). -/
  | inputSwitchClose (fell : Bool)
  /-- POWER_GOOD (R514). -/
  | powerGood (pins : PowerPins)
  /-- SPROUT_BOOT (R465): `bridges`: the package bridges BG0 to BG9 that fail their pattern test. -/
  | sproutBoot (bridges : BitVec 10)
  /-- WARM_RESET (R486): a write of TOP_CTL. -/
  | warmReset (v : Word) (by' : Origin)
  /-- STATE_TIMEOUT (R485). -/
  | stateTimeout
  /-- STACK_TRAINING_DONE (R497). -/
  | stackTrainingDone (m : Fin 24) (r : TrainedStack)
  /-- MEMORY_PASS (R500): `slices`: the cache slices whose array pattern fails (R499). -/
  | memoryPass (slices : BitVec 24)
  /-- FILL_DONE (R164): the time each fill took, in µs, stack 0 first. -/
  | fillDone (times : List Nat)
  /-- UNIT_PASS (R507). -/
  | unitPass (r : UnitTests)
  /-- REQ_LINKS_WRITE (R507): a write of TOP_REQ_LINKS. -/
  | reqLinksWrite (v : Word) (by' : Origin)
  /-- REQ_WIDTH_WRITE (R507): a write of TOP_REQ_WIDTH. -/
  | reqWidthWrite (v : Word) (by' : Origin)
  /-- FLASH_READ (R484): a write of TOP_FLASH_CTL. -/
  | flashRead (v : Word) (by' : Origin)
  /-- FLASH_PROGRAM (R484): a write of TOP_FLASH_CTL. -/
  | flashProgram (v : Word) (by' : Origin)
  /-- FLASH_ERASE (R484): a write of TOP_FLASH_CTL. -/
  | flashErase (v : Word) (by' : Origin)
  /-- FLASH_COMMAND_DONE (R484): `error`: the device reports one. -/
  | flashCommandDone (error : Bool)
  /-- DEFECT_FLUSH (R502). -/
  | defectFlush
  /-- MASTER_EDGE (R35). -/
  | masterEdge (sites : EdgeSites)
  /-- BEAT_IN_EDGE (R31): a rising edge on BEAT_IN, `cycles` reference cycles after the previous accepted edge. -/
  | beatInEdge (cycles : Nat)
  /-- BEAT_IN_MISSED (R31). -/
  | beatInMissed (sites : EdgeSites)
  /-- BEAT_CNT_CLR (R51): a write of TGL_BEAT_CTL. -/
  | beatCntClr (v : Word) (by' : Origin)
  /-- BEAT_PERIOD_WRITE (R30). -/
  | beatPeriodWrite (v : Word) (by' : Origin)
  /-- SW_STRETCH_WRITE (R34): a write of TGL_BEAT_STRETCH. -/
  | swStretchWrite (v : Word) (by' : Origin)
  /-- BEAT_SET_RX (R44): the copies of a set's symbols 1 to 7, one list a lane, as they arrive at a port. -/
  | beatSetRx (p : Fin 32) (copies : List (List Byte)) (sites : EdgeSites)
  /-- MISSED_BEAT (R45). -/
  | missedBeat (sites : EdgeSites)
  /-- FREE_RUN_EDGE (R46, R31). -/
  | freeRunEdge (sites : EdgeSites)
  /-- BEAT_REJOIN_REQUIRED (R40). -/
  | beatRejoinRequired
  /-- UPSTREAM_SWITCH (R41). -/
  | upstreamSwitch
  /-- LATENCY_PROBE (R42): the stamp is the port's symbol counter. -/
  | latencyProbe (p : Fin 32) (stamp : BitVec 16)
  /-- PROBE_RX (R42): symbols 1 to 7 of a received set. -/
  | probeRx (p : Fin 32) (copies : List (List Byte))
  /-- ECHO_RX (R42): symbols 1 to 7 of a received set, and the port's symbol counter at its arrival. -/
  | echoRx (p : Fin 32) (copies : List (List Byte)) (counter : BitVec 16)
  /-- OWNER_ENTRY_WRITE (R65): a write of ADT_OWN_FRAME or ADT_OWN_PART. -/
  | ownerEntryWrite (at' : OwnerTarget) (v : Word) (by' : Origin)
  /-- OWNER_ENTRY_APPLIED (R65). -/
  | ownerEntryApplied
  /-- CTX_ACTIVATE (R92): a write of ADT_CTX_CMD. -/
  | ctxActivate (v : Word) (by' : Origin)
  /-- CTX_RETIRE (R90): a write of ADT_CTX_CMD. -/
  | ctxRetire (v : Word) (by' : Origin)
  /-- CONTEXT_RETIRED (R90): the next step of a RETIRE, after its invalidation and then after PENDING reads 0. -/
  | contextRetired (ctx : BitVec 12)
  /-- ADMIT (R74): the translator of a die takes its oldest admission. -/
  | admitNext (d : Fin 8)
  /-- ADMIT_TABLE_READ_DONE (R588): the table read of a die's oldest admission returns. -/
  | admitTableReadDone (d : Fin 8)
  /-- FAULT_RECORD_COPY (R80). -/
  | faultRecordCopy
  /-- FAULT_RECORD_WRITE_DONE (R80). -/
  | faultRecordWriteDone
  /-- FAULT_RECORD_RETRY (R80): 100 µs have passed. -/
  | faultRecordRetry
  /-- FAULT_RESUME (R82): a write of ADT_RESUME with ABORT 0. -/
  | faultResume (v : Word)
  /-- FAULT_ABORT (R82): a write of ADT_RESUME with ABORT 1. -/
  | faultAbort (v : Word)
  /-- INVALIDATE_ENQUEUE (R84): a write of ADT_INV_ARG1. -/
  | invalidateEnqueue (v : Word)
  /-- INVALIDATE_RUN (R85). -/
  | invalidateRun
  /-- INVALIDATE_ACK (R86): by a unit: movers 0 to 255, engines 256 to 271. -/
  | invalidateAck (u : Fin 272)
  /-- INVALIDATE_TIMEOUT (R88): ADT_INV_TMO has passed. -/
  | invalidateTimeout
  /-- BRIDGE_FAILURE (R20): of package bridge BG`b`. -/
  | bridgeFailure (b : Fin 10)
  /-- RING_CONNECTION_FAIL (R557): of the connection at the W port of engine n. -/
  | ringConnectionFail (n : Fin 16)
  /-- SBF_READ (R128): a read at a local address by a context. `hit`: what upsets the stored bits first. -/
  | sbfRead (a : BitVec 41) (len : Nat) (ctx : BitVec 12) (hit : Upset)
  /-- SBF_WRITE (R130): a write of the listed bytes; a byte that is none is not written. -/
  | sbfWrite (a : BitVec 41) (data : List (Option Byte)) (ctx : BitVec 12) (hit : Upset)
  /-- SBF_ATOMIC (R133): the operation of R132, its size, its operand (for CAS the compare operand) and the swap
  operand of CAS; returning or posted. -/
  | sbfAtomic (a : BitVec 41) (op : BitVec 4) (size : Nat) (x y : Word) (returning : Bool) (ctx : BitVec 12)
      (hit : Upset)
  /-- PARTITION_CLEAR (R125): a write of SBF_PART_CLR of die d. -/
  | partitionClear (d : Fin 8) (v : Word) (by' : Origin)
  /-- PARTITION_CLEAR_DONE (R125). -/
  | partitionClearDone (d : Fin 8)
  /-- SBF_SCRUB (R137): the scrubber takes the block at an address; `last`: it ends a pass over the die. -/
  | sbfScrub (a : BitVec 41) (last : Bool) (hit : Upset)
  /-- BANK_FENCE (R141): the bank of an access has not answered; the access by its source code of SBF_ERR_REC_ADDR. -/
  | bankFence (a : BitVec 41) (source : Fin 5)
  /-- SBF_ERR_POP (R140): a write of SBF_ERR_POP of die d. -/
  | sbfErrPop (d : Fin 8) (v : Word)
  /-- SBF_CNT_CLR (R143): a write of SBF_ERR_CTL of die d. -/
  | sbfCntClr (d : Fin 8) (v : Word) (by' : Origin)
  /-- SBF_INJECT_ARM (R143): a write of SBF_INJECT of die d. -/
  | sbfInjectArm (d : Fin 8) (v : Word) (by' : Origin)
  /-- STK_READ (R155): a read at a local address, by a context and a regulation class. -/
  | stkRead (a : BitVec 41) (len : Nat) (ctx : BitVec 12) (cls : Fin 16) (hit : DramUpset)
  /-- STK_WRITE (R157): a write of whole blocks. -/
  | stkWrite (a : BitVec 41) (data : List Byte) (ctx : BitVec 12) (cls : Fin 16) (hit : DramUpset)
  /-- STK_PARTIAL_WRITE (R158): a write of some bytes of its blocks; a byte that is none is not written. -/
  | stkPartialWrite (a : BitVec 41) (data : List (Option Byte)) (ctx : BitVec 12) (cls : Fin 16) (hit : DramUpset)
  /-- ROW_PRECHARGE (R156). -/
  | rowPrecharge (m : Fin 24) (pc bank : Fin 64)
  /-- REFRESH (R161). -/
  | refresh (m : Fin 24) (pc bank : Fin 64)
  /-- STACK_TEMP_READ (R161): in °C. -/
  | stackTempRead (m : Fin 24) (temp : Byte)
  /-- STK_SCRUB (R165): the patrol reads a row; `last`: it ends a pass. -/
  | stkScrub (m : Fin 24) (pc bank : Fin 64) (row : Fin 16384) (last : Bool) (hit : DramUpset)
  /-- PARITY_RETRY (R167): the stack reports a parity error on a command of an access at a local address. -/
  | parityRetry (a : BitVec 41) (source : Fin 5)
  /-- PC_FENCE (R168): a read issued to the pseudo-channel of an address has not returned within 1 µs. -/
  | pcFence (a : BitVec 41) (source : Fin 5)
  /-- STK_ERR_POP (R170): a write of STK_ERR_POP. -/
  | stkErrPop (m : Fin 24) (v : Word)
  /-- STK_CNT_CLR (R172): a write of STK_ERR_CTL. -/
  | stkCntClr (m : Fin 24) (v : Word) (by' : Origin)
  /-- STK_INJECT_ARM (R172): a write of STK_INJECT. -/
  | stkInjectArm (m : Fin 24) (v : Word) (by' : Origin)
  /-- MSC_READ (R177): read `id` of a requester's stream, within one line, with a cache hint; `tagErr`: the ways whose
  tag parity fails at this lookup; `dataErr`: the parity of the wanted line's data fails (R175). -/
  | mscRead (a : BitVec 41) (len : Nat) (ctx : BitVec 12) (cls : Fin 16) (hint : Fin 3) (stream : Nat) (id : Nat)
      (tagErr : BitVec 16) (dataErr : Bool)
  /-- MSC_WRITE (R180): write `id` of a requester's stream, within one line; a byte that is none is not written. -/
  | mscWrite (a : BitVec 41) (data : List (Option Byte)) (ctx : BitVec 12) (cls : Fin 16) (stream : Nat) (id : Nat)
      (tagErr : BitVec 16)
  /-- MB_HAND (R181): the entry of an index, oldest first, is handed to the controller; `aged`: AGE has passed. -/
  | mbHand (m : Fin 24) (index : Fin 64) (aged : Bool)
  /-- MB_ENTRY_FREE (R182): the controller has accepted the blocks of the entry of an index. -/
  | mbEntryFree (m : Fin 24) (index : Fin 64) (hit : DramUpset)
  /-- MR_ISSUE (R183): the miss register of an index, oldest first. -/
  | mrIssue (m : Fin 24) (index : Fin 256)
  /-- MR_FILL (R183): both blocks of the miss register of an index return. -/
  | mrFill (m : Fin 24) (index : Fin 256) (hit : DramUpset)
  /-- MSC_DISABLE (R192): a write of MSC_CTL. -/
  | mscDisable (m : Fin 24) (v : Word) (by' : Origin)
  /-- MSC_DISABLE_DONE (R192). -/
  | mscDisableDone (m : Fin 24)
  /-- MSC_ENABLE (R195): a write of MSC_CTL. -/
  | mscEnable (m : Fin 24) (v : Word) (by' : Origin)
  /-- MSC_INVALIDATE (R194): a write of MSC_INV_ALL. -/
  | mscInvalidate (m : Fin 24) (v : Word) (by' : Origin)
  /-- MSC_INVALIDATE_DONE (R194). -/
  | mscInvalidateDone (m : Fin 24)
  /-- MSC_CNT_CLR (R200): a write of MSC_CTL. -/
  | mscCntClr (m : Fin 24) (v : Word) (by' : Origin)
  /-- DMV_DOORBELL (R205): a write of DMV_Q_TAIL. -/
  | dmvDoorbell (g : Fin 256) (q : Fin 16) (v : Word)
  /-- DESCRIPTOR_FETCH (R207): a mover fetches for the queue that its round-robin gives. -/
  | descriptorFetch (g : Fin 256)
  /-- DESCRIPTOR_START (R211). -/
  | descriptorStart (g : Fin 256) (q : Fin 16)
  /-- DESCRIPTOR_COMPLETE (R221). -/
  | descriptorComplete (g : Fin 256) (q : Fin 16)
  /-- MC_BRANCH_TIMEOUT (R226): the branch of this module's multicasts at a port has stalled for TGL_MC_TMO. -/
  | mcBranchTimeout (p : Fin 32)
  /-- QUEUE_ENABLE (R208): a write of DMV_Q_CTL. -/
  | queueEnable (g : Fin 256) (q : Fin 16) (v : Word) (by' : Origin)
  /-- QUEUE_DISABLE (R232): a write of DMV_Q_CTL. -/
  | queueDisable (g : Fin 256) (q : Fin 16) (v : Word) (by' : Origin)
  /-- QUEUE_RESET (R228): a write of DMV_Q_CTL. -/
  | queueReset (g : Fin 256) (q : Fin 16) (v : Word) (by' : Origin)
  /-- QUEUE_RESET_DONE (R228). -/
  | queueResetDone (g : Fin 256) (q : Fin 16)
  /-- MOVER_LOST (R229). -/
  | moverLost (g : Fin 256)
  /-- MOVER_LOSS_DRAINED (R229). -/
  | moverLossDrained (g : Fin 256)
  /-- DMV_CNT_CLR (R232): a write of DMV_CTL. -/
  | dmvCntClr (g : Fin 256) (v : Word)
  /-- BARRIER_NOTIFY (R116): at the target, every write that arrived on a port before its oldest held barrier is
  visible. -/
  | barrierNotify (p : Fin 32)
  /-- RING_PACKET_RX (R239): the oldest packet on its way to a port of engine n arrives: E, or with `west` W. `flips`:
  header bits inverted on the way; `spoiled`: a parity bit of its payload disagrees. -/
  | ringPacketRx (n : Fin 16) (west : Bool) (flips : Word) (spoiled : Bool)
  /-- RING_SLOT_START (R241): a slot of a port's active table begins. -/
  | ringSlotStart (n : Fin 16) (west : Bool) (slot : Fin 64)
  /-- RING_CREDIT_RETURN (R239): the credit that the neighbour at a port has freed returns. -/
  | ringCreditReturn (n : Fin 16) (west : Bool)
  /-- RING_TABLE_ARM (R242): a write of NME_RING_ACT. -/
  | ringTableArm (n : Fin 16) (v : Word) (by' : Origin)
  /-- RING_WAIT_TIMEOUT (R243). -/
  | ringWaitTimeout (n : Fin 16)
  /-- JOB_DOORBELL (R244): a write of DSP_JR_TAIL. -/
  | jobDoorbell (d : Fin 8) (r : Fin 32) (v : Word)
  /-- JOB_FETCH (R252). -/
  | jobFetch (d : Fin 8) (r : Fin 32)
  /-- JOB_RELEASE (R251): a dispatcher checks the head jobs of its rings. -/
  | jobRelease (d : Fin 8)
  /-- JOB_PROGRAM_LOAD (R293): for the job that engine n is reserved for. -/
  | jobProgramLoad (n : Fin 16)
  /-- JOB_COMPLETE (R254): the oldest job of a ring that has ended. -/
  | jobComplete (d : Fin 8) (r : Fin 32)
  /-- DSP_TOK_POST (R248): a write of DSP_TOK_POST. -/
  | dspTokPost (d : Fin 8) (v : Word)
  /-- TOK_CLEAR (R263): a write of DSP_TOK_CMD. -/
  | tokClear (d : Fin 8) (v : Word)
  /-- TOK_SET (R263): a write of DSP_TOK_CMD. -/
  | tokSet (d : Fin 8) (v : Word)
  /-- SPILL_DONE (R255). -/
  | spillDone (n : Fin 16)
  /-- RELOAD (R257). -/
  | reload (n : Fin 16)
  /-- JOB_RING_ENABLE (R244): a write of DSP_JR_CTL. -/
  | jobRingEnable (d : Fin 8) (r : Fin 32) (v : Word) (by' : Origin)
  /-- JOB_RING_RESET (R258): a write of DSP_JR_CTL. -/
  | jobRingReset (d : Fin 8) (r : Fin 32) (v : Word) (by' : Origin)
  /-- JOB_RING_RESET_DONE (R258). -/
  | jobRingResetDone (d : Fin 8) (r : Fin 32)
  /-- NME_LOST (R259). -/
  | nmeLost (n : Fin 16)
  /-- NME_CNT_CLR (R262): a write of NME_CTL. -/
  | nmeCntClr (n : Fin 16) (v : Word)
  /-- SR_SEED_WRITE (R280): a write of NME_SR_SEED. -/
  | srSeedWrite (n : Fin 16) (v : Word) (by' : Origin)
  /-- ADD (R299): engine n issues the next instruction of its program, which is an ADD; so for every row down to FENCE.
  `hit`: what upsets the scratch words read. -/
  | add (n : Fin 16)
  /-- SUB (R299). -/
  | sub (n : Fin 16)
  /-- MUL (R299). -/
  | mul (n : Fin 16)
  /-- AND (R299). -/
  | andOp (n : Fin 16)
  /-- OR (R299). -/
  | orOp (n : Fin 16)
  /-- XOR (R299). -/
  | xorOp (n : Fin 16)
  /-- SLL (R299). -/
  | sll (n : Fin 16)
  /-- SRL (R299). -/
  | srl (n : Fin 16)
  /-- SRA (R299). -/
  | sra (n : Fin 16)
  /-- MIN (R299). -/
  | minOp (n : Fin 16)
  /-- MAX (R299). -/
  | maxOp (n : Fin 16)
  /-- ADDI (R299). -/
  | addi (n : Fin 16)
  /-- LI (R299). -/
  | li (n : Fin 16)
  /-- LUI (R299). -/
  | lui (n : Fin 16)
  /-- NOP (R297). -/
  | nop (n : Fin 16)
  /-- END (R307). -/
  | endOp (n : Fin 16)
  /-- BR (R300). -/
  | br (n : Fin 16)
  /-- LOOP (R301). -/
  | loop (n : Fin 16)
  /-- WAITBEAT (R302). -/
  | waitbeat (n : Fin 16)
  /-- WAITTOK_SCOREBOARD (R303). -/
  | waittokScoreboard (n : Fin 16)
  /-- WAITTOK_RING (R303). -/
  | waittokRing (n : Fin 16)
  /-- POSTTOK_SCOREBOARD (R304). -/
  | posttokScoreboard (n : Fin 16)
  /-- POSTTOK_RING (R304). -/
  | posttokRing (n : Fin 16)
  /-- RDS (R305). -/
  | rds (n : Fin 16)
  /-- WRS (R305). -/
  | wrs (n : Fin 16)
  /-- LDX (R306). -/
  | ldx (n : Fin 16) (hit : ScratchHit)
  /-- STX (R306). -/
  | stx (n : Fin 16)
  /-- GCFG_LEVEL (R309). -/
  | gcfgLevel (n : Fin 16)
  /-- GCFG_OFFSET (R309). -/
  | gcfgOffset (n : Fin 16)
  /-- GCFG_ROWSTRIDE (R309). -/
  | gcfgRowstride (n : Fin 16)
  /-- GCFG_RUN (R309). -/
  | gcfgRun (n : Fin 16)
  /-- GCFG_INDIRECT (R311). -/
  | gcfgIndirect (n : Fin 16) (hit : ScratchHit)
  /-- SOPEN (R312). -/
  | sopen (n : Fin 16)
  /-- SCLOSE (R313). -/
  | sclose (n : Fin 16)
  /-- LDT (R319). -/
  | ldt (n : Fin 16) (hit : ScratchHit)
  /-- STT (R319). -/
  | stt (n : Fin 16)
  /-- MMA (R320). -/
  | mma (n : Fin 16) (hit : ScratchHit)
  /-- VMA (R321). -/
  | vma (n : Fin 16) (hit : ScratchHit)
  /-- EW_MOV (R323). -/
  | ewMov (n : Fin 16)
  /-- EW_ADD (R323). -/
  | ewAdd (n : Fin 16)
  /-- EW_SUB (R323). -/
  | ewSub (n : Fin 16)
  /-- EW_MUL (R323). -/
  | ewMul (n : Fin 16)
  /-- EW_FMA (R323). -/
  | ewFma (n : Fin 16)
  /-- EW_MAX (R323). -/
  | ewMax (n : Fin 16)
  /-- EW_MIN (R323). -/
  | ewMin (n : Fin 16)
  /-- EW_ABS (R323). -/
  | ewAbs (n : Fin 16)
  /-- EW_NEG (R323). -/
  | ewNeg (n : Fin 16)
  /-- EW_RCP (R323). -/
  | ewRcp (n : Fin 16)
  /-- EW_RSQRT (R323). -/
  | ewRsqrt (n : Fin 16)
  /-- EXP2 (R324). -/
  | exp2 (n : Fin 16)
  /-- SCALE (R324). -/
  | scale (n : Fin 16)
  /-- RMAX (R325). -/
  | rmax (n : Fin 16)
  /-- RED_SUM (R326). -/
  | redSum (n : Fin 16) (hit : ScratchHit)
  /-- RED_MAX (R326). -/
  | redMax (n : Fin 16) (hit : ScratchHit)
  /-- RED_MIN (R326). -/
  | redMin (n : Fin 16) (hit : ScratchHit)
  /-- CVT (R327). -/
  | cvt (n : Fin 16)
  /-- PACK (R328). -/
  | pack (n : Fin 16)
  /-- UNPACK (R328). -/
  | unpack (n : Fin 16)
  /-- TOPK (R329). -/
  | topk (n : Fin 16)
  /-- GATH (R330). -/
  | gath (n : Fin 16) (hit : ScratchHit)
  /-- SEND (R331). -/
  | send (n : Fin 16)
  /-- RECV (R332). -/
  | recv (n : Fin 16)
  /-- RRED (R333). -/
  | rred (n : Fin 16)
  /-- FENCE (R334). -/
  | fence (n : Fin 16)
  /-- QFB_INTERVAL (R352): the interval of a stack's controller ends, at a queue depth. -/
  | qfbInterval (m : Fin 24) (depth : Fin 8192)
  /-- QFB_CONGESTED (R353): the CONGESTED message of a stack reaches a source. -/
  | qfbCongested (src : Throttled) (m : Fin 24)
  /-- QFB_CLEAR (R353): the CLEAR message of a stack reaches a source. -/
  | qfbClear (src : Throttled) (m : Fin 24)
  /-- RGL_RECOMPUTE (R347): a write of RGL_MIN, RGL_STK_CFG or RGL_CTL. -/
  | rglRecompute (at' : RglTarget) (v : Word) (by' : Origin)
  /-- RGL_RECOMPUTE_DONE (R346). -/
  | rglRecomputeDone
  /-- TDF_ARM (R345): a write of RGL_TDF_CTL. -/
  | tdfArm (v : Word) (by' : Origin)
  /-- RGL_CNT_CLR (R357): a write of RGL_CTL. -/
  | rglCntClr (v : Word) (by' : Origin)
  /-- LINK_ENABLE (R370): a write of LNK_CTL[p]. -/
  | linkEnable (p : Fin 32) (v : Word) (by' : Origin)
  /-- LINK_DISABLE (R377): a write of LNK_CTL[p]. -/
  | linkDisable (p : Fin 32) (v : Word) (by' : Origin)
  /-- RETRAIN (R374): a write of LNK_CTL[p]. -/
  | retrain (p : Fin 32) (v : Word) (by' : Origin)
  /-- LNK_CNT_CLR (R377): a write of LNK_CTL[p]. -/
  | lnkCntClr (p : Fin 32) (v : Word) (by' : Origin)
  /-- RESET_HOLD_END (R370): input power has been good for 50 ms. -/
  | resetHoldEnd (p : Fin 32)
  /-- DETECT_SIGNAL (R370): the receive lanes that see a signal. -/
  | detectSignal (p : Fin 32) (lanes : Byte)
  /-- DETECT_TIMEOUT (R370). -/
  | detectTimeout (p : Fin 32)
  /-- ABSENT_CHECK (R370): the receive lanes that see a signal. -/
  | absentCheck (p : Fin 32) (lanes : Byte)
  /-- SYMBOL_LOCK (R364): a lane sees 32 consecutive commas; `inverted`: of the complement of K28.5; `freq`: its
  rate differs by more than 20 ppm (R359). -/
  | symbolLock (p : Fin 32) (lane : Fin 8) (inverted : Bool) (freq : Bool)
  /-- ALIGN_END (R370), `us` microseconds after entry into ALIGN. -/
  | alignEnd (p : Fin 32) (us : Nat)
  /-- EQ_FAST_END (R370): the eyes measured, lane 0 first. -/
  | eqFastEnd (p : Fin 32) (eyes : List Byte) (us : Nat)
  /-- EQ_SEARCH_STEP (R370): the eyes measured at the step in force, lane 0 first. -/
  | eqSearchStep (p : Fin 32) (eyes : List Byte)
  /-- EQ_SEARCH_END (R370). -/
  | eqSearchEnd (p : Fin 32) (us : Nat)
  /-- TRAIN_SET_RX (R369): symbols 1 to 15 of a set, as its copies arrive on physical lanes. -/
  | trainSetRx (p : Fin 32) (copies : List (Fin 8 × List Byte)) (us : Nat)
  /-- LANE_CHECK_TIMEOUT (R370). -/
  | laneCheckTimeout (p : Fin 32) (us : Nat)
  /-- CONFIG_TIMEOUT (R370). -/
  | configTimeout (p : Fin 32) (us : Nat)
  /-- HELD_DOWN_RETRY (R370). -/
  | heldDownRetry (p : Fin 32)
  /-- ALIGN_LOSS (R374): on a lane. -/
  | alignLoss (p : Fin 32) (lane : Fin 8)
  /-- ERRORS (R374): on a lane, within 65,536 symbols, so many code errors and disparity errors. -/
  | errors (p : Fin 32) (lane : Fin 8) (codeErrors dispErrors : Nat)
  /-- ELASTIC (R366): the fill of a lane's elastic buffer. -/
  | elastic (p : Fin 32) (lane : Fin 8) (fill : Fin 65)
  /-- DESKEW (R365). -/
  | deskew (p : Fin 32)
  /-- LOSS_OF_SIGNAL (R374). -/
  | lossOfSignal (p : Fin 32)
  /-- EYE_MEASURE (R367): the eyes measured, lane 0 first. -/
  | eyeMeasure (p : Fin 32) (eyes : List Byte)
  /-- RD (R385): a received husk of TYPE RD, as its header, payload and CRC. -/
  | rd (p : Fin 32) (hdr : BitVec 128) (payload : List Byte) (crc : BitVec 32)
  /-- WR (R385). -/
  | wr (p : Fin 32) (hdr : BitVec 128) (payload : List Byte) (crc : BitVec 32)
  /-- AT (R385). -/
  | atPost (p : Fin 32) (hdr : BitVec 128) (payload : List Byte) (crc : BitVec 32)
  /-- ATR (R385). -/
  | atr (p : Fin 32) (hdr : BitVec 128) (payload : List Byte) (crc : BitVec 32)
  /-- MCW (R395). -/
  | mcw (p : Fin 32) (hdr : BitVec 128) (payload : List Byte) (crc : BitVec 32)
  /-- BAR (R386). -/
  | bar (p : Fin 32) (hdr : BitVec 128) (payload : List Byte) (crc : BitVec 32)
  /-- MBAR (R386). -/
  | mbar (p : Fin 32) (hdr : BitVec 128) (payload : List Byte) (crc : BitVec 32)
  /-- RSP (R388). -/
  | rsp (p : Fin 32) (hdr : BitVec 128) (payload : List Byte) (crc : BitVec 32)
  /-- CRD (R390). -/
  | crd (p : Fin 32) (hdr : BitVec 128) (payload : List Byte) (crc : BitVec 32)
  /-- FRAMING_ERROR (R384). -/
  | framingError (p : Fin 32)
  /-- HUSK_SEND (R389): the head of a port's transmit queue leaves. -/
  | huskSend (p : Fin 32)
  /-- CRD_SEND (R390): the port sends a credit return. -/
  | crdSend (p : Fin 32)
  /-- TAG_TIMEOUT (R388): TAG_TMO has passed for a tag of a pool: 0 to 63 a destination, 64 multicast, 65 the host. -/
  | tagTimeout (pool : Fin 66) (tag : Fin 4096)
  /-- ROUTE_HOLD_END (R103). -/
  | routeHoldEnd (dest : Fin 64)
  /-- FORK_COPY_DROP (R396): MC_TMO has passed for the copy at an index of a port's fork queue. -/
  | forkCopyDrop (p : Fin 32) (index : Nat)
  /-- HELLO (R397). -/
  | hello (p : Fin 32) (b : HelloBody)
  /-- MASTER_ELECTED (R397): 10 ms have passed since the latest port entered UP. -/
  | masterElected
  /-- JOIN (R401). -/
  | join (p : Fin 32) (h : CtlHead) (b : JoinBody)
  /-- ASSIGN (R401). -/
  | assign (p : Fin 32) (h : CtlHead) (b : AssignBody)
  /-- MEMBERS (R400). -/
  | members (p : Fin 32) (h : CtlHead) (version : BitVec 32) (rows : List MemberRow)
  /-- ROUTES (R393). -/
  | routes (p : Fin 32) (h : CtlHead) (version : BitVec 32) (rows : List RouteRow)
  /-- GROUPS (R394). -/
  | groups (p : Fin 32) (h : CtlHead) (version : BitVec 32) (rows : List GroupRow)
  /-- PORT_DOWN (R403). -/
  | portDown (p : Fin 32) (h : CtlHead) (port : Fin 32) (far : BitVec 6)
  /-- PORT_UP (R400). -/
  | portUp (p : Fin 32) (h : CtlHead) (port : Fin 32) (far : BitVec 6)
  /-- LEAVE (R402). -/
  | leave (p : Fin 32) (h : CtlHead) (id : BitVec 6)
  /-- STRETCH (R34). -/
  | stretch (p : Fin 32) (h : CtlHead) (level : BitVec 4)
  /-- BEAT_QUERY (R400). -/
  | beatQuery (p : Fin 32) (h : CtlHead)
  /-- BEAT_REPLY (R400). -/
  | beatReply (p : Fin 32) (h : CtlHead) (number : BitVec 48)
  /-- ACK (R400). -/
  | ack (p : Fin 32) (h : CtlHead) (code : Byte) (version : BitVec 32)
  /-- CTL_RESEND (R400). -/
  | ctlResend
  /-- MEMBER_REMOVE (R400): 10 ms have passed without an acknowledgement. -/
  | memberRemove (m : Fin 64)
  /-- POD_LEAVE (R398): a write of TGL_POD_CTL. -/
  | podLeave (v : Word)
  /-- TGL_PORT_CNT_CLR (R407): a write of TGL_PORT_CTL[p]. -/
  | tglPortCntClr (p : Fin 32) (v : Word) (by' : Origin)
  /-- TGL_LOG_CLR (R407): a write of TGL_PORT_CTL[p]. -/
  | tglLogClr (p : Fin 32) (v : Word) (by' : Origin)
  /-- TDI_RD (R418): a command word from port p of site d; so for every row down to TDI_WAITTOK. -/
  | tdiRd (d : Fin 8) (p : Fin 64) (word : BitVec 128)
  /-- TDI_WR (R415). -/
  | tdiWr (d : Fin 8) (p : Fin 64) (word : BitVec 128)
  /-- TDI_AT (R415). -/
  | tdiAt (d : Fin 8) (p : Fin 64) (word : BitVec 128)
  /-- TDI_ATR (R418). -/
  | tdiAtr (d : Fin 8) (p : Fin 64) (word : BitVec 128)
  /-- TDI_FENCE (R419). -/
  | tdiFence (d : Fin 8) (p : Fin 64) (word : BitVec 128)
  /-- TDI_WAITTOK (R420). -/
  | tdiWaittok (d : Fin 8) (p : Fin 64) (word : BitVec 128)
  /-- TDI_WAITTOK_TIMEOUT (R420): WAIT_TMO has passed for the WAITTOK of a tag. -/
  | tdiWaittokTimeout (d : Fin 8) (p : Fin 64) (tag : Fin 1024)
  /-- TDI_DATA_FLIT (R421): a data flit, its byte mask and its parity bits (R411). -/
  | tdiDataFlit (d : Fin 8) (p : Fin 64) (data : BitVec 512) (mask : BitVec 64) (parity : Byte)
  /-- TDI_UNFENCE (R428): a write of TDI_PORT_CFG[p]. -/
  | tdiUnfence (d : Fin 8) (p : Fin 64) (v : Word) (by' : Origin)
  /-- TDI_CNT_CLR (R428): a write of TDI_CTL. -/
  | tdiCntClr (d : Fin 8) (v : Word)
  /-- GRANT_ARM (R423): a write of TDI_PWR_GRANT. -/
  | grantArm (d : Fin 8) (v : Word) (by' : Origin)
  /-- EIC_DOORBELL_ASSERT (R433): a DEASSERT 0 message at EIC_DOORBELL. -/
  | eicDoorbellAssert (v : Word)
  /-- EIC_DOORBELL_DEASSERT (R433): a DEASSERT 1 message at EIC_DOORBELL. -/
  | eicDoorbellDeassert (v : Word)
  /-- EIC_C_DOORBELL (R430): a message at a core's doorbell. -/
  | eicCDoorbell (c : Fin 11) (v : Word)
  /-- PEND_SET (R433): a write at EIC_PEND_SET[w], or with a core at EIC_C_PEND_SET[c]. -/
  | pendSet (at' : Bank) (v : Word)
  /-- PEND_CLR (R433). -/
  | pendClr (at' : Bank) (v : Word)
  /-- EN_SET (R433). -/
  | enSet (at' : Bank) (v : Word) (by' : Origin)
  /-- EN_CLR (R433). -/
  | enClr (at' : Bank) (v : Word) (by' : Origin)
  /-- CLAIM (R435): a read of EIC_C_CLAIM[c] of `size` bytes, starting `skew` bytes above its address. -/
  | claim (c : Fin 11) (skew : Fin 8) (size : Nat)
  /-- EOI (R436). -/
  | eoi (c : Fin 11) (v : Word)
  /-- MASK_SET (R438). -/
  | maskSet (c : Fin 11) (v : Word)
  /-- MASK_CLR (R438). -/
  | maskClr (c : Fin 11) (v : Word)
  /-- CORE_SLEEP (R438): the core's firmware executes wait-for-event. -/
  | coreSleep (c : Fin 11)
  /-- HV_TRIG (R440). -/
  | hvTrig (v : Word)
  /-- HV_CEILING (R441): CEIL has passed since the T0 of a vector. -/
  | hvCeiling (vec : Fin 4096)
  /-- HV_RETRY (R443): 100 µs have passed since a message of a vector ended otherwise than accepted. -/
  | hvRetry (vec : Fin 4096)
  /-- EIC_CNT_CLR (R457): a write of EIC_CTL. -/
  | eicCntClr (v : Word)
  /-- MBX_GO (R449): a write of MBX_CTL[i]. -/
  | mbxGo (i : Fin 17) (v : Word)
  /-- MBX_ACK (R449): a write of MBX_CTL[i]. -/
  | mbxAck (i : Fin 17) (v : Word)
  /-- QUIESCE (R454): the serving core takes the request in mailbox i. -/
  | quiesce (i : Fin 16)
  /-- QUIESCE_LIMIT (R454). -/
  | quiesceLimit
  /-- QUIESCE_DONE (R454). -/
  | quiesceDone
  /-- QUIESCE_ENTER (R454): 100 ms have passed since the response. -/
  | quiesceEnter
  /-- MBX_VERSION (R469): the serving core takes the request in mailbox i; so for every mailbox row below. -/
  | mbxVersion (i : Fin 16)
  /-- MBX_HELLO (R468): `straps`: the presence straps of sites 0 to 7, two bits each (R408). -/
  | mbxHello (i : Fin 16) (straps : BitVec 16)
  /-- ATTEST (R472). -/
  | attest (i : Fin 16)
  /-- ID_KEY (R471). -/
  | idKey (i : Fin 16)
  /-- FW_LOAD (R466): the next step of the request in the bulk mailbox; `straps` as for MBX_HELLO. -/
  | fwLoad (straps : BitVec 16)
  /-- FW_ACTIVATE (R475). -/
  | fwActivate (i : Fin 16)
  /-- FW_STATUS (R481). -/
  | fwStatus (i : Fin 16)
  /-- DEFECTS (R504). -/
  | defects (i : Fin 16)
  /-- FW_ACTIVATION (R477). -/
  | fwActivation
  /-- FW_ACTIVATION_DEFERRED_START (R476): a local edge, 100 ms or more after the emergency was reported cleared. -/
  | fwActivationDeferredStart
  /-- WATCHDOG_EXPIRY (R478): of core c, or with `fault` a core fault. -/
  | watchdogExpiry (c : Fin 11) (fault : Bool)
  /-- CORE_RUNS_AGAIN (R478). -/
  | coreRunsAgain (c : Fin 11)
  /-- POWER_STAGE_FAULT (R512). -/
  | powerStageFault (n : Fin 8)
  /-- RAIL_REGULATION_TIMEOUT (R515). -/
  | railRegulationTimeout
  /-- HOUSEKEEPING_MEASURE (R525): the reading of channel j of die d; none for an open or shorted input. `written`: how
  many items of the flush of R522 are written in time, should the reading cause thermal shutdown. -/
  | housekeepingMeasure (d : Fin 8) (j : Fin 48) (reading : Option (BitVec 16)) (written : Nat)
  /-- BUDGET_ROUND (R518). -/
  | budgetRound
  /-- LIMITER_UV (R519). -/
  | limiterUv
  /-- LIMITER_OC (R519). -/
  | limiterOc
  /-- LIMITER_RELEASE (R519). -/
  | limiterRelease (e : LimiterEnd)
  /-- LIMITER_HOLD_EXPIRY (R521). -/
  | limiterHoldExpiry
  /-- EMERGENCY_CLEAR (R521): a write of PWR_EMERG. -/
  | emergencyClear (v : Word) (by' : Origin)
  /-- EMERGENCY_AUTO_CLEAR (R521). -/
  | emergencyAutoClear
  /-- INPUT_LOSS (R522): `written`: how many items of the flush are written in time. -/
  | inputLoss (cause : LossCause) (written : Nat)
  /-- HOLDUP_END (R522). -/
  | holdupEnd
  /-- INPUT_RETURN (R523). -/
  | inputReturn (pins : PowerPins)
  /-- HOLDUP_READY_CHANGE (R524). -/
  | holdupReadyChange (ready : Bool)
  /-- SNAP_ARM (R535): a write of SNP_ARM. -/
  | snapArm (v : Word) (by' : Origin)
  /-- SNAP_CANCEL (R552): a write of SNP_ARM. -/
  | snapCancel (v : Word) (by' : Origin)
  /-- SNAP_TRIG (R535): a write of SNP_TRIG. -/
  | snapTrig (v : Word)
  /-- SNAP_IN (R535): a rising edge on the pin. -/
  | snapIn
  /-- SNAP (R540): a received husk of TYPE SNAP. -/
  | snap (p : Fin 32) (hdr : BitVec 128) (payload : List Byte) (crc : BitVec 32)
  /-- SNAP_RELEASE (R537): a write of SNP_CTL. -/
  | snapRelease (v : Word) (by' : Origin)
  /-- SNAP_DUMP (R541): a write of SNP_DUMP_CTL. -/
  | snapDump (v : Word)
  /-- SNAP_DUMP_DONE (R541): the writes of a dump have been answered. -/
  | snapDumpDone
  /-- JOURNAL_FLUSH (R546): copying stops after `entries` entries, at most one sector. -/
  | journalFlush (entries : Fin 1366)
  /-- JOURNAL_DUMP (R547): a write of JRN_DUMP_CTL. -/
  | journalDump (v : Word)
  /-- JOURNAL_DUMP_DONE (R547). -/
  | journalDumpDone
  /-- WEAR_EOL_COMPUTE (R549). -/
  | wearEolCompute
  /-- WEAR_RECORD_FLUSH (R550). -/
  | wearRecordFlush
  /-- WEAR_DAILY_VALUE (R548): the daily values taken. -/
  | wearDailyValue (values : List (Wearing × BitVec 32))
  /-- REFCLK_LOSS (R577). -/
  | refclkLoss
  /-- REFCLK_RETURN (R577). -/
  | refclkReturn
  /-- I3C_REGISTER_WRITE (R582): the bytes of a private write. -/
  | i3cRegisterWrite (bytes : List Byte)
  /-- I3C_READ_REQUEST (R582): the bytes of a private write. -/
  | i3cReadRequest (bytes : List Byte)
  /-- I3C_PRIVATE_READ (R582). -/
  | i3cPrivateRead
  /-- ENTDAA (R581): the address offered to this target. -/
  | entdaa (a : BitVec 7)
  /-- SETDASA (R581): the static address it names, and the dynamic address. -/
  | setdasa (static : BitVec 7) (a : BitVec 7)
  /-- RSTDAA (R581). -/
  | rstdaa
  /-- ENEC (R581). -/
  | enec
  /-- DISEC (R581). -/
  | disec
  /-- GETPID (R581). -/
  | getpid
  /-- GETBCR (R581). -/
  | getbcr
  /-- GETDCR (R581). -/
  | getdcr
  /-- GETSTATUS (R581). -/
  | getstatus
  /-- GETMWL (R581). -/
  | getmwl
  /-- GETMRL (R581). -/
  | getmrl
  /-- BYPASS (R583): also every unlisted code. -/
  | bypass
  /-- IDCODE (R583). -/
  | idcode
  /-- SAMPLE_PRELOAD (R583): what the pins show, and what is shifted in. -/
  | samplePreload (pins load : BitVec 20)
  /-- EXTEST (R584): what the pins show, and what is shifted in. -/
  | extest (pins load : BitVec 20)
  deriving DecidableEq, Repr

end Sys2Proof
end

