-- ==== Sys2Proof/Decode.lean ====
section
/-!
DEFINITION. The commands that a word of the opcode table spells. No row of the table gives bits (every row's list of
fields is empty), so no word spells a command.
-/
namespace Sys2Proof

/-- The command that a word of so many bits spells by the table's bits: none, as no row gives bits. -/
def decodeTableWord (_nbits _w : Nat) : Option Instr := none

end Sys2Proof
end

