-- ==== Sys2Proof/Config.lean ====
section
/-!
DEFINITION. What the spec leaves open: constants without a body, so that nothing can be proved of their values. A free
value is such a constant applied to the count of free values drawn so far, which the state holds.
-/
namespace Sys2Proof.Config

/-- A byte whose value the spec leaves open, fresh for each number. -/
opaque freeByte : Nat → Byte

/-- A number whose value the spec leaves open, fresh for each number. -/
opaque freeNat : Nat → Nat

/-- The requester identity that the package's own traffic carries, for which R381 gives no unit. -/
opaque packageRid : BitVec 14

/-- The payload bytes of a control message by its CODE and how many rows it carries: R400 fixes its header and what
the body holds, not the body's layout. -/
opaque ctlBytes : Nat → Nat → Nat

/-- Which of the allowed results RCP and RSQRT return for an operand: R283 bounds their error and fixes no value. -/
opaque rcpPick : Nat → Nat
opaque rsqrtPick : Nat → Nat

/-- ML-DSA-87 (R463, R471, R473), which the spec names and does not define: whether a signature verifies over a message
with a public key, and byte i of the public key and of a signature that a seed gives. -/
opaque mldsaVerify : List Byte → List Byte → List Byte → Bool
opaque mldsaPublic : List Byte → Nat → Byte
opaque mldsaSign : List Byte → List Byte → Nat → Byte

/-- Byte i of the mask ROM's measurement (R464). -/
opaque germMeasure : Nat → Byte

/-- The interface minor version of a firmware image by its VERSION (R450, R469). -/
opaque interfaceMinor : Nat → BitVec 16

/-- Sesora's manufacturer identity code in IDCODE, which the BSDL file gives (R583). -/
opaque manufacturer : BitVec 11

/-- The bus characteristics and the device characteristics register of the I3C target, which R581 names and gives no
value. -/
opaque busCharacteristics : Byte
opaque deviceCharacteristics : Byte

end Sys2Proof.Config
end

