-- ==== Sys2Proof/Machine/Fp.lean ====
section
/-!
DEFINITION. Binary floating point by exact arithmetic: a finite value is an integer times a power of two, an operation
is computed exactly and rounded once to nearest even (R134, R264 to R266, R283). Formats are given by the widths of
their exponent and mantissa fields.
-/
namespace Sys2Proof

/-- A value: finite (man × 2^exp, with the sign kept for zeros), infinite, or not a number. -/
inductive FVal where
  | fin (neg : Bool) (man : Nat) (exp : Int)
  | inf (neg : Bool)
  | nan
  deriving DecidableEq, Repr

namespace Fp

/-- The number of binary digits of a number: 0 for 0. -/
def digits (n : Nat) : Nat := if n = 0 then 0 else Nat.log2 n + 1

/-- m divided by 2^k, rounded to nearest, ties to even. -/
def shiftRne (m k : Nat) : Nat :=
  let q := m / 2 ^ k
  let r := m % 2 ^ k
  if k = 0 then m
  else if 2 * r > 2 ^ k ∨ (2 * r = 2 ^ k ∧ q % 2 = 1) then q + 1 else q

/-- The value of the bits of an IEEE format with `eb` exponent and `mb` mantissa bits. -/
def decodeIeee (eb mb b : Nat) : FVal :=
  let bias : Int := (2 ^ (eb - 1) : Nat) - 1
  let neg := b / 2 ^ (eb + mb) % 2 = 1
  let e := b / 2 ^ mb % 2 ^ eb
  let m := b % 2 ^ mb
  if e = 2 ^ eb - 1 then (if m = 0 then .inf neg else .nan)
  else if e = 0 then .fin neg m (1 - bias - mb)
  else .fin neg (m + 2 ^ mb) ((e : Int) - bias - mb)

/-- The bits of man × 2^exp rounded to nearest even to an IEEE format; a value beyond the largest finite one gives an
infinity. Subnormals are kept. -/
def encodeFinite (eb mb : Nat) (neg : Bool) (man : Nat) (exp : Int) : Nat :=
  let bias : Int := (2 ^ (eb - 1) : Nat) - 1
  let s := if neg then 2 ^ (eb + mb) else 0
  if man = 0 then s
  else
    -- exponent of the last place of the result
    let top : Int := exp + digits man - 1
    let low : Int := 1 - bias
    let ulp : Int := (if top < low then low else top) - mb
    let q := if exp ≥ ulp then man * 2 ^ (exp - ulp).toNat else shiftRne man (ulp - exp).toNat
    -- q counts units of 2^ulp; a carry out of the mantissa moves to the next exponent by itself
    let field := if top < low then q else q + ((ulp + mb + bias).toNat - 1) * 2 ^ mb
    if field ≥ (2 ^ eb - 1) * 2 ^ mb then s + (2 ^ eb - 1) * 2 ^ mb else s + field

/-- The canonical quiet NaN of an IEEE format: positive, the top mantissa bit set. -/
def quietNan (eb mb : Nat) : Nat := (2 ^ eb - 1) * 2 ^ mb + 2 ^ (mb - 1)

/-- The bits of a value in an IEEE format, rounded to nearest even. -/
def encodeIeee (eb mb : Nat) : FVal → Nat
  | .nan => quietNan eb mb
  | .inf neg => (if neg then 2 ^ (eb + mb) else 0) + (2 ^ eb - 1) * 2 ^ mb
  | .fin neg m e => encodeFinite eb mb neg m e

/-- The signed integer at a common scale. -/
def signedAt (neg : Bool) (man : Nat) (exp base : Int) : Int :=
  let v : Int := man * 2 ^ (exp - base).toNat
  if neg then -v else v

/-- An exact value from a signed integer; `zneg` is the sign of a zero. -/
def ofSigned (v : Int) (exp : Int) (zneg : Bool) : FVal :=
  if v = 0 then .fin zneg 0 exp else .fin (v < 0) v.natAbs exp

/-- The exact sum. A zero sum of operands of opposite sign is positive. -/
def add : FVal → FVal → FVal
  | .nan, _ => .nan
  | _, .nan => .nan
  | .inf a, .inf b => if a = b then .inf a else .nan
  | .inf a, _ => .inf a
  | _, .inf b => .inf b
  | .fin sa ma ea, .fin sb mb eb =>
    let base := min ea eb
    ofSigned (signedAt sa ma ea base + signedAt sb mb eb base) base (sa && sb)

/-- The exact product. -/
def mul : FVal → FVal → FVal
  | .nan, _ => .nan
  | _, .nan => .nan
  | .inf a, .inf b => .inf (a != b)
  | .inf a, .fin b m _ => if m = 0 then .nan else .inf (a != b)
  | .fin a m _, .inf b => if m = 0 then .nan else .inf (a != b)
  | .fin sa ma ea, .fin sb mb eb => .fin (sa != sb) (ma * mb) (ea + eb)

/-- The value with its sign changed; a NaN stays. -/
def neg : FVal → FVal
  | .nan => .nan
  | .inf a => .inf !a
  | .fin a m e => .fin (!a) m e

/-- Whether the first finite or infinite value is below the second; false with a NaN. Zeros are equal. -/
def lt : FVal → FVal → Bool
  | .nan, _ => false
  | _, .nan => false
  | .inf a, .inf b => a && !b
  | .inf a, .fin _ _ _ => a
  | .fin _ _ _, .inf b => !b
  | .fin sa ma ea, .fin sb mb eb =>
    let base := min ea eb
    decide (signedAt sa ma ea base < signedAt sb mb eb base)

/-- binary32. -/
def dec32 (b : Nat) : FVal := decodeIeee 8 23 b
def enc32 (v : FVal) : Nat := encodeIeee 8 23 v

/-- The binary32 sum of R134. -/
def add32 (a b : Nat) : Nat := enc32 (add (dec32 a) (dec32 b))

end Fp

end Sys2Proof
end

