-- ==== Sys2Proof/Machine/NumFmt.lean ====
section
/-!
DEFINITION. The number formats of the near-memory engines and the values that their operations produce (10_nme_arithmetic):
widening, narrowing, block packing, stochastic rounding, chunk sums, and the operations on FP32 values. An operation on
FP32 values answers the bits of its result and the flags of R291 that it sets.
-/
namespace Sys2Proof.Nf

/-- The bits of AF (R291). -/
def afINVALID := 1
def afNAN_SEEN := 2
def afOVERFLOW := 4
def afSAT := 8
def afUNDERFLOW := 16

/-- The format codes of R264. -/
def fmFP32 := 0
def fmBF16 := 1
def fmFP16 := 2
def fmE4M3 := 3
def fmE5M2 := 4
def fmMX_E4M3 := 5
def fmMX_E5M2 := 6
def fmMX_E3M2 := 7
def fmMX_E2M3 := 8
def fmMX_E2M1 := 9
def fmMXINT8 := 10
def fmINT8R := 11
def fmDS4 := 12
def fmINT32 := 13

/-- A code that names a format (R264). -/
def known (fmt : Nat) : Bool := decide (fmt ≤ 13)

/-- Bits of an element (R264). -/
def elemBits (fmt : Nat) : Nat :=
  if fmt = fmFP32 ∨ fmt = fmINT32 then 32 else if fmt = fmBF16 ∨ fmt = fmFP16 then 16
  else if fmt = fmMX_E3M2 ∨ fmt = fmMX_E2M3 then 6 else if fmt = fmMX_E2M1 ∨ fmt = fmDS4 then 4 else 8

/-- A format of 32-element blocks: the MX formats and DS4. -/
def isBlock (fmt : Nat) : Bool := (fmMX_E4M3 ≤ fmt && fmt ≤ fmMXINT8) || fmt == fmDS4

/-- Bytes of a block (R264). -/
def blockBytes (fmt : Nat) : Nat :=
  if fmt = fmDS4 then 18 else if fmt = fmMX_E2M1 then 17 else if fmt = fmMX_E3M2 ∨ fmt = fmMX_E2M3 then 25 else 33

/-- Bytes that `n` elements take. -/
def bytesFor (fmt n : Nat) : Nat := if isBlock fmt then (n + 31) / 32 * blockBytes fmt else n * (elemBits fmt / 8)

/-- Elements that a row of so many bytes holds (R315). -/
def capacity (fmt bytes : Nat) : Nat := if isBlock fmt then bytes / blockBytes fmt * 32 else bytes / (elemBits fmt / 8)

/-- Exponent bits, mantissa bits and largest magnitude code of a float format or float element. -/
def grid (fmt : Nat) : Nat × Nat × Nat :=
  if fmt = fmFP32 then (8, 23, 0x7F7FFFFF) else if fmt = fmBF16 then (8, 7, 0x7F7F) else if fmt = fmFP16 then (5, 10, 0x7BFF)
  else if fmt = fmE4M3 ∨ fmt = fmMX_E4M3 then (4, 3, 0x7E) else if fmt = fmE5M2 ∨ fmt = fmMX_E5M2 then (5, 2, 0x7B)
  else if fmt = fmMX_E3M2 then (3, 2, 31) else if fmt = fmMX_E2M3 then (2, 3, 31) else (2, 1, 7)

/-- The value of an element code of a float format (R265, R266); a code above the largest finite one is an infinity or
a NaN. -/
def decFloat (fmt b : Nat) : FVal :=
  let (eb, mb, top) := grid fmt
  let neg := b / 2 ^ (eb + mb) % 2 = 1
  let e := b / 2 ^ mb % 2 ^ eb
  let m := b % 2 ^ mb
  let bias : Int := (2 ^ (eb - 1) : Nat) - 1
  if top < b % 2 ^ (eb + mb) then
    (if m = 0 then .inf neg else .nan)
  else if e = 0 then .fin neg m (1 - bias - mb)
  else .fin neg (m + 2 ^ mb) ((e : Int) - bias - mb)

/-- A two's-complement number of `n` bits as a value. -/
def decInt (n b : Nat) : FVal :=
  let b := b % 2 ^ n
  if b < 2 ^ (n - 1) then FVal.fin false b 0 else FVal.fin true (2 ^ n - b) 0

/-- A value times a power of two. -/
def scaled (v : FVal) (e : Int) : FVal :=
  match v with
  | .fin s m x => .fin s m (x + e)
  | v => v

/-- Element i of a block, as its code (R267, R268). -/
def blockCode (fmt : Nat) (blk : List Byte) (i : Nat) : Nat :=
  let at' := fun j => (blk.getD j 0).toNat
  if fmt = fmMX_E3M2 ∨ fmt = fmMX_E2M3 then Word.ofBytes (blk.drop 1) / 2 ^ (6 * i) % 64
  else if fmt = fmMX_E2M1 then at' (1 + i / 2) / 2 ^ (4 * (i % 2)) % 16
  else if fmt = fmDS4 then at' (2 + i / 2) / 2 ^ (4 * (i % 2)) % 16
  else at' (1 + i)

/-- The 32 values of a block (R267, R268). -/
def decBlock (fmt : Nat) (blk : List Byte) : List FVal :=
  let x := (blk.getD 0 0).toNat
  (List.range 32).map fun i =>
    if x = 255 then .nan
    else
      let shift : Nat := if fmt = fmDS4 then (blk.getD 1 0).toNat / 4 ^ (i / 8) % 4 else 0
      let c := blockCode fmt blk i
      scaled (if fmt = fmMXINT8 then scaled (decInt 8 c) (-6) else decFloat fmt c) ((x : Int) - 127 - (shift : Nat))

/-- The exact values of the first `n` elements that bytes hold, an INT8R row under its scale (R269). -/
def decode (fmt rowScale : Nat) (bs : List Byte) (n : Nat) : List FVal :=
  if isBlock fmt then
    ((List.range ((n + 31) / 32)).flatMap fun b =>
      decBlock fmt ((bs.drop (b * blockBytes fmt)).take (blockBytes fmt))).take n
  else
    let w := elemBits fmt / 8
    (List.range n).map fun i =>
      let c := Word.ofBytes ((bs.drop (w * i)).take w)
      if fmt = fmINT32 then decInt 32 c
      else if fmt = fmINT8R then Fp.mul (decInt 8 c) (Fp.dec32 rowScale)
      else decFloat fmt c

/-- A NaN. -/
def isNan (v : FVal) : Bool := decide (v = FVal.nan)

/-- The flag of reading a NaN (R291). -/
def seen (vs : List FVal) : Nat := if vs.any isNan then afNAN_SEEN else 0

/-- A value rounded to FP32, and the flags of the rounding (R282). -/
def round32 (v : FVal) : Nat × Nat :=
  match v with
  | .fin _ m _ =>
    let b := Fp.enc32 v
    (b, if m ≠ 0 ∧ b % 2 ^ 31 = 0 then afUNDERFLOW else if b % 2 ^ 31 = 0x7F800000 then afOVERFLOW else 0)
  | v => (Fp.enc32 v, 0)

/-- The exact result of an operation on operands, rounded, with its flags. -/
def result (ops : List FVal) (v : FVal) : Nat × Nat :=
  let (b, f) := round32 v
  (b, f ||| seen ops ||| (if isNan v && !ops.any isNan then afINVALID else 0))

/-- Widening (R270): the FP32 bits of exact values. An INT8R or INT32 value may be rounded. -/
def widen (vs : List FVal) : List Nat × Nat := (vs.map Fp.enc32, seen vs)

/-- A draw of 16 bits decides a stochastic rounding (R278); without one the rounding is to nearest even (R271). The
quotient num/den as an integer. -/
def roundDiv (draw : Option Nat) (num den : Nat) : Nat :=
  let q := num / den
  let r := num % den
  match draw with
  | some d => if d < r * 65536 / den then q + 1 else q
  | none => if den < 2 * r ∨ (2 * r = den ∧ q % 2 = 1) then q + 1 else q

/-- man × 2^exp rounded to an integer. -/
def roundInt (draw : Option Nat) (man : Nat) (exp : Int) : Nat :=
  if 0 ≤ exp then man * 2 ^ exp.toNat else roundDiv draw man (2 ^ (-exp).toNat)

/-- The magnitude code of man × 2^exp on a float grid that goes on without end. -/
def gridCode (eb mb : Nat) (draw : Option Nat) (man : Nat) (exp : Int) : Nat :=
  if man = 0 then 0
  else
    let bias : Int := (2 ^ (eb - 1) : Nat) - 1
    let top : Int := exp + Fp.digits man - 1
    let low : Int := 1 - bias
    let ulp : Int := (if top < low then low else top) - mb
    let q := roundInt draw man (exp - ulp)
    if top < low then q else q + ((ulp + mb + bias).toNat - 1) * 2 ^ mb

/-- Narrowing of an FP32 value to a scalar format (R271 to R273): the code and the flags. An infinity written to E4M3
gives a NaN with INVALID, or with SAT the largest value with the SAT flag (R272, R291). -/
def narrow (fmt : Nat) (sat : Bool) (v : FVal) : Nat × Nat :=
  let (eb, mb, top) := grid fmt
  let sign := fun (n : Bool) => if n then 2 ^ (eb + mb) else 0
  if fmt = fmINT32 then
    let big := fun (n : Bool) => (if n then 2 ^ 31 else 2 ^ 31 - 1, afSAT)
    match v with
    | .nan => (0, afINVALID ||| afNAN_SEEN)
    | .inf n => big n
    | .fin n m e =>
      let q := roundInt none m e
      if (n ∧ 2 ^ 31 < q) ∨ (¬n ∧ 2 ^ 31 ≤ q) then big n
      else (if n then (2 ^ 32 - q) % 2 ^ 32 else q, if m ≠ 0 ∧ q = 0 then afUNDERFLOW else 0)
  else
    match v with
    | .nan => (if fmt = fmE4M3 then 0x7F else Fp.quietNan eb mb, afNAN_SEEN)
    | .inf n =>
      if fmt ≠ fmE4M3 then (sign n + (2 ^ eb - 1) * 2 ^ mb, 0)
      else if sat then (sign n + top, afSAT) else (sign n + 0x7F, afINVALID)
    | .fin n m e =>
      let q := gridCode eb mb none m e
      if q ≤ top then (sign n + q, if m ≠ 0 ∧ q = 0 then afUNDERFLOW else 0)
      else if sat then (sign n + top, afSAT) else (sign n + top + 1, afOVERFLOW)

/-- floor(log2) of a positive magnitude. -/
def expOf (man : Nat) (exp : Int) : Int := exp + Fp.digits man - 1

/-- The larger of two finite magnitudes. -/
def magMax (a b : FVal) : FVal :=
  match a, b with
  | .fin _ m e, .fin _ n f => if Fp.lt (.fin false m e) (.fin false n f) then .fin false n f else .fin false m e
  | a, _ => a

/-- The largest magnitude of finite values. -/
def amax (vs : List FVal) : FVal := vs.foldl magMax (.fin false 0 0)

/-- An element of a block: a finite value already divided by its scale, rounded and saturated (R271, R272, R278); zero
is written as +0 in the 4-bit and 6-bit formats (R266). -/
def encElem (fmt : Nat) (draw : Option Nat) (neg : Bool) (man : Nat) (exp : Int) : Nat × Nat :=
  if fmt = fmMXINT8 then
    let q := roundInt draw man (exp + 6)
    let c := min q 127
    (if neg then (256 - c) % 256 else c,
      if 127 < q then afSAT else if man ≠ 0 ∧ q = 0 then afUNDERFLOW else 0)
  else
    let (eb, mb, top) := grid fmt
    let q := gridCode eb mb draw man exp
    let c := min q top
    let keep := c ≠ 0 ∨ elemBits fmt = 8
    (if neg ∧ keep then 2 ^ (eb + mb) + c else c,
      if top < q then afSAT else if man ≠ 0 ∧ q = 0 then afUNDERFLOW else 0)

/-- emax of an element format (R274). -/
def emax (fmt : Nat) : Int :=
  if fmt = fmMX_E4M3 then 8 else if fmt = fmMX_E5M2 then 15 else if fmt = fmMX_E3M2 then 4
  else if fmt = fmMXINT8 then 0 else 2

/-- The scale code of a block whose largest magnitude is man × 2^exp (R274, R275). -/
def scaleCode (fmt man : Nat) (exp : Int) : Nat := (min 254 (max 0 (expOf man exp - emax fmt + 127))).toNat

/-- The shift of a DS4 group under a block scale (R275). -/
def groupShift (x : Nat) (g : List FVal) : Nat :=
  match amax g with
  | .fin _ m e => if m = 0 then 3 else (min 3 (max 0 ((x : Int) - 125 - expOf m e))).toNat
  | _ => 0

/-- The bytes of a block from its scale, its shift byte and its element codes (R267, R268). -/
def blockOf (fmt x shifts : Nat) (codes : List Nat) : List Byte :=
  let spread := fun (bits : Nat) => (codes.zipIdx.map fun c => c.1 * 2 ^ (bits * c.2)).sum
  BitVec.ofNat 8 x ::
    (if fmt = fmDS4 then BitVec.ofNat 8 shifts :: Word.bytes 16 (spread 4)
      else if fmt = fmMX_E2M1 then Word.bytes 16 (spread 4)
      else if elemBits fmt = 6 then Word.bytes 24 (spread 6)
      else codes.map fun c => BitVec.ofNat 8 c)

/-- A finite value. -/
def isFin : FVal → Bool
  | .fin _ _ _ => true
  | _ => false

/-- PACK of 32 values to an MX or DS4 block (R274 to R276), with a draw for each element where it rounds
stochastically. -/
def packBlock (fmt : Nat) (draws : List (Option Nat)) (vs : List FVal) : List Byte × Nat :=
  if vs.any fun v => !isFin v then (blockOf fmt 255 0 (List.replicate 32 0), afINVALID ||| seen vs)
  else
    match amax vs with
    | .fin _ 0 _ => (blockOf fmt 127 0 (List.replicate 32 0), 0)
    | .fin _ m e =>
      let x := scaleCode fmt m e
      let shift := fun i => if fmt = fmDS4 then groupShift x ((vs.drop (8 * (i / 8))).take 8) else 0
      let elems := vs.zipIdx.map fun v =>
        match v.1 with
        | .fin n m e => encElem fmt (draws.getD v.2 none) n m (e - ((x : Int) - 127) + shift v.2)
        | _ => (0, 0)
      (blockOf fmt x (((List.range 4).map fun g => shift (8 * g) * 4 ^ g).sum) (elems.map Prod.fst),
        elems.foldl (fun f c => f ||| c.2) 0)
    | _ => ([], 0)

/-- The quotient of a magnitude by a number, to 64 bits beyond its own and a sticky bit: it rounds like the exact
quotient. -/
def quotient (man : Nat) (exp : Int) (den : Nat) : Nat × Int :=
  let n := man * 2 ^ 64
  (2 * (n / den) + (if n % den = 0 then 0 else 1), exp - 65)

/-- PACK of a row to INT8R (R277): the bytes, the row scale and the flags. Where the scale itself rounds to 0, a nonzero
element saturates and the quotient 0/0 of a zero element has no value: free number `free` stands for it. -/
def packRow (draws : List (Option Nat)) (free : Nat) (vs : List FVal) : List Byte × Nat × Nat :=
  if vs.any fun v => !isFin v then (List.replicate vs.length 0, 0x7FC00000, afINVALID ||| seen vs)
  else
    match amax vs with
    | .fin _ 0 _ => (List.replicate vs.length 0, 0x3F800000, 0)
    | .fin _ m e =>
      let (qm, qe) := quotient m e 127
      let sc := Fp.enc32 (.fin false qm qe)
      let elems := vs.zipIdx.map fun v =>
        match v.1, Fp.dec32 sc with
        | .fin n m e, .fin _ d f =>
          if d = 0 ∧ m = 0 then (Config.freeNat (free + v.2) % 127, 0)
          else
            let up := m * 2 ^ (e - f).toNat
            let q := if d = 0 then 128 else roundDiv (draws.getD v.2 none) up (d * 2 ^ (f - e).toNat)
            let c := min q 127
            (if n then (256 - c) % 256 else c, if 127 < q then afSAT else if m ≠ 0 ∧ q = 0 then afUNDERFLOW else 0)
        | _, _ => (0, 0)
      (elems.map fun c => BitVec.ofNat 8 c.1, sc, elems.foldl (fun f c => f ||| c.2) 0)
    | _ => ([], 0, 0)

/-- One step of the LFSR (R279): the new state and the bit f. -/
def lfsrStep (st : Nat) : Nat × Nat :=
  let b := fun i => st / 2 ^ i % 2
  let f := (b 31 + b 21 + b 1 + b 0) % 2
  (st * 2 % 2 ^ 32 + f, f)

/-- A draw of `n` bits, the first on top (R279). -/
def lfsrDraw : Nat → Nat → Nat → Nat × Nat
  | 0, st, r => (st, r)
  | n + 1, st, r => let (st, f) := lfsrStep st; lfsrDraw n st (2 * r + f)

/-- The draws of `n` elements that are rounded stochastically, and the state after them; without stochastic rounding
nothing is drawn. -/
def drawAll (sr : Bool) : Nat → Nat → List (Option Nat) × Nat
  | 0, st => ([], st)
  | n + 1, st =>
    if sr then
      let (st, r) := lfsrDraw 16 st 0
      let (l, st) := drawAll sr n st
      (some r :: l, st)
    else
      let (l, st) := drawAll sr n st
      (none :: l, st)

/-- A list cut into parts of `n`. -/
def chunksOf {α : Type} (n : Nat) : Nat → List α → List (List α)
  | 0, _ => []
  | k + 1, l => if l.isEmpty then [] else l.take n :: chunksOf n k (l.drop n)

/-- One chunk added to an accumulator (R281, R282): exact products, their exact sum with the accumulator, one
rounding. -/
def chunkStep (acc : Nat) (l : List (FVal × FVal)) : Nat × Nat :=
  let products := l.map fun p => Fp.mul p.1 p.2
  let a := Fp.dec32 acc
  let bad := (l.zip products).any fun p => isNan p.2 && !isNan p.1.1 && !isNan p.1.2
  let sum := products.foldl Fp.add a
  let (b, f) := round32 sum
  let clash := isNan sum && !isNan a && !products.any isNan
  (b, f ||| seen (a :: (l.map Prod.fst ++ l.map Prod.snd)) ||| (if bad || clash then afINVALID else 0))

/-- A dot product in chunks of `n`, in ascending order (R281). -/
def dot (n acc : Nat) (l : List (FVal × FVal)) : Nat × Nat :=
  (chunksOf n l.length l).foldl (fun (a : Nat × Nat) c => let (b, f) := chunkStep a.1 c; (b, a.2 ||| f)) (acc, 0)

/-- The chunk length of two input formats (R281); INT32 counts as a 32-bit format. -/
def chunkLen (f g : Nat) : Nat :=
  let w := max (elemBits f) (elemBits g)
  if w ≤ 8 then 32 else if w = 16 then 8 else 1

/-- The operations of R283. -/
def add (a b : Nat) : Nat × Nat := result [Fp.dec32 a, Fp.dec32 b] (Fp.add (Fp.dec32 a) (Fp.dec32 b))
def sub (a b : Nat) : Nat × Nat := result [Fp.dec32 a, Fp.dec32 b] (Fp.add (Fp.dec32 a) (Fp.neg (Fp.dec32 b)))
def mul (a b : Nat) : Nat × Nat := result [Fp.dec32 a, Fp.dec32 b] (Fp.mul (Fp.dec32 a) (Fp.dec32 b))
def fma (a b c : Nat) : Nat × Nat :=
  result [Fp.dec32 a, Fp.dec32 b, Fp.dec32 c] (Fp.add (Fp.mul (Fp.dec32 a) (Fp.dec32 b)) (Fp.dec32 c))

/-- MOV keeps every bit; ABS and NEG touch the sign alone (R283). -/
def mov (a : Nat) : Nat × Nat := (a, seen [Fp.dec32 a])
def abs (a : Nat) : Nat × Nat := (a % 2 ^ 31, seen [Fp.dec32 a])
def neg (a : Nat) : Nat × Nat := (if a < 2 ^ 31 then a + 2 ^ 31 else a - 2 ^ 31, seen [Fp.dec32 a])

/-- Whether a is below b, −0 below +0 (R283). -/
def below (a b : Nat) : Bool :=
  Fp.lt (Fp.dec32 a) (Fp.dec32 b) || (a == 2 ^ 31 && b == 0)

/-- MAX and MIN, exact; a NaN operand gives the NaN of R270 (R283). -/
def max' (a b : Nat) : Nat × Nat :=
  if seen [Fp.dec32 a, Fp.dec32 b] = 0 then (if below a b then b else a, 0) else (0x7FC00000, afNAN_SEEN)
def min' (a b : Nat) : Nat × Nat :=
  if seen [Fp.dec32 a, Fp.dec32 b] = 0 then (if below b a then b else a, 0) else (0x7FC00000, afNAN_SEEN)

/-- A magnitude q × 2^ulp as FP32 bits, with the flags of a result. -/
def placed (neg : Bool) (q : Nat) (ulp : Int) : Nat × Nat := round32 (.fin neg q ulp)

/-- The exponent of an FP32 ulp at a magnitude whose floor(log2) is given. -/
def ulpAt (top : Int) : Int := (if top < -126 then -126 else top) - 23

/-- RCP (R283): one of the FP32 values within 1 ulp of the reciprocal. -/
def rcp (a : Nat) : Nat × Nat :=
  match Fp.dec32 a with
  | .nan => (0x7FC00000, afNAN_SEEN)
  | .inf n => (if n then 2 ^ 31 else 0, 0)
  | .fin n 0 _ => (Fp.enc32 (.inf n), 0)
  | .fin n m e =>
    -- 1 / (m · 2^e): floor(log2) is -e - digits, or one more for a power of two
    let top : Int := if m = 2 ^ (Fp.digits m - 1) then 1 - e - Fp.digits m else -e - Fp.digits m
    let ulp := ulpAt top
    let k := -e - ulp
    let (num, den) := if 0 ≤ k then (2 ^ k.toNat, m) else (1, m * 2 ^ (-k).toNat)
    let q := num / den
    if num % den = 0 then placed n (q - 1 + Config.rcpPick a % 3) ulp else placed n (q + Config.rcpPick a % 2) ulp

/-- The integer square root, from its highest bit down. -/
def isqrtFrom (n : Nat) : Nat → Nat → Nat
  | 0, r => r
  | k + 1, r => isqrtFrom n k (if (r + 2 ^ k) * (r + 2 ^ k) ≤ n then r + 2 ^ k else r)

/-- RSQRT (R283): one of the FP32 values within 2 ulp of the reciprocal square root. -/
def rsqrt (a : Nat) : Nat × Nat :=
  match Fp.dec32 a with
  | .nan => (0x7FC00000, afNAN_SEEN)
  | .inf true => (0x7FC00000, afINVALID)
  | .inf false => (0, 0)
  | .fin n 0 _ => (Fp.enc32 (.inf n), 0)
  | .fin true _ _ => (0x7FC00000, afINVALID)
  | .fin false m e =>
    -- the square of the result is 1 / (m · 2^e); its floor(log2) is halved
    let sq : Int := if m = 2 ^ (Fp.digits m - 1) then 1 - e - Fp.digits m else -e - Fp.digits m
    let ulp := ulpAt (sq / 2)
    let k := -e - 2 * ulp
    let (num, den) := if 0 ≤ k then (2 ^ k.toNat, m) else (1, m * 2 ^ (-k).toNat)
    let q := isqrtFrom (num / den) 26 0
    if q * q * den = num then placed false (q - 2 + Config.rsqrtPick a % 5) ulp
    else placed false (q - 1 + Config.rsqrtPick a % 4) ulp

/-- The constants of R284: (ln 2)^k / k! for k from 1 to 4, and 2^(j/32). -/
def expC : List Nat := [0x3F317218, 0x3E75FDF0, 0x3D635847, 0x3C1D955B]
def expT : List Nat :=
  [0x3F800000, 0x3F82CD87, 0x3F85AAC3, 0x3F88980F, 0x3F8B95C2, 0x3F8EA43A, 0x3F91C3D3, 0x3F94F4F0,
   0x3F9837F0, 0x3F9B8D3A, 0x3F9EF532, 0x3FA27043, 0x3FA5FED7, 0x3FA9A15B, 0x3FAD583F, 0x3FB123F6] ++
  [0x3FB504F3, 0x3FB8FBAF, 0x3FBD08A4, 0x3FC12C4D, 0x3FC5672A, 0x3FC9B9BE, 0x3FCE248C, 0x3FD2A81E,
   0x3FD744FD, 0x3FDBFBB8, 0x3FE0CCDF, 0x3FE5B907, 0x3FEAC0C7, 0x3FEFE4BA, 0x3FF5257D, 0x3FFA83B3]

/-- The steps of R284 for a finite operand in range. -/
def exp2Steps (neg : Bool) (m : Nat) (e : Int) : Nat × Nat :=
  let k : Int := (if neg then -1 else 1) * (roundInt none m (e + 5) : Int)
  let n := k / 32
  let j := (k % 32).toNat
  let r := Fp.enc32 (Fp.add (.fin neg m e) (Fp.ofSigned (-k) (-5) true))
  let c := fun i => expC.getD i 0
  let p := [c 2, c 1, c 0, 0x3F800000].foldl (fun p ci => (add ci (mul r p).1).1) (c 3)
  let y := (mul (expT.getD j 0) p).1
  round32 (scaled (Fp.dec32 y) n)

/-- EXP2 (R284, R285). -/
def exp2 (a : Nat) : Nat × Nat :=
  match Fp.dec32 a with
  | .nan => (0x7FC00000, afNAN_SEEN)
  | .inf n => (if n then 0 else 0x7F800000, 0)
  | .fin n m e =>
    if Fp.lt (.fin n m e) (.fin false 128 0) then
      (if Fp.lt (.fin n m e) (.fin true 150 0) then (0, afUNDERFLOW) else exp2Steps n m e)
    else (0x7F800000, afOVERFLOW)

/-- SCALE (R287). -/
def scale (a b : Nat) : Nat × Nat :=
  if a = 0xFF800000 ∧ b = 0xFF800000 then (0, 0)
  else
    let (d, f) := sub a b
    let (r, g) := exp2 d
    (r, f ||| g)

/-- A pairwise tree (R289): every level pairs neighbours. -/
def tree (op : Nat → Nat → Nat × Nat) : Nat → List Nat → Nat × Nat
  | 0, l => (l.headD 0, 0)
  | k + 1, l =>
    match l with
    | [] => (0, 0)
    | [a] => (a, 0)
    | l =>
      let next := (chunksOf 2 l.length l).map fun p =>
        match p with
        | [a, b] => op a b
        | a :: _ => (a, 0)
        | [] => (0, 0)
      let (r, f) := tree op k (next.map Prod.fst)
      (r, next.foldl (fun f x => f ||| x.2) f)

/-- The order of TOPK (R290): whether the first of two (bits, index) comes strictly before the second by value. -/
def above (a b : Nat) : Bool :=
  if isNan (Fp.dec32 a) then false
  else if isNan (Fp.dec32 b) then true
  else Fp.lt (Fp.dec32 b) (Fp.dec32 a)

/-- Insertion of an element behind those that are not below it. -/
def insertTop (x : Nat × Nat) : List (Nat × Nat) → List (Nat × Nat)
  | [] => [x]
  | y :: l => if above x.1 y.1 then x :: y :: l else y :: insertTop x l

/-- The lanes in the order of TOPK, each with its position. -/
def ranked (vs : List Nat) : List (Nat × Nat) := vs.zipIdx.foldl (fun l x => insertTop x l) []

end Sys2Proof.Nf
end

