-- ==== Sys2Proof/Machine/RegNames.lean ====
section
/-!
DEFINITION. The registers of the D824 by name: the offset of each in register space, and the bits of each
field. Both are taken from the register maps of spec/ (R51, R95, R143, R172, R200, R232, R262, R263, R280, R357,
R377, R407, R428, R457, R458, R510, R532, R533, R534, R552, R553, R554) and from the block addresses of R56.
`R.X` is the offset of register X, its arguments the unit number and the indices of the map; `F.X_Y` is field Y of X.
-/
namespace Sys2Proof

/-- A field of a register: bits [hi:lo]. -/
structure Fld where
  hi : Nat
  lo : Nat
  deriving DecidableEq, Repr

namespace R

def TOP_ID : Nat := 0
def TOP_STATE : Nat := 8
def TOP_STATUS : Nat := 0x10
def TOP_CTL : Nat := 0x18
def TOP_REQ_LINKS : Nat := 0x20
def TOP_REQ_WIDTH : Nat := 0x28
def TOP_CAP0 : Nat := 0x30
def TOP_CAP1 : Nat := 0x38
def TOP_DEFECT : Nat := 0x40
def TOP_FLASH_ADDR : Nat := 0x48
def TOP_FLASH_CTL : Nat := 0x50
def TOP_FLASH_STATUS : Nat := 0x58
def TOP_FLASH_BUF (j : Nat) : Nat := 0x1000 + j * 8
def EIC_DOORBELL : Nat := 0x100000
def EIC_CTL : Nat := 0x100008
def EIC_CNT : Nat := 0x100010
def EIC_HV_TRIG : Nat := 0x100018
def EIC_PEND_SET (w : Nat) : Nat := 0x100100 + w * 8
def EIC_PEND_CLR (w : Nat) : Nat := 0x100180 + w * 8
def EIC_EN_SET (w : Nat) : Nat := 0x100200 + w * 8
def EIC_EN_CLR (w : Nat) : Nat := 0x100280 + w * 8
def EIC_ASSERTED (w : Nat) : Nat := 0x100300 + w * 8
def EIC_ACTIVE (w : Nat) : Nat := 0x100380 + w * 8
def EIC_ROUTE (s : Nat) : Nat := 0x101100 + s * 8
def EIC_C_DOORBELL (c : Nat) : Nat := 0x104000 + c * 0x100
def EIC_C_PEND_SET (c : Nat) : Nat := 0x104008 + c * 0x100
def EIC_C_PEND_CLR (c : Nat) : Nat := 0x104010 + c * 0x100
def EIC_C_EN_SET (c : Nat) : Nat := 0x104018 + c * 0x100
def EIC_C_EN_CLR (c : Nat) : Nat := 0x104020 + c * 0x100
def EIC_C_MASK_SET (c : Nat) : Nat := 0x104028 + c * 0x100
def EIC_C_MASK_CLR (c : Nat) : Nat := 0x104030 + c * 0x100
def EIC_C_CLAIM (c : Nat) : Nat := 0x104038 + c * 0x100
def EIC_C_EOI (c : Nat) : Nat := 0x104040 + c * 0x100
def EIC_C_STATUS (c : Nat) : Nat := 0x104048 + c * 0x100
def EIC_HV_ADDR (v : Nat) : Nat := 0x110000 + v * 0x20
def EIC_HV_DATA (v : Nat) : Nat := 0x110008 + v * 0x20
def EIC_HV_MOD (v : Nat) : Nat := 0x110010 + v * 0x20
def EIC_HV_STATUS (v : Nat) : Nat := 0x110018 + v * 0x20
def MBX_CTL (i : Nat) : Nat := 0x200000 + i * 0x100
def MBX_STATUS (i : Nat) : Nat := 0x200008 + i * 0x100
def MBX_CFG (i : Nat) : Nat := 0x200010 + i * 0x100
def JRN_STATUS : Nat := 0x300000
def JRN_DUMP_ADDR : Nat := 0x300008
def JRN_DUMP_CTL : Nat := 0x300010
def JRN_DUMP_CNT : Nat := 0x300018
def JRN_DUMP_STATUS : Nat := 0x300020
def JRN_CNT : Nat := 0x300028
def SNP_CTL : Nat := 0x400000
def SNP_STATUS : Nat := 0x400008
def SNP_TRIG : Nat := 0x400010
def SNP_ARM : Nat := 0x400018
def SNP_EVT (k : Nat) : Nat := 0x400020 + k * 8
def SNP_DUMP_ADDR : Nat := 0x400060
def SNP_DUMP_CTL : Nat := 0x400068
def SNP_CNT : Nat := 0x400070
def WEAR_STATUS : Nat := 0x500000
def WEAR_CTL : Nat := 0x500008
def WEAR_AGE (d k : Nat) : Nat := 0x500100 + d * 0x200 + k * 8
def WEAR_STK (m : Nat) : Nat := 0x501100 + m * 8
def WEAR_LNK (p : Nat) : Nat := 0x501200 + p * 8
def WEAR_CHG (d : Nat) : Nat := 0x501300 + d * 8
def WEAR_FLASH : Nat := 0x501400
def PWR_STATUS : Nat := 0x600000
def PWR_LIM_CFG : Nat := 0x600008
def PWR_LIM_STATUS : Nat := 0x600010
def PWR_EMERG : Nat := 0x600018
def PWR_BUDGET : Nat := 0x600020
def PWR_HOLDUP : Nat := 0x600028
def PWR_LAST_OFF : Nat := 0x600030
def PWR_SITE_V (d : Nat) : Nat := 0x600100 + d * 8
def THM_STATUS : Nat := 0x700000
def THM_CNT : Nat := 0x700008
def RGL_CTL : Nat := 0x800000
def RGL_STATUS : Nat := 0x800008
def RGL_SRC_CLASS : Nat := 0x800010
def RGL_TDF_CTL : Nat := 0x800018
def RGL_TDF_STATUS : Nat := 0x800020
def RGL_QFB_CTL : Nat := 0x800028
def RGL_TDF_MASK (c : Nat) : Nat := 0x800100 + c * 8
def RGL_TDF_ACTV (c : Nat) : Nat := 0x800180 + c * 8
def RGL_STK_CFG (m : Nat) : Nat := 0x801000 + m * 0x100
def RGL_STK_STATUS (m : Nat) : Nat := 0x801008 + m * 0x100
def RGL_MIN (m c : Nat) : Nat := 0x801010 + m * 0x100 + c * 8
def RGL_STK_CNT (m : Nat) : Nat := 0x801088 + m * 0x100
def RGL_CNT (m c : Nat) : Nat := 0x804000 + m * 0x80 + c * 8
def ADT_CTX_TABLE : Nat := 0x900000
def ADT_CTX_CMD : Nat := 0x900008
def ADT_INV_ARG0 : Nat := 0x900010
def ADT_INV_ARG1 : Nat := 0x900018
def ADT_INV_STATUS : Nat := 0x900020
def ADT_INV_TMO : Nat := 0x900028
def ADT_OWN_STATUS : Nat := 0x900030
def ADT_FAULT_RING : Nat := 0x900038
def ADT_FAULT_HEAD : Nat := 0x900040
def ADT_FAULT_TAIL : Nat := 0x900048
def ADT_RESUME : Nat := 0x900050
def ADT_CNT : Nat := 0x900058
def ADT_CTX_STATUS (c : Nat) : Nat := 0x910000 + c * 8
def ADT_OWN_FRAME (f : Nat) : Nat := 0x920000 + f * 8
def ADT_OWN_PART (p : Nat) : Nat := 0x922000 + p * 8
def TGL_POD_CFG : Nat := 0xa00000
def TGL_POD_CTL : Nat := 0xa00008
def TGL_POD_STATUS : Nat := 0xa00010
def TGL_SERIAL : Nat := 0xa00018
def TGL_MASTER_SERIAL : Nat := 0xa00020
def TGL_MEMBERS : Nat := 0xa00028
def TGL_TMO : Nat := 0xa00030
def TGL_HOST : Nat := 0xa00038
def TGL_CNT : Nat := 0xa00040
def TGL_ROUTE (m : Nat) : Nat := 0xa10000 + m * 8
def TGL_MEMBER (m : Nat) : Nat := 0xa10200 + m * 8
def TGL_PORT_CTL (p : Nat) : Nat := 0xa20000 + p * 0x100
def TGL_PORT_STATUS (p : Nat) : Nat := 0xa20008 + p * 0x100
def TGL_PORT_CNT (p : Nat) : Nat := 0xa20010 + p * 0x100
def TGL_PORT_CNT2 (p : Nat) : Nat := 0xa20018 + p * 0x100
def TGL_EVT (p : Nat) : Nat := 0xa20020 + p * 0x100
def TGL_MC_DEF (g : Nat) : Nat := 0xa30000 + g * 0x100
def TGL_MC_STATE (g : Nat) : Nat := 0xa30008 + g * 0x100
def TGL_MC_TREE_PORT (g k : Nat) : Nat := 0xa30010 + g * 0x100 + k * 0x10
def TGL_MC_TREE_MASK (g k : Nat) : Nat := 0xa30018 + g * 0x100 + k * 0x10
def TGL_AUD_STATUS (p : Nat) : Nat := 0xa40000 + p * 0x80
def TGL_AUD_CNT (p k : Nat) : Nat := 0xa40008 + p * 0x80 + k * 8
def TGL_AUD_LOG (p i w : Nat) : Nat := 0xa50000 + p * 0x800 + i * 0x20 + w * 8
def TGL_BEAT_CTL : Nat := 0xaf0000
def TGL_BEAT_PERIOD : Nat := 0xaf0008
def TGL_BEAT_NOW : Nat := 0xaf0010
def TGL_BEAT_STATUS : Nat := 0xaf0018
def TGL_BEAT_STRETCH : Nat := 0xaf0020
def TGL_BEAT_CNT : Nat := 0xaf0028
def TGL_BEAT_LAT (p : Nat) : Nat := 0xaf0100 + p * 8
def LNK_CTL (p : Nat) : Nat := 0xb00000 + p * 0x1000
def LNK_CFG (p : Nat) : Nat := 0xb00008 + p * 0x1000
def LNK_STATUS (p : Nat) : Nat := 0xb00010 + p * 0x1000
def LNK_LANES (p : Nat) : Nat := 0xb00018 + p * 0x1000
def LNK_SAVED (p : Nat) : Nat := 0xb00020 + p * 0x1000
def LNK_TRAINED (p : Nat) : Nat := 0xb00028 + p * 0x1000
def LNK_CNT (p : Nat) : Nat := 0xb00030 + p * 0x1000
def LNK_LANE (p i : Nat) : Nat := 0xb00100 + p * 0x1000 + i * 8
def SBF_STATUS (d : Nat) : Nat := 0x1000000 + d * 0x1000000
def SBF_PART_CLR (d : Nat) : Nat := 0x1000008 + d * 0x1000000
def SBF_SCRUB_CTL (d : Nat) : Nat := 0x1000010 + d * 0x1000000
def SBF_ERR_CTL (d : Nat) : Nat := 0x1000018 + d * 0x1000000
def SBF_ERR_CNT (d : Nat) : Nat := 0x1000020 + d * 0x1000000
def SBF_ERR_REC_ADDR (d : Nat) : Nat := 0x1000028 + d * 0x1000000
def SBF_ERR_REC_INFO (d : Nat) : Nat := 0x1000030 + d * 0x1000000
def SBF_ERR_POP (d : Nat) : Nat := 0x1000038 + d * 0x1000000
def SBF_INJECT (d : Nat) : Nat := 0x1000040 + d * 0x1000000
def SBF_BANK (d b : Nat) : Nat := 0x1010000 + d * 0x1000000 + b * 8
def STK_STATUS (m : Nat) : Nat := 0x1100000 + m / 3 * 0x1000000 + m % 3 * 0x40000
def STK_PC_MASK (m : Nat) : Nat := 0x1100008 + m / 3 * 0x1000000 + m % 3 * 0x40000
def STK_CAP (m : Nat) : Nat := 0x1100010 + m / 3 * 0x1000000 + m % 3 * 0x40000
def STK_SCRUB_CTL (m : Nat) : Nat := 0x1100018 + m / 3 * 0x1000000 + m % 3 * 0x40000
def STK_ERR_CTL (m : Nat) : Nat := 0x1100020 + m / 3 * 0x1000000 + m % 3 * 0x40000
def STK_ERR_CNT (m : Nat) : Nat := 0x1100028 + m / 3 * 0x1000000 + m % 3 * 0x40000
def STK_ERR_CNT2 (m : Nat) : Nat := 0x1100030 + m / 3 * 0x1000000 + m % 3 * 0x40000
def STK_ERR_REC_ADDR (m : Nat) : Nat := 0x1100038 + m / 3 * 0x1000000 + m % 3 * 0x40000
def STK_ERR_REC_INFO (m : Nat) : Nat := 0x1100040 + m / 3 * 0x1000000 + m % 3 * 0x40000
def STK_ERR_POP (m : Nat) : Nat := 0x1100048 + m / 3 * 0x1000000 + m % 3 * 0x40000
def STK_INJECT (m : Nat) : Nat := 0x1100050 + m / 3 * 0x1000000 + m % 3 * 0x40000
def STK_FILL (m : Nat) : Nat := 0x1100058 + m / 3 * 0x1000000 + m % 3 * 0x40000
def STK_TRAINED (m j : Nat) : Nat := 0x1100080 + m / 3 * 0x1000000 + m % 3 * 0x40000 + j * 8
def STK_PC (m p : Nat) : Nat := 0x1101000 + m / 3 * 0x1000000 + m % 3 * 0x40000 + p * 8
def MSC_CTL (m : Nat) : Nat := 0x1200000 + m / 3 * 0x1000000 + m % 3 * 0x10000
def MSC_STATUS (m : Nat) : Nat := 0x1200008 + m / 3 * 0x1000000 + m % 3 * 0x10000
def MSC_INV_ALL (m : Nat) : Nat := 0x1200010 + m / 3 * 0x1000000 + m % 3 * 0x10000
def MSC_MB_CTL (m : Nat) : Nat := 0x1200018 + m / 3 * 0x1000000 + m % 3 * 0x10000
def MSC_PF_CTL (m : Nat) : Nat := 0x1200020 + m / 3 * 0x1000000 + m % 3 * 0x10000
def MSC_LFSR (m : Nat) : Nat := 0x1200028 + m / 3 * 0x1000000 + m % 3 * 0x10000
def MSC_CNT_RD (m : Nat) : Nat := 0x1200030 + m / 3 * 0x1000000 + m % 3 * 0x10000
def MSC_CNT_MISC (m : Nat) : Nat := 0x1200038 + m / 3 * 0x1000000 + m % 3 * 0x10000
def MSC_CNT_PF (m : Nat) : Nat := 0x1200040 + m / 3 * 0x1000000 + m % 3 * 0x10000
def DMV_STATUS (g : Nat) : Nat := 0x1300000 + g / 32 * 0x1000000 + g % 32 * 0x2000
def DMV_CTL (g : Nat) : Nat := 0x1300008 + g / 32 * 0x1000000 + g % 32 * 0x2000
def DMV_CNT_RD (g : Nat) : Nat := 0x1300010 + g / 32 * 0x1000000 + g % 32 * 0x2000
def DMV_CNT_WR (g : Nat) : Nat := 0x1300018 + g / 32 * 0x1000000 + g % 32 * 0x2000
def DMV_CNT_DESC (g : Nat) : Nat := 0x1300020 + g / 32 * 0x1000000 + g % 32 * 0x2000
def DMV_CNT_STALL (g : Nat) : Nat := 0x1300028 + g / 32 * 0x1000000 + g % 32 * 0x2000
def DMV_Q_RING (g q : Nat) : Nat := 0x1300100 + g / 32 * 0x1000000 + g % 32 * 0x2000 + q * 0x40
def DMV_Q_CPL (g q : Nat) : Nat := 0x1300108 + g / 32 * 0x1000000 + g % 32 * 0x2000 + q * 0x40
def DMV_Q_CFG (g q : Nat) : Nat := 0x1300110 + g / 32 * 0x1000000 + g % 32 * 0x2000 + q * 0x40
def DMV_Q_TAIL (g q : Nat) : Nat := 0x1300118 + g / 32 * 0x1000000 + g % 32 * 0x2000 + q * 0x40
def DMV_Q_HEAD (g q : Nat) : Nat := 0x1300120 + g / 32 * 0x1000000 + g % 32 * 0x2000 + q * 0x40
def DMV_Q_CTL (g q : Nat) : Nat := 0x1300128 + g / 32 * 0x1000000 + g % 32 * 0x2000 + q * 0x40
def DMV_Q_STATUS (g q : Nat) : Nat := 0x1300130 + g / 32 * 0x1000000 + g % 32 * 0x2000 + q * 0x40
def NME_STATUS (n : Nat) : Nat := 0x1400000 + n / 2 * 0x1000000 + n % 2 * 0x100000
def NME_CTL (n : Nat) : Nat := 0x1400008 + n / 2 * 0x1000000 + n % 2 * 0x100000
def NME_RING_CFG (n : Nat) : Nat := 0x1400010 + n / 2 * 0x1000000 + n % 2 * 0x100000
def NME_RING_ACT (n : Nat) : Nat := 0x1400018 + n / 2 * 0x1000000 + n % 2 * 0x100000
def NME_CNT_RUN (n : Nat) : Nat := 0x1400020 + n / 2 * 0x1000000 + n % 2 * 0x100000
def NME_CNT_RING (n : Nat) : Nat := 0x1400028 + n / 2 * 0x1000000 + n % 2 * 0x100000
def NME_CNT_SCR (n : Nat) : Nat := 0x1400030 + n / 2 * 0x1000000 + n % 2 * 0x100000
def NME_KAT (n : Nat) : Nat := 0x1400038 + n / 2 * 0x1000000 + n % 2 * 0x100000
def NME_SR_SEED (n : Nat) : Nat := 0x1400040 + n / 2 * 0x1000000 + n % 2 * 0x100000
def NME_RING_TBL_E (n j : Nat) : Nat := 0x1400100 + n / 2 * 0x1000000 + n % 2 * 0x100000 + j * 8
def NME_RING_TBL_W (n j : Nat) : Nat := 0x1400140 + n / 2 * 0x1000000 + n % 2 * 0x100000 + j * 8
def NME_RING_ACTV_E (n j : Nat) : Nat := 0x1400180 + n / 2 * 0x1000000 + n % 2 * 0x100000 + j * 8
def NME_RING_ACTV_W (n j : Nat) : Nat := 0x14001c0 + n / 2 * 0x1000000 + n % 2 * 0x100000 + j * 8
def DSP_STATUS (d : Nat) : Nat := 0x1600000 + d * 0x1000000
def DSP_SPILL (d : Nat) : Nat := 0x1600008 + d * 0x1000000
def DSP_TOK_POST (d : Nat) : Nat := 0x1600010 + d * 0x1000000
def DSP_TOK_CMD (d : Nat) : Nat := 0x1600018 + d * 0x1000000
def DSP_TOK_CNT (d : Nat) : Nat := 0x1600020 + d * 0x1000000
def DSP_JR_RING (d r : Nat) : Nat := 0x1601000 + d * 0x1000000 + r * 0x40
def DSP_JR_CPL (d r : Nat) : Nat := 0x1601008 + d * 0x1000000 + r * 0x40
def DSP_JR_CFG (d r : Nat) : Nat := 0x1601010 + d * 0x1000000 + r * 0x40
def DSP_JR_TAIL (d r : Nat) : Nat := 0x1601018 + d * 0x1000000 + r * 0x40
def DSP_JR_HEAD (d r : Nat) : Nat := 0x1601020 + d * 0x1000000 + r * 0x40
def DSP_JR_CTL (d r : Nat) : Nat := 0x1601028 + d * 0x1000000 + r * 0x40
def DSP_JR_STATUS (d r : Nat) : Nat := 0x1601030 + d * 0x1000000 + r * 0x40
def DSP_TOK (d i : Nat) : Nat := 0x1610000 + d * 0x1000000 + i * 8
def TDI_SITE_STATUS (d : Nat) : Nat := 0x1680000 + d * 0x1000000
def TDI_CTL (d : Nat) : Nat := 0x1680008 + d * 0x1000000
def TDI_CFG (d : Nat) : Nat := 0x1680010 + d * 0x1000000
def TDI_PWR_LIMIT (d : Nat) : Nat := 0x1680018 + d * 0x1000000
def TDI_PWR_GRANT (d : Nat) : Nat := 0x1680020 + d * 0x1000000
def TDI_PWR_STATUS (d : Nat) : Nat := 0x1680028 + d * 0x1000000
def TDI_DIODE (d : Nat) : Nat := 0x1680030 + d * 0x1000000
def TDI_CNT (d : Nat) : Nat := 0x1680038 + d * 0x1000000
def TDI_PORT_CFG (d p : Nat) : Nat := 0x1680100 + d * 0x1000000 + p * 8
def TDI_PORT_STATUS (d p : Nat) : Nat := 0x1680300 + d * 0x1000000 + p * 8
def HKP_CH_CFG (d j : Nat) : Nat := 0x1700100 + d * 0x1000000 + j * 8
def HKP_CH_VAL (d j : Nat) : Nat := 0x1700300 + d * 0x1000000 + j * 8

end R

namespace F

def TOP_ID_PART : Fld := ⟨63, 48⟩
def TOP_ID_REV : Fld := ⟨47, 40⟩
def TOP_ID_FITTING : Fld := ⟨1, 0⟩
def TOP_STATE_ELAPSED : Fld := ⟨63, 32⟩
def TOP_STATE_PREV : Fld := ⟨7, 4⟩
def TOP_STATE_STATE : Fld := ⟨3, 0⟩
def TOP_STATUS_IMAGE_ID : Fld := ⟨63, 32⟩
def TOP_STATUS_REQ_LINK_DOWN : Fld := ⟨11, 11⟩
def TOP_STATUS_PLACE_ABSENT : Fld := ⟨10, 10⟩
def TOP_STATUS_EZKAI_SLOT : Fld := ⟨9, 9⟩
def TOP_STATUS_SPROUT_SLOT : Fld := ⟨8, 8⟩
def TOP_STATUS_FAULT_CAUSE : Fld := ⟨3, 0⟩
def TOP_CTL_WARM_RESET : Fld := ⟨63, 63⟩
def TOP_CTL_VEC_EN : Fld := ⟨44, 44⟩
def TOP_CTL_VECTOR : Fld := ⟨43, 32⟩
def TOP_CTL_KEY : Fld := ⟨15, 0⟩
def TOP_REQ_LINKS_MET : Fld := ⟨63, 32⟩
def TOP_REQ_LINKS_REQUIRED : Fld := ⟨31, 0⟩
def TOP_REQ_WIDTH_MIN0 : Fld := ⟨1, 0⟩
def TOP_REQ_WIDTH_MIN1 : Fld := ⟨3, 2⟩
def TOP_REQ_WIDTH_MIN2 : Fld := ⟨5, 4⟩
def TOP_REQ_WIDTH_MIN3 : Fld := ⟨7, 6⟩
def TOP_REQ_WIDTH_MIN4 : Fld := ⟨9, 8⟩
def TOP_REQ_WIDTH_MIN5 : Fld := ⟨11, 10⟩
def TOP_REQ_WIDTH_MIN6 : Fld := ⟨13, 12⟩
def TOP_REQ_WIDTH_MIN7 : Fld := ⟨15, 14⟩
def TOP_REQ_WIDTH_MIN8 : Fld := ⟨17, 16⟩
def TOP_REQ_WIDTH_MIN9 : Fld := ⟨19, 18⟩
def TOP_REQ_WIDTH_MIN10 : Fld := ⟨21, 20⟩
def TOP_REQ_WIDTH_MIN11 : Fld := ⟨23, 22⟩
def TOP_REQ_WIDTH_MIN12 : Fld := ⟨25, 24⟩
def TOP_REQ_WIDTH_MIN13 : Fld := ⟨27, 26⟩
def TOP_REQ_WIDTH_MIN14 : Fld := ⟨29, 28⟩
def TOP_REQ_WIDTH_MIN15 : Fld := ⟨31, 30⟩
def TOP_REQ_WIDTH_MIN16 : Fld := ⟨33, 32⟩
def TOP_REQ_WIDTH_MIN17 : Fld := ⟨35, 34⟩
def TOP_REQ_WIDTH_MIN18 : Fld := ⟨37, 36⟩
def TOP_REQ_WIDTH_MIN19 : Fld := ⟨39, 38⟩
def TOP_REQ_WIDTH_MIN20 : Fld := ⟨41, 40⟩
def TOP_REQ_WIDTH_MIN21 : Fld := ⟨43, 42⟩
def TOP_REQ_WIDTH_MIN22 : Fld := ⟨45, 44⟩
def TOP_REQ_WIDTH_MIN23 : Fld := ⟨47, 46⟩
def TOP_REQ_WIDTH_MIN24 : Fld := ⟨49, 48⟩
def TOP_REQ_WIDTH_MIN25 : Fld := ⟨51, 50⟩
def TOP_REQ_WIDTH_MIN26 : Fld := ⟨53, 52⟩
def TOP_REQ_WIDTH_MIN27 : Fld := ⟨55, 54⟩
def TOP_REQ_WIDTH_MIN28 : Fld := ⟨57, 56⟩
def TOP_REQ_WIDTH_MIN29 : Fld := ⟨59, 58⟩
def TOP_REQ_WIDTH_MIN30 : Fld := ⟨61, 60⟩
def TOP_REQ_WIDTH_MIN31 : Fld := ⟨63, 62⟩
def TOP_CAP0_NME_ACTIVE : Fld := ⟨63, 48⟩
def TOP_CAP0_STACK_DISABLED : Fld := ⟨47, 24⟩
def TOP_CAP0_BUF_ABSENT : Fld := ⟨23, 16⟩
def TOP_CAP0_FRAMES : Fld := ⟨9, 0⟩
def TOP_CAP1_SLICES_FAULTY : Fld := ⟨52, 48⟩
def TOP_CAP1_PC_DISABLED : Fld := ⟨42, 32⟩
def TOP_CAP1_SPARES_USED : Fld := ⟨26, 16⟩
def TOP_CAP1_MOVERS : Fld := ⟨8, 0⟩
def TOP_DEFECT_RETURN_ANY : Fld := ⟨17, 17⟩
def TOP_DEFECT_REC_FULL : Fld := ⟨16, 16⟩
def TOP_DEFECT_ENTRIES : Fld := ⟨15, 0⟩
def TOP_FLASH_ADDR_ADDR : Fld := ⟨31, 0⟩
def TOP_FLASH_CTL_LEN : Fld := ⟨28, 16⟩
def TOP_FLASH_CTL_OP : Fld := ⟨1, 0⟩
def TOP_FLASH_STATUS_RESULT : Fld := ⟨2, 1⟩
def TOP_FLASH_STATUS_BUSY : Fld := ⟨0, 0⟩
def TOP_FLASH_BUF_WORD : Fld := ⟨63, 0⟩
def EIC_DOORBELL_DEASSERT : Fld := ⟨15, 15⟩
def EIC_DOORBELL_SRC : Fld := ⟨9, 0⟩
def EIC_CTL_CNT_CLR : Fld := ⟨63, 63⟩
def EIC_CNT_DISCARDED : Fld := ⟨63, 48⟩
def EIC_CNT_EOI_IGNORED : Fld := ⟨47, 32⟩
def EIC_CNT_HV_RETRIES : Fld := ⟨31, 0⟩
def EIC_HV_TRIG_VECTOR : Fld := ⟨11, 0⟩
def EIC_PEND_SET_SRC : Fld := ⟨63, 0⟩
def EIC_EN_SET_SRC : Fld := ⟨63, 0⟩
def EIC_ASSERTED_SRC : Fld := ⟨63, 0⟩
def EIC_ACTIVE_SRC : Fld := ⟨63, 0⟩
def EIC_ROUTE_LEVEL : Fld := ⟨63, 63⟩
def EIC_ROUTE_HV_EN : Fld := ⟨62, 62⟩
def EIC_ROUTE_HVEC : Fld := ⟨43, 32⟩
def EIC_ROUTE_TARGET : Fld := ⟨3, 0⟩
def EIC_C_DOORBELL_DEASSERT : Fld := ⟨15, 15⟩
def EIC_C_DOORBELL_SRC : Fld := ⟨9, 0⟩
def EIC_C_PEND_SET_SRC : Fld := ⟨31, 0⟩
def EIC_C_EN_SET_SRC : Fld := ⟨31, 0⟩
def EIC_C_MASK_SET_GMASK : Fld := ⟨0, 0⟩
def EIC_C_CLAIM_VALID : Fld := ⟨63, 63⟩
def EIC_C_CLAIM_SRC : Fld := ⟨9, 0⟩
def EIC_C_EOI_SRC : Fld := ⟨9, 0⟩
def EIC_C_STATUS_IN_RESET : Fld := ⟨63, 63⟩
def EIC_C_STATUS_ASLEEP : Fld := ⟨62, 62⟩
def EIC_C_STATUS_PRESENTED : Fld := ⟨61, 61⟩
def EIC_C_STATUS_ACTIVE : Fld := ⟨25, 16⟩
def EIC_C_STATUS_LAST : Fld := ⟨9, 0⟩
def EIC_HV_ADDR_ADDR : Fld := ⟨47, 2⟩
def EIC_HV_DATA_DATA : Fld := ⟨31, 0⟩
def EIC_HV_MOD_MASK : Fld := ⟨63, 63⟩
def EIC_HV_MOD_CEIL : Fld := ⟨25, 16⟩
def EIC_HV_MOD_HOLDOFF : Fld := ⟨15, 8⟩
def EIC_HV_MOD_CNT : Fld := ⟨7, 0⟩
def EIC_HV_STATUS_PENDING : Fld := ⟨63, 63⟩
def EIC_HV_STATUS_IN_FLIGHT : Fld := ⟨62, 62⟩
def EIC_HV_STATUS_BAD : Fld := ⟨61, 61⟩
def EIC_HV_STATUS_RETRIES : Fld := ⟨47, 32⟩
def EIC_HV_STATUS_COUNT : Fld := ⟨15, 0⟩
def MBX_CTL_ACK : Fld := ⟨1, 1⟩
def MBX_CTL_GO : Fld := ⟨0, 0⟩
def MBX_STATUS_STATE : Fld := ⟨63, 62⟩
def MBX_STATUS_LOST : Fld := ⟨61, 61⟩
def MBX_STATUS_LAST_VALID : Fld := ⟨60, 60⟩
def MBX_STATUS_GO_DISCARDED : Fld := ⟨47, 32⟩
def MBX_STATUS_LAST_SEQ : Fld := ⟨31, 0⟩
def MBX_CFG_IRQ_EN : Fld := ⟨12, 12⟩
def MBX_CFG_VECTOR : Fld := ⟨11, 0⟩
def JRN_STATUS_HELD : Fld := ⟨63, 48⟩
def JRN_STATUS_NEXT_SEQ : Fld := ⟨47, 0⟩
def JRN_DUMP_ADDR_ADDR : Fld := ⟨47, 6⟩
def JRN_DUMP_CTL_GO : Fld := ⟨63, 63⟩
def JRN_DUMP_CTL_FIRST_SEQ : Fld := ⟨47, 0⟩
def JRN_DUMP_CNT_BUSY : Fld := ⟨63, 63⟩
def JRN_DUMP_CNT_STATUS : Fld := ⟨62, 55⟩
def JRN_DUMP_CNT_COUNT : Fld := ⟨16, 0⟩
def JRN_DUMP_STATUS_FIRST : Fld := ⟨47, 0⟩
def JRN_CNT_LOST : Fld := ⟨63, 48⟩
def JRN_CNT_FLASHED : Fld := ⟨47, 0⟩
def SNP_CTL_RELEASE : Fld := ⟨5, 5⟩
def SNP_CTL_AUTO_REL : Fld := ⟨4, 4⟩
def SNP_CTL_PIN_EN : Fld := ⟨3, 3⟩
def SNP_CTL_POD_FWD : Fld := ⟨2, 2⟩
def SNP_CTL_POD_EN : Fld := ⟨1, 1⟩
def SNP_CTL_POD_SEND : Fld := ⟨0, 0⟩
def SNP_STATUS_STATE : Fld := ⟨63, 62⟩
def SNP_STATUS_LATE : Fld := ⟨61, 61⟩
def SNP_STATUS_ARMED : Fld := ⟨60, 60⟩
def SNP_STATUS_DUMP_DONE : Fld := ⟨59, 59⟩
def SNP_STATUS_TRUNC : Fld := ⟨58, 58⟩
def SNP_STATUS_DUMP_STATUS : Fld := ⟨57, 50⟩
def SNP_STATUS_TRIGGER : Fld := ⟨49, 46⟩
def SNP_STATUS_ORIGIN : Fld := ⟨37, 32⟩
def SNP_STATUS_SNAP_ID : Fld := ⟨31, 16⟩
def SNP_STATUS_NEXT_ID : Fld := ⟨15, 0⟩
def SNP_TRIG_GO : Fld := ⟨0, 0⟩
def SNP_ARM_ARM : Fld := ⟨63, 63⟩
def SNP_ARM_CANCEL : Fld := ⟨62, 62⟩
def SNP_ARM_AT : Fld := ⟨47, 0⟩
def SNP_EVT_EN : Fld := ⟨63, 63⟩
def SNP_EVT_SRC : Fld := ⟨9, 0⟩
def SNP_DUMP_ADDR_ADDR : Fld := ⟨47, 6⟩
def SNP_DUMP_CTL_GO : Fld := ⟨63, 63⟩
def SNP_DUMP_CTL_LEN : Fld := ⟨31, 0⟩
def SNP_CNT_TAKEN : Fld := ⟨63, 32⟩
def SNP_CNT_MISSED : Fld := ⟨31, 16⟩
def SNP_CNT_DUP : Fld := ⟨15, 0⟩
def WEAR_STATUS_EOL_MONTHS : Fld := ⟨63, 56⟩
def WEAR_STATUS_WORST : Fld := ⟨55, 52⟩
def WEAR_STATUS_HOURS : Fld := ⟨31, 0⟩
def WEAR_CTL_EOL_THRESH : Fld := ⟨7, 0⟩
def WEAR_AGE_VALUE : Fld := ⟨63, 32⟩
def WEAR_AGE_SLOPE : Fld := ⟨31, 0⟩
def WEAR_STK_VALUE : Fld := ⟨63, 32⟩
def WEAR_STK_SLOPE : Fld := ⟨31, 0⟩
def WEAR_LNK_VALUE : Fld := ⟨63, 32⟩
def WEAR_LNK_SLOPE : Fld := ⟨31, 0⟩
def WEAR_CHG_VALUE : Fld := ⟨63, 32⟩
def WEAR_CHG_SLOPE : Fld := ⟨31, 0⟩
def WEAR_FLASH_VALUE : Fld := ⟨63, 32⟩
def WEAR_FLASH_SLOPE : Fld := ⟨31, 0⟩
def PWR_STATUS_EMERGENCY : Fld := ⟨63, 63⟩
def PWR_STATUS_ACTING : Fld := ⟨62, 62⟩
def PWR_STATUS_HOLDUP_READY : Fld := ⟨61, 61⟩
def PWR_STATUS_FLASH_WR_OK : Fld := ⟨60, 60⟩
def PWR_STATUS_CHARGE_OK : Fld := ⟨59, 59⟩
def PWR_STATUS_STAGES_OK : Fld := ⟨58, 51⟩
def PWR_STATUS_IIN : Fld := ⟨47, 32⟩
def PWR_STATUS_VIN : Fld := ⟨15, 0⟩
def PWR_LIM_CFG_UV_LEVEL : Fld := ⟨55, 52⟩
def PWR_LIM_CFG_OC_LEVEL : Fld := ⟨51, 48⟩
def PWR_LIM_CFG_OT_LEVEL : Fld := ⟨47, 44⟩
def PWR_LIM_CFG_HOLD : Fld := ⟨43, 32⟩
def PWR_LIM_CFG_OC : Fld := ⟨31, 16⟩
def PWR_LIM_CFG_UV : Fld := ⟨15, 0⟩
def PWR_LIM_STATUS_ACTIONS : Fld := ⟨63, 48⟩
def PWR_LIM_STATUS_OT_DIES : Fld := ⟨47, 40⟩
def PWR_LIM_STATUS_SEEN : Fld := ⟨6, 4⟩
def PWR_LIM_STATUS_PRESENT : Fld := ⟨2, 0⟩
def PWR_EMERG_CLEAR : Fld := ⟨63, 63⟩
def PWR_EMERG_BY_HW : Fld := ⟨62, 62⟩
def PWR_EMERG_AUTO_CLEAR : Fld := ⟨55, 48⟩
def PWR_EMERG_SINCE : Fld := ⟨47, 0⟩
def PWR_BUDGET_MANUAL : Fld := ⟨63, 63⟩
def PWR_BUDGET_EFF : Fld := ⟨62, 56⟩
def PWR_BUDGET_LEAD : Fld := ⟨55, 52⟩
def PWR_BUDGET_MARGIN_W : Fld := ⟨47, 32⟩
def PWR_BUDGET_SITE_W : Fld := ⟨31, 16⟩
def PWR_BUDGET_P_MAX : Fld := ⟨15, 0⟩
def PWR_HOLDUP_STATE : Fld := ⟨63, 62⟩
def PWR_HOLDUP_V : Fld := ⟨15, 0⟩
def PWR_LAST_OFF_CAUSE : Fld := ⟨63, 60⟩
def PWR_LAST_OFF_CHANNEL : Fld := ⟨56, 48⟩
def PWR_LAST_OFF_BEAT : Fld := ⟨47, 0⟩
def PWR_SITE_V_CODE : Fld := ⟨7, 0⟩
def THM_STATUS_THROTTLED : Fld := ⟨63, 56⟩
def THM_STATUS_HOT_T : Fld := ⟨47, 32⟩
def THM_STATUS_HOT_CH : Fld := ⟨24, 16⟩
def THM_CNT_ROUNDS : Fld := ⟨63, 32⟩
def THM_CNT_OT : Fld := ⟨31, 16⟩
def THM_CNT_FAULTS : Fld := ⟨15, 0⟩
def RGL_CTL_CNT_CLR : Fld := ⟨63, 63⟩
def RGL_CTL_QFB_EN : Fld := ⟨1, 1⟩
def RGL_CTL_EN : Fld := ⟨0, 0⟩
def RGL_STATUS_SCALED_ANY : Fld := ⟨63, 63⟩
def RGL_STATUS_PENDING : Fld := ⟨62, 62⟩
def RGL_STATUS_SCALED : Fld := ⟨23, 0⟩
def RGL_SRC_CLASS_FW : Fld := ⟨7, 4⟩
def RGL_SRC_CLASS_HOST : Fld := ⟨3, 0⟩
def RGL_TDF_CTL_ARMED : Fld := ⟨63, 63⟩
def RGL_TDF_CTL_ARM : Fld := ⟨62, 62⟩
def RGL_TDF_CTL_LEN_NEXT : Fld := ⟨54, 48⟩
def RGL_TDF_CTL_AT : Fld := ⟨47, 0⟩
def RGL_TDF_STATUS_POS : Fld := ⟨13, 8⟩
def RGL_TDF_STATUS_LEN : Fld := ⟨6, 0⟩
def RGL_QFB_CTL_HIGH : Fld := ⟨28, 16⟩
def RGL_QFB_CTL_LOW : Fld := ⟨12, 0⟩
def RGL_TDF_MASK_MASK : Fld := ⟨63, 0⟩
def RGL_TDF_ACTV_MASK : Fld := ⟨63, 0⟩
def RGL_STK_CFG_BURST : Fld := ⟨39, 32⟩
def RGL_STK_CFG_HPRES : Fld := ⟨20, 0⟩
def RGL_STK_STATUS_SCALED : Fld := ⟨63, 63⟩
def RGL_STK_STATUS_CONGESTED : Fld := ⟨62, 62⟩
def RGL_STK_STATUS_Q : Fld := ⟨60, 48⟩
def RGL_STK_STATUS_AVAIL : Fld := ⟨20, 0⟩
def RGL_MIN_EFF : Fld := ⟨52, 32⟩
def RGL_MIN_MIN : Fld := ⟨20, 0⟩
def RGL_STK_CNT_HP_OVER : Fld := ⟨63, 48⟩
def RGL_STK_CNT_CONGESTED : Fld := ⟨47, 32⟩
def RGL_STK_CNT_SCALINGS : Fld := ⟨31, 16⟩
def RGL_CNT_THROTTLED : Fld := ⟨63, 48⟩
def RGL_CNT_BYTES : Fld := ⟨47, 0⟩
def ADT_CTX_TABLE_BASE : Fld := ⟨40, 12⟩
def ADT_CTX_CMD_CTX : Fld := ⟨27, 16⟩
def ADT_CTX_CMD_CMD : Fld := ⟨1, 0⟩
def ADT_INV_ARG0_PAGE : Fld := ⟨56, 31⟩
def ADT_INV_ARG1_ALL : Fld := ⟨63, 63⟩
def ADT_INV_ARG1_CTX : Fld := ⟨43, 32⟩
def ADT_INV_ARG1_PAGES : Fld := ⟨25, 0⟩
def ADT_INV_STATUS_OVERFLOW : Fld := ⟨49, 49⟩
def ADT_INV_STATUS_FENCED : Fld := ⟨48, 48⟩
def ADT_INV_STATUS_ISSUED_SEQ : Fld := ⟨47, 32⟩
def ADT_INV_STATUS_QUEUED : Fld := ⟨20, 16⟩
def ADT_INV_STATUS_DONE_SEQ : Fld := ⟨15, 0⟩
def ADT_INV_TMO_TMO : Fld := ⟨13, 0⟩
def ADT_OWN_STATUS_PENDING : Fld := ⟨0, 0⟩
def ADT_FAULT_RING_SIZE : Fld := ⟨63, 60⟩
def ADT_FAULT_RING_BASE : Fld := ⟨46, 5⟩
def ADT_FAULT_HEAD_HEAD : Fld := ⟨15, 0⟩
def ADT_FAULT_TAIL_TAIL : Fld := ⟨15, 0⟩
def ADT_RESUME_ABORT : Fld := ⟨63, 63⟩
def ADT_RESUME_FAULT_ID : Fld := ⟨15, 0⟩
def ADT_CNT_INVALS : Fld := ⟨63, 48⟩
def ADT_CNT_FAULTS : Fld := ⟨47, 32⟩
def ADT_CNT_ADMISSIONS : Fld := ⟨31, 0⟩
def ADT_CTX_STATUS_SUSPENDED : Fld := ⟨23, 8⟩
def ADT_CTX_STATUS_FAULT_MODE : Fld := ⟨4, 4⟩
def ADT_CTX_STATUS_STATE : Fld := ⟨1, 0⟩
def ADT_OWN_FRAME_ABSENT : Fld := ⟨63, 63⟩
def ADT_OWN_FRAME_INTERLEAVE : Fld := ⟨62, 61⟩
def ADT_OWN_FRAME_MODE : Fld := ⟨17, 16⟩
def ADT_OWN_FRAME_OWNER : Fld := ⟨11, 0⟩
def ADT_OWN_PART_MODE : Fld := ⟨17, 16⟩
def ADT_OWN_PART_OWNER : Fld := ⟨11, 0⟩
def TGL_POD_CFG_HOST_BRIDGE : Fld := ⟨15, 15⟩
def TGL_POD_CFG_REQ_ID_EN : Fld := ⟨14, 14⟩
def TGL_POD_CFG_REQ_ID : Fld := ⟨13, 8⟩
def TGL_POD_CFG_ROLE : Fld := ⟨1, 0⟩
def TGL_POD_CTL_LEAVE : Fld := ⟨0, 0⟩
def TGL_POD_STATUS_ID_VALID : Fld := ⟨63, 63⟩
def TGL_POD_STATUS_IS_MASTER : Fld := ⟨62, 62⟩
def TGL_POD_STATUS_STATE : Fld := ⟨61, 59⟩
def TGL_POD_STATUS_MASTER_ID : Fld := ⟨53, 48⟩
def TGL_POD_STATUS_MEMBERS : Fld := ⟨46, 40⟩
def TGL_POD_STATUS_ID : Fld := ⟨37, 32⟩
def TGL_POD_STATUS_VERSION : Fld := ⟨31, 0⟩
def TGL_SERIAL_SERIAL : Fld := ⟨47, 0⟩
def TGL_MASTER_SERIAL_SERIAL : Fld := ⟨47, 0⟩
def TGL_MEMBERS_MASK : Fld := ⟨63, 0⟩
def TGL_TMO_MC_TMO : Fld := ⟨47, 32⟩
def TGL_TMO_TAG_TMO : Fld := ⟨15, 0⟩
def TGL_HOST_PORTS : Fld := ⟨63, 32⟩
def TGL_HOST_ACCEPTED : Fld := ⟨0, 0⟩
def TGL_CNT_STALE : Fld := ⟨63, 48⟩
def TGL_CNT_HOPS_DROP : Fld := ⟨47, 32⟩
def TGL_CNT_TAG_TMO : Fld := ⟨31, 16⟩
def TGL_CNT_MC_DROP : Fld := ⟨15, 0⟩
def TGL_ROUTE_IN_USE : Fld := ⟨17, 16⟩
def TGL_ROUTE_LOCAL : Fld := ⟨15, 15⟩
def TGL_ROUTE_P_VALID : Fld := ⟨14, 14⟩
def TGL_ROUTE_PRIMARY : Fld := ⟨12, 8⟩
def TGL_ROUTE_A_VALID : Fld := ⟨7, 7⟩
def TGL_ROUTE_ALT : Fld := ⟨4, 0⟩
def TGL_MEMBER_VALID : Fld := ⟨63, 63⟩
def TGL_MEMBER_HOST_BRIDGE : Fld := ⟨62, 62⟩
def TGL_MEMBER_SERIAL : Fld := ⟨47, 0⟩
def TGL_PORT_CTL_LOG_CLR : Fld := ⟨3, 3⟩
def TGL_PORT_CTL_CNT_CLR : Fld := ⟨2, 2⟩
def TGL_PORT_CTL_NO_RETRAIN : Fld := ⟨1, 1⟩
def TGL_PORT_CTL_AUDIT : Fld := ⟨0, 0⟩
def TGL_PORT_STATUS_KIND : Fld := ⟨63, 62⟩
def TGL_PORT_STATUS_TAGS_OUT : Fld := ⟨47, 32⟩
def TGL_PORT_STATUS_REQ_PIPS : Fld := ⟨29, 20⟩
def TGL_PORT_STATUS_RSP_PIPS : Fld := ⟨19, 10⟩
def TGL_PORT_STATUS_CTL_PIPS : Fld := ⟨9, 4⟩
def TGL_PORT_CNT_CRC_ERR : Fld := ⟨63, 48⟩
def TGL_PORT_CNT_FRAMING : Fld := ⟨47, 32⟩
def TGL_PORT_CNT_HUSKS_RX : Fld := ⟨31, 0⟩
def TGL_PORT_CNT2_HUSKS_TX : Fld := ⟨63, 32⟩
def TGL_PORT_CNT2_FORWARDED : Fld := ⟨31, 0⟩
def TGL_EVT_FRAMING : Fld := ⟨7, 7⟩
def TGL_EVT_FOREIGN : Fld := ⟨6, 6⟩
def TGL_EVT_POD : Fld := ⟨5, 5⟩
def TGL_EVT_MC_DROP : Fld := ⟨4, 4⟩
def TGL_EVT_ROUTE : Fld := ⟨3, 3⟩
def TGL_EVT_STALE : Fld := ⟨2, 2⟩
def TGL_EVT_TAG_TMO : Fld := ⟨1, 1⟩
def TGL_EVT_AUDIT : Fld := ⟨0, 0⟩
def TGL_MC_DEF_MEMBERS : Fld := ⟨63, 0⟩
def TGL_MC_STATE_VALID : Fld := ⟨63, 63⟩
def TGL_MC_STATE_NTREE : Fld := ⟨62, 59⟩
def TGL_MC_STATE_LOCAL : Fld := ⟨58, 58⟩
def TGL_MC_TREE_PORT_V : Fld := ⟨63, 63⟩
def TGL_MC_TREE_PORT_PORT : Fld := ⟨4, 0⟩
def TGL_MC_TREE_MASK_BELOW : Fld := ⟨63, 0⟩
def TGL_AUD_STATUS_LOGGED : Fld := ⟨6, 0⟩
def TGL_AUD_CNT_COUNT : Fld := ⟨15, 0⟩
def TGL_AUD_LOG_WORD : Fld := ⟨63, 0⟩
def TGL_BEAT_CTL_CNT_CLR : Fld := ⟨8, 8⟩
def TGL_BEAT_CTL_OUT_EN : Fld := ⟨2, 2⟩
def TGL_BEAT_CTL_SOURCE : Fld := ⟨1, 0⟩
def TGL_BEAT_PERIOD_PERIOD_AT : Fld := ⟨63, 16⟩
def TGL_BEAT_PERIOD_PERIOD : Fld := ⟨13, 0⟩
def TGL_BEAT_NOW_NUMBER : Fld := ⟨47, 0⟩
def TGL_BEAT_STATUS_NOT_APPLIED : Fld := ⟨29, 29⟩
def TGL_BEAT_STATUS_LEVEL : Fld := ⟨27, 24⟩
def TGL_BEAT_STATUS_MISSED : Fld := ⟨18, 16⟩
def TGL_BEAT_STATUS_UP_VALID : Fld := ⟨13, 13⟩
def TGL_BEAT_STATUS_UPSTREAM : Fld := ⟨12, 8⟩
def TGL_BEAT_STATUS_STATE : Fld := ⟨2, 0⟩
def TGL_BEAT_STRETCH_SENT_LEVEL : Fld := ⟨11, 8⟩
def TGL_BEAT_STRETCH_LIMITER_LEVEL : Fld := ⟨7, 4⟩
def TGL_BEAT_STRETCH_SW_LEVEL : Fld := ⟨3, 0⟩
def TGL_BEAT_CNT_JUMPS : Fld := ⟨63, 48⟩
def TGL_BEAT_CNT_IN_REJECT : Fld := ⟨47, 32⟩
def TGL_BEAT_CNT_FREE_RUN : Fld := ⟨31, 16⟩
def TGL_BEAT_CNT_CHECK_ERR : Fld := ⟨15, 0⟩
def TGL_BEAT_LAT_VALID : Fld := ⟨24, 24⟩
def TGL_BEAT_LAT_LATENCY : Fld := ⟨23, 0⟩
def LNK_CTL_CNT_CLR : Fld := ⟨8, 8⟩
def LNK_CTL_WIDTH_MASK : Fld := ⟨6, 4⟩
def LNK_CTL_FORCE_SEARCH : Fld := ⟨3, 3⟩
def LNK_CTL_RETRAIN : Fld := ⟨2, 2⟩
def LNK_CTL_EN : Fld := ⟨0, 0⟩
def LNK_CFG_RETRY_MS : Fld := ⟨31, 16⟩
def LNK_CFG_MIN_EYE : Fld := ⟨15, 8⟩
def LNK_CFG_ERR_THRESH : Fld := ⟨7, 0⟩
def LNK_STATUS_STATE : Fld := ⟨63, 60⟩
def LNK_STATUS_WIDTH : Fld := ⟨59, 58⟩
def LNK_STATUS_LANES : Fld := ⟨57, 50⟩
def LNK_STATUS_PATH : Fld := ⟨49, 49⟩
def LNK_STATUS_REASON : Fld := ⟨48, 45⟩
def LNK_STATUS_TRAIN_TIME : Fld := ⟨31, 0⟩
def LNK_LANES_FAR_GOOD : Fld := ⟨23, 16⟩
def LNK_LANES_NEAR_GOOD : Fld := ⟨15, 8⟩
def LNK_LANES_POL_INV : Fld := ⟨7, 0⟩
def LNK_SAVED_LANE0 : Fld := ⟨7, 0⟩
def LNK_SAVED_LANE1 : Fld := ⟨15, 8⟩
def LNK_SAVED_LANE2 : Fld := ⟨23, 16⟩
def LNK_SAVED_LANE3 : Fld := ⟨31, 24⟩
def LNK_SAVED_LANE4 : Fld := ⟨39, 32⟩
def LNK_SAVED_LANE5 : Fld := ⟨47, 40⟩
def LNK_SAVED_LANE6 : Fld := ⟨55, 48⟩
def LNK_SAVED_LANE7 : Fld := ⟨63, 56⟩
def LNK_TRAINED_LANE0 : Fld := ⟨7, 0⟩
def LNK_TRAINED_LANE1 : Fld := ⟨15, 8⟩
def LNK_TRAINED_LANE2 : Fld := ⟨23, 16⟩
def LNK_TRAINED_LANE3 : Fld := ⟨31, 24⟩
def LNK_TRAINED_LANE4 : Fld := ⟨39, 32⟩
def LNK_TRAINED_LANE5 : Fld := ⟨47, 40⟩
def LNK_TRAINED_LANE6 : Fld := ⟨55, 48⟩
def LNK_TRAINED_LANE7 : Fld := ⟨63, 56⟩
def LNK_CNT_RETRAINS : Fld := ⟨63, 48⟩
def LNK_CNT_HELD : Fld := ⟨47, 32⟩
def LNK_CNT_ELASTIC : Fld := ⟨31, 16⟩
def LNK_CNT_TRAININGS : Fld := ⟨15, 0⟩
def LNK_LANE_CODE_ERR : Fld := ⟨63, 48⟩
def LNK_LANE_DISP_ERR : Fld := ⟨47, 32⟩
def LNK_LANE_ALIGN_LOSS : Fld := ⟨31, 24⟩
def LNK_LANE_EYE : Fld := ⟨15, 8⟩
def LNK_LANE_CTLE : Fld := ⟨3, 0⟩
def SBF_STATUS_ABSENT : Fld := ⟨48, 48⟩
def SBF_STATUS_SPARES_USED : Fld := ⟨47, 40⟩
def SBF_STATUS_DISABLED : Fld := ⟨28, 16⟩
def SBF_STATUS_FENCED : Fld := ⟨12, 0⟩
def SBF_PART_CLR_BUSY : Fld := ⟨16, 16⟩
def SBF_PART_CLR_MASK : Fld := ⟨11, 0⟩
def SBF_SCRUB_CTL_PASSES : Fld := ⟨63, 32⟩
def SBF_SCRUB_CTL_EN : Fld := ⟨16, 16⟩
def SBF_SCRUB_CTL_PERIOD : Fld := ⟨10, 0⟩
def SBF_ERR_CTL_CNT_CLR : Fld := ⟨63, 63⟩
def SBF_ERR_CTL_CE_THRESH : Fld := ⟨15, 0⟩
def SBF_ERR_CNT_VOTE : Fld := ⟨63, 48⟩
def SBF_ERR_CNT_UE : Fld := ⟨47, 32⟩
def SBF_ERR_CNT_CE : Fld := ⟨31, 0⟩
def SBF_ERR_REC_ADDR_VALID : Fld := ⟨63, 63⟩
def SBF_ERR_REC_ADDR_OVERFLOW : Fld := ⟨62, 62⟩
def SBF_ERR_REC_ADDR_TYPE : Fld := ⟨61, 59⟩
def SBF_ERR_REC_ADDR_SOURCE : Fld := ⟨58, 56⟩
def SBF_ERR_REC_ADDR_BANK : Fld := ⟨53, 41⟩
def SBF_ERR_REC_ADDR_ADDR : Fld := ⟨40, 3⟩
def SBF_ERR_REC_INFO_SYNDROME : Fld := ⟨63, 56⟩
def SBF_ERR_REC_INFO_BEAT : Fld := ⟨47, 0⟩
def SBF_ERR_POP_POP : Fld := ⟨0, 0⟩
def SBF_INJECT_ARM : Fld := ⟨63, 63⟩
def SBF_INJECT_EN_B : Fld := ⟨62, 62⟩
def SBF_INJECT_EN_A : Fld := ⟨61, 61⟩
def SBF_INJECT_BIT_B : Fld := ⟨60, 54⟩
def SBF_INJECT_BIT_A : Fld := ⟨53, 47⟩
def SBF_INJECT_ADDR : Fld := ⟨40, 3⟩
def SBF_BANK_STATE : Fld := ⟨63, 62⟩
def SBF_BANK_LOGICAL : Fld := ⟨59, 48⟩
def SBF_BANK_UE : Fld := ⟨47, 32⟩
def SBF_BANK_CE : Fld := ⟨31, 0⟩
def STK_STATUS_STATE : Fld := ⟨63, 62⟩
def STK_STATUS_TEMP : Fld := ⟨55, 48⟩
def STK_STATUS_REFRESH : Fld := ⟨46, 46⟩
def STK_STATUS_SLOTS : Fld := ⟨45, 40⟩
def STK_STATUS_PLACED : Fld := ⟨38, 32⟩
def STK_STATUS_FENCED : Fld := ⟨22, 16⟩
def STK_PC_MASK_PLACED : Fld := ⟨63, 0⟩
def STK_CAP_CAP : Fld := ⟨20, 0⟩
def STK_SCRUB_CTL_PASSES : Fld := ⟨63, 32⟩
def STK_SCRUB_CTL_EN : Fld := ⟨16, 16⟩
def STK_SCRUB_CTL_PERIOD : Fld := ⟨7, 0⟩
def STK_ERR_CTL_CNT_CLR : Fld := ⟨63, 63⟩
def STK_ERR_CTL_CE_THRESH : Fld := ⟨15, 0⟩
def STK_ERR_CNT_TAG : Fld := ⟨63, 48⟩
def STK_ERR_CNT_UE : Fld := ⟨47, 32⟩
def STK_ERR_CNT_CE : Fld := ⟨31, 0⟩
def STK_ERR_CNT2_INNER : Fld := ⟨63, 32⟩
def STK_ERR_CNT2_RETRY : Fld := ⟨15, 0⟩
def STK_ERR_REC_ADDR_VALID : Fld := ⟨63, 63⟩
def STK_ERR_REC_ADDR_OVERFLOW : Fld := ⟨62, 62⟩
def STK_ERR_REC_ADDR_TYPE : Fld := ⟨61, 59⟩
def STK_ERR_REC_ADDR_SOURCE : Fld := ⟨58, 56⟩
def STK_ERR_REC_ADDR_PC : Fld := ⟨55, 50⟩
def STK_ERR_REC_ADDR_BANK : Fld := ⟨49, 44⟩
def STK_ERR_REC_ADDR_ROW : Fld := ⟨43, 30⟩
def STK_ERR_REC_ADDR_BLOCK : Fld := ⟨29, 26⟩
def STK_ERR_REC_INFO_SYMBOL : Fld := ⟨63, 56⟩
def STK_ERR_REC_INFO_BEAT : Fld := ⟨47, 0⟩
def STK_ERR_POP_POP : Fld := ⟨0, 0⟩
def STK_INJECT_ARM : Fld := ⟨63, 63⟩
def STK_INJECT_EN_B : Fld := ⟨62, 62⟩
def STK_INJECT_EN_A : Fld := ⟨61, 61⟩
def STK_INJECT_SYM_B : Fld := ⟨60, 54⟩
def STK_INJECT_SYM_A : Fld := ⟨53, 47⟩
def STK_INJECT_PC : Fld := ⟨46, 41⟩
def STK_INJECT_BANK : Fld := ⟨40, 35⟩
def STK_INJECT_ROW : Fld := ⟨34, 21⟩
def STK_INJECT_BLOCK : Fld := ⟨20, 17⟩
def STK_FILL_DONE : Fld := ⟨63, 63⟩
def STK_FILL_BUSY : Fld := ⟨62, 62⟩
def STK_FILL_TIME : Fld := ⟨31, 0⟩
def STK_TRAINED_WORD : Fld := ⟨63, 0⟩
def STK_PC_STATE : Fld := ⟨63, 62⟩
def STK_PC_UE : Fld := ⟨47, 32⟩
def STK_PC_CE : Fld := ⟨31, 0⟩
def MSC_CTL_CNT_CLR : Fld := ⟨63, 63⟩
def MSC_CTL_PF_EN : Fld := ⟨1, 1⟩
def MSC_CTL_EN : Fld := ⟨0, 0⟩
def MSC_STATUS_FAULTY : Fld := ⟨63, 63⟩
def MSC_STATUS_STALE : Fld := ⟨62, 62⟩
def MSC_STATUS_INV_BUSY : Fld := ⟨61, 61⟩
def MSC_STATUS_DRAINED : Fld := ⟨60, 60⟩
def MSC_STATUS_MR_BUSY : Fld := ⟨40, 32⟩
def MSC_STATUS_MB_USED : Fld := ⟨22, 16⟩
def MSC_STATUS_PF_ENTRIES : Fld := ⟨6, 0⟩
def MSC_INV_ALL_GO : Fld := ⟨0, 0⟩
def MSC_MB_CTL_HIGH_WATER : Fld := ⟨15, 8⟩
def MSC_MB_CTL_AGE : Fld := ⟨7, 0⟩
def MSC_PF_CTL_MAX_MR : Fld := ⟨23, 16⟩
def MSC_PF_CTL_MIN_FREE : Fld := ⟨15, 8⟩
def MSC_PF_CTL_DEPTH : Fld := ⟨3, 0⟩
def MSC_LFSR_STATE : Fld := ⟨15, 0⟩
def MSC_CNT_RD_HIT : Fld := ⟨63, 32⟩
def MSC_CNT_RD_MISS : Fld := ⟨31, 0⟩
def MSC_CNT_MISC_MERGED : Fld := ⟨63, 40⟩
def MSC_CNT_MISC_PARITY : Fld := ⟨39, 24⟩
def MSC_CNT_MISC_FILL_ERR : Fld := ⟨23, 12⟩
def MSC_CNT_MISC_MB_LOST : Fld := ⟨11, 4⟩
def MSC_CNT_MISC_STALE_EN : Fld := ⟨3, 0⟩
def MSC_CNT_PF_ISSUED : Fld := ⟨63, 40⟩
def MSC_CNT_PF_USEFUL : Fld := ⟨39, 16⟩
def MSC_CNT_PF_REJECTED : Fld := ⟨15, 0⟩
def DMV_STATUS_STATE : Fld := ⟨63, 62⟩
def DMV_STATUS_PHYS : Fld := ⟨53, 48⟩
def DMV_STATUS_ATTACHED : Fld := ⟨4, 0⟩
def DMV_CTL_CNT_CLR : Fld := ⟨0, 0⟩
def DMV_CNT_RD_BYTES : Fld := ⟨63, 0⟩
def DMV_CNT_WR_BYTES : Fld := ⟨63, 0⟩
def DMV_CNT_DESC_FAILED : Fld := ⟨63, 32⟩
def DMV_CNT_DESC_DONE : Fld := ⟨31, 0⟩
def DMV_CNT_STALL_PIPS : Fld := ⟨63, 32⟩
def DMV_CNT_STALL_MEM : Fld := ⟨31, 0⟩
def DMV_Q_RING_SIZE : Fld := ⟨63, 60⟩
def DMV_Q_RING_BASE : Fld := ⟨47, 6⟩
def DMV_Q_CPL_BASE : Fld := ⟨47, 5⟩
def DMV_Q_CFG_CTX : Fld := ⟨51, 40⟩
def DMV_Q_CFG_VECTOR : Fld := ⟨39, 28⟩
def DMV_Q_CFG_CLASS : Fld := ⟨7, 4⟩
def DMV_Q_CFG_IRQ_ERR : Fld := ⟨1, 1⟩
def DMV_Q_CFG_MIGRATE : Fld := ⟨0, 0⟩
def DMV_Q_TAIL_TAIL : Fld := ⟨31, 0⟩
def DMV_Q_HEAD_DONE : Fld := ⟨63, 32⟩
def DMV_Q_HEAD_STARTED : Fld := ⟨31, 0⟩
def DMV_Q_CTL_RESET : Fld := ⟨1, 1⟩
def DMV_Q_CTL_EN : Fld := ⟨0, 0⟩
def DMV_Q_STATUS_STATE : Fld := ⟨63, 61⟩
def DMV_Q_STATUS_ATTACHED : Fld := ⟨60, 60⟩
def DMV_Q_STATUS_RUNS_ON : Fld := ⟨59, 52⟩
def DMV_Q_STATUS_REASON : Fld := ⟨51, 48⟩
def DMV_Q_STATUS_IN_FLIGHT : Fld := ⟨2, 0⟩
def NME_STATUS_STATE : Fld := ⟨63, 61⟩
def NME_STATUS_CLK_GATED : Fld := ⟨60, 60⟩
def NME_STATUS_ROWS_USABLE : Fld := ⟨54, 48⟩
def NME_STATUS_SPARES_USED : Fld := ⟨42, 40⟩
def NME_STATUS_RING : Fld := ⟨36, 32⟩
def NME_STATUS_INDEX : Fld := ⟨15, 0⟩
def NME_CTL_CNT_CLR : Fld := ⟨0, 0⟩
def NME_RING_CFG_TMO : Fld := ⟨47, 32⟩
def NME_RING_CFG_SLOTS : Fld := ⟨6, 0⟩
def NME_RING_ACT_ARMED : Fld := ⟨63, 63⟩
def NME_RING_ACT_ARM : Fld := ⟨62, 62⟩
def NME_RING_ACT_SLOTS_NEXT : Fld := ⟨54, 48⟩
def NME_RING_ACT_AT : Fld := ⟨47, 0⟩
def NME_CNT_RUN_CYCLES : Fld := ⟨63, 0⟩
def NME_CNT_RING_DISCARD : Fld := ⟨63, 48⟩
def NME_CNT_RING_TMO : Fld := ⟨47, 32⟩
def NME_CNT_RING_FORGONE : Fld := ⟨31, 0⟩
def NME_CNT_SCR_UE : Fld := ⟨63, 32⟩
def NME_CNT_SCR_CE : Fld := ⟨31, 0⟩
def NME_KAT_SIG : Fld := ⟨63, 32⟩
def NME_KAT_DONE : Fld := ⟨31, 31⟩
def NME_KAT_PASS : Fld := ⟨30, 30⟩
def NME_KAT_ROWS_FAILED : Fld := ⟨6, 0⟩
def NME_SR_SEED_STATE : Fld := ⟨31, 0⟩
def NME_RING_TBL_E_ENTRY0 : Fld := ⟨7, 0⟩
def NME_RING_TBL_E_ENTRY1 : Fld := ⟨15, 8⟩
def NME_RING_TBL_E_ENTRY2 : Fld := ⟨23, 16⟩
def NME_RING_TBL_E_ENTRY3 : Fld := ⟨31, 24⟩
def NME_RING_TBL_E_ENTRY4 : Fld := ⟨39, 32⟩
def NME_RING_TBL_E_ENTRY5 : Fld := ⟨47, 40⟩
def NME_RING_TBL_E_ENTRY6 : Fld := ⟨55, 48⟩
def NME_RING_TBL_E_ENTRY7 : Fld := ⟨63, 56⟩
def NME_RING_TBL_W_ENTRY0 : Fld := ⟨7, 0⟩
def NME_RING_TBL_W_ENTRY1 : Fld := ⟨15, 8⟩
def NME_RING_TBL_W_ENTRY2 : Fld := ⟨23, 16⟩
def NME_RING_TBL_W_ENTRY3 : Fld := ⟨31, 24⟩
def NME_RING_TBL_W_ENTRY4 : Fld := ⟨39, 32⟩
def NME_RING_TBL_W_ENTRY5 : Fld := ⟨47, 40⟩
def NME_RING_TBL_W_ENTRY6 : Fld := ⟨55, 48⟩
def NME_RING_TBL_W_ENTRY7 : Fld := ⟨63, 56⟩
def NME_RING_ACTV_E_ENTRY0 : Fld := ⟨7, 0⟩
def NME_RING_ACTV_E_ENTRY1 : Fld := ⟨15, 8⟩
def NME_RING_ACTV_E_ENTRY2 : Fld := ⟨23, 16⟩
def NME_RING_ACTV_E_ENTRY3 : Fld := ⟨31, 24⟩
def NME_RING_ACTV_E_ENTRY4 : Fld := ⟨39, 32⟩
def NME_RING_ACTV_E_ENTRY5 : Fld := ⟨47, 40⟩
def NME_RING_ACTV_E_ENTRY6 : Fld := ⟨55, 48⟩
def NME_RING_ACTV_E_ENTRY7 : Fld := ⟨63, 56⟩
def NME_RING_ACTV_W_ENTRY0 : Fld := ⟨7, 0⟩
def NME_RING_ACTV_W_ENTRY1 : Fld := ⟨15, 8⟩
def NME_RING_ACTV_W_ENTRY2 : Fld := ⟨23, 16⟩
def NME_RING_ACTV_W_ENTRY3 : Fld := ⟨31, 24⟩
def NME_RING_ACTV_W_ENTRY4 : Fld := ⟨39, 32⟩
def NME_RING_ACTV_W_ENTRY5 : Fld := ⟨47, 40⟩
def NME_RING_ACTV_W_ENTRY6 : Fld := ⟨55, 48⟩
def NME_RING_ACTV_W_ENTRY7 : Fld := ⟨63, 56⟩
def DSP_STATUS_SPILL_USED : Fld := ⟨44, 40⟩
def DSP_STATUS_FIFO : Fld := ⟨37, 32⟩
def DSP_STATUS_HELD_JOBS : Fld := ⟨5, 0⟩
def DSP_SPILL_SLOTS : Fld := ⟨52, 48⟩
def DSP_SPILL_BASE : Fld := ⟨40, 25⟩
def DSP_TOK_POST_INDEX : Fld := ⟨15, 4⟩
def DSP_TOK_POST_GEN : Fld := ⟨3, 0⟩
def DSP_TOK_CMD_CMD : Fld := ⟨63, 62⟩
def DSP_TOK_CMD_PRESENT : Fld := ⟨16, 16⟩
def DSP_TOK_CMD_INDEX : Fld := ⟨15, 4⟩
def DSP_TOK_CMD_GEN : Fld := ⟨3, 0⟩
def DSP_TOK_CNT_STALE : Fld := ⟨63, 48⟩
def DSP_TOK_CNT_DUP : Fld := ⟨47, 32⟩
def DSP_TOK_CNT_POSTS : Fld := ⟨31, 0⟩
def DSP_JR_RING_SIZE : Fld := ⟨63, 60⟩
def DSP_JR_RING_BASE : Fld := ⟨47, 7⟩
def DSP_JR_CPL_BASE : Fld := ⟨47, 5⟩
def DSP_JR_CFG_CTX : Fld := ⟨51, 40⟩
def DSP_JR_CFG_VECTOR : Fld := ⟨39, 28⟩
def DSP_JR_CFG_CLASS : Fld := ⟨7, 4⟩
def DSP_JR_CFG_IRQ_ERR : Fld := ⟨1, 1⟩
def DSP_JR_TAIL_TAIL : Fld := ⟨31, 0⟩
def DSP_JR_HEAD_DONE : Fld := ⟨63, 32⟩
def DSP_JR_HEAD_STARTED : Fld := ⟨31, 0⟩
def DSP_JR_CTL_RESET : Fld := ⟨1, 1⟩
def DSP_JR_CTL_EN : Fld := ⟨0, 0⟩
def DSP_JR_STATUS_STATE : Fld := ⟨63, 61⟩
def DSP_JR_STATUS_REASON : Fld := ⟨51, 48⟩
def DSP_JR_STATUS_WAIT_ENG : Fld := ⟨34, 34⟩
def DSP_JR_STATUS_WAIT_BEAT : Fld := ⟨33, 33⟩
def DSP_JR_STATUS_WAIT_TOK : Fld := ⟨32, 32⟩
def DSP_JR_STATUS_WAIT_INDEX : Fld := ⟨11, 0⟩
def DSP_TOK_PRESENT : Fld := ⟨4, 4⟩
def DSP_TOK_GEN : Fld := ⟨3, 0⟩
def TDI_SITE_STATUS_KIND : Fld := ⟨63, 62⟩
def TDI_SITE_STATUS_RESET : Fld := ⟨61, 61⟩
def TDI_SITE_STATUS_POWERED : Fld := ⟨60, 60⟩
def TDI_SITE_STATUS_FENCED : Fld := ⟨6, 0⟩
def TDI_CTL_CNT_CLR : Fld := ⟨0, 0⟩
def TDI_CFG_WAIT_TMO : Fld := ⟨15, 0⟩
def TDI_PWR_LIMIT_CLAMP_W : Fld := ⟨25, 16⟩
def TDI_PWR_LIMIT_MAX_W : Fld := ⟨9, 0⟩
def TDI_PWR_GRANT_ARMED : Fld := ⟨63, 63⟩
def TDI_PWR_GRANT_ARM : Fld := ⟨62, 62⟩
def TDI_PWR_GRANT_NEXT_W : Fld := ⟨57, 48⟩
def TDI_PWR_GRANT_AT : Fld := ⟨47, 0⟩
def TDI_PWR_STATUS_CLAMPED : Fld := ⟨63, 63⟩
def TDI_PWR_STATUS_REQ_W : Fld := ⟨51, 42⟩
def TDI_PWR_STATUS_SCHED_W : Fld := ⟨41, 32⟩
def TDI_PWR_STATUS_FORCE_W : Fld := ⟨9, 0⟩
def TDI_DIODE_FAULT1 : Fld := ⟨63, 63⟩
def TDI_DIODE_FAULT0 : Fld := ⟨62, 62⟩
def TDI_DIODE_T1 : Fld := ⟨47, 32⟩
def TDI_DIODE_T0 : Fld := ⟨15, 0⟩
def TDI_CNT_OVER_BEATS : Fld := ⟨63, 48⟩
def TDI_CNT_CLAMPS : Fld := ⟨47, 32⟩
def TDI_CNT_FENCINGS : Fld := ⟨31, 16⟩
def TDI_PORT_CFG_CTX : Fld := ⟨51, 40⟩
def TDI_PORT_CFG_CLASS : Fld := ⟨7, 4⟩
def TDI_PORT_CFG_UNFENCE : Fld := ⟨1, 1⟩
def TDI_PORT_CFG_EN : Fld := ⟨0, 0⟩
def TDI_PORT_STATUS_FENCED : Fld := ⟨63, 63⟩
def TDI_PORT_STATUS_VIOL : Fld := ⟨62, 59⟩
def TDI_PORT_STATUS_OUTSTANDING : Fld := ⟨10, 0⟩
def HKP_CH_CFG_EN : Fld := ⟨63, 63⟩
def HKP_CH_CFG_LIMIT_EN : Fld := ⟨62, 62⟩
def HKP_CH_CFG_KIND : Fld := ⟨61, 59⟩
def HKP_CH_CFG_PARAM : Fld := ⟨58, 48⟩
def HKP_CH_CFG_SHUT : Fld := ⟨47, 32⟩
def HKP_CH_CFG_THR : Fld := ⟨31, 16⟩
def HKP_CH_VAL_VALID : Fld := ⟨63, 63⟩
def HKP_CH_VAL_FAULT : Fld := ⟨62, 62⟩
def HKP_CH_VAL_OVER_THR : Fld := ⟨61, 61⟩
def HKP_CH_VAL_VALUE : Fld := ⟨15, 0⟩

end F

end Sys2Proof
end

