-- ==== Sys2Proof/Machine/RegTable.lean ====
section
/-!
DEFINITION. The register maps of spec/ as data: for every register its address, its repetition, whether it is
configuration-class (R543 and the opening of each map), and for every field its bits, access code (R7), reset value
and reserved values (R10). Bits that no field names are the reserved fields of R9.
-/
namespace Sys2Proof

/-- The access codes of R7. No register map of spec/ uses RWS. -/
inductive Acc where
  | rw | ro | wo | w1s | w1c
  deriving DecidableEq, Repr

/-- One field row of a register map. `rsv` lists the reserved ranges of values of R10. -/
structure FieldDef where
  hi : Nat
  lo : Nat
  acc : Acc
  reset : Nat
  rsv : List (Nat × Nat)
  deriving DecidableEq, Repr

/-- Reset values that the maps give by index, by fuse or by another table. -/
inductive ResetKind where
  | plain | fuseId | fuseSerial | context | lfsr | seed | runsOn | bank | route | channel
  deriving DecidableEq, Repr

/-- One register of a map: `base` its first offset in register space, `dims` its repetitions as stride and count,
outermost first; `shows` is how far below it the register stands whose stored copy it shows (the CLR names of
R457 show the SET names' bits). -/
structure RegDef where
  name : String
  base : Nat
  dims : List (Nat × Nat)
  cfg : Bool
  shows : Nat
  kind : ResetKind
  fields : List FieldDef
  deriving DecidableEq, Repr

namespace RegMap

/-- The TOP registers. -/
def top : List RegDef :=
  [
   ⟨"TOP_ID", 0, [], false, 0, .fuseId,
    [⟨63, 48, .ro, 0x824, []⟩, ⟨47, 40, .ro, 0, []⟩, ⟨1, 0, .ro, 0, []⟩]⟩,
   ⟨"TOP_STATE", 8, [], false, 0, .plain,
    [⟨63, 32, .ro, 0, []⟩, ⟨7, 4, .ro, 0, []⟩, ⟨3, 0, .ro, 1, []⟩]⟩,
   ⟨"TOP_STATUS", 0x10, [], false, 0, .plain,
    [⟨63, 32, .ro, 0, []⟩, ⟨11, 11, .w1c, 0, []⟩, ⟨10, 10, .ro, 0, []⟩, ⟨9, 9, .ro, 0, []⟩, ⟨8, 8, .ro, 0, []⟩,
     ⟨3, 0, .ro, 0, []⟩]⟩,
   ⟨"TOP_CTL", 0x18, [], true, 0, .plain,
    [⟨63, 63, .wo, 0, []⟩, ⟨44, 44, .rw, 0, []⟩, ⟨43, 32, .rw, 0, []⟩, ⟨15, 0, .wo, 0, []⟩]⟩,
   ⟨"TOP_REQ_LINKS", 0x20, [], true, 0, .plain,
    [⟨63, 32, .ro, 0, []⟩, ⟨31, 0, .rw, 0, []⟩]⟩,
   ⟨"TOP_REQ_WIDTH", 0x28, [], true, 0, .plain,
    [⟨1, 0, .rw, 3, [(0, 0)]⟩, ⟨3, 2, .rw, 3, [(0, 0)]⟩, ⟨5, 4, .rw, 3, [(0, 0)]⟩, ⟨7, 6, .rw, 3, [(0, 0)]⟩,
     ⟨9, 8, .rw, 3, [(0, 0)]⟩, ⟨11, 10, .rw, 3, [(0, 0)]⟩, ⟨13, 12, .rw, 3, [(0, 0)]⟩,
     ⟨15, 14, .rw, 3, [(0, 0)]⟩, ⟨17, 16, .rw, 3, [(0, 0)]⟩, ⟨19, 18, .rw, 3, [(0, 0)]⟩,
     ⟨21, 20, .rw, 3, [(0, 0)]⟩, ⟨23, 22, .rw, 3, [(0, 0)]⟩, ⟨25, 24, .rw, 3, [(0, 0)]⟩,
     ⟨27, 26, .rw, 3, [(0, 0)]⟩, ⟨29, 28, .rw, 3, [(0, 0)]⟩, ⟨31, 30, .rw, 3, [(0, 0)]⟩,
     ⟨33, 32, .rw, 3, [(0, 0)]⟩, ⟨35, 34, .rw, 3, [(0, 0)]⟩, ⟨37, 36, .rw, 3, [(0, 0)]⟩,
     ⟨39, 38, .rw, 3, [(0, 0)]⟩, ⟨41, 40, .rw, 3, [(0, 0)]⟩, ⟨43, 42, .rw, 3, [(0, 0)]⟩,
     ⟨45, 44, .rw, 3, [(0, 0)]⟩, ⟨47, 46, .rw, 3, [(0, 0)]⟩, ⟨49, 48, .rw, 3, [(0, 0)]⟩,
     ⟨51, 50, .rw, 3, [(0, 0)]⟩, ⟨53, 52, .rw, 3, [(0, 0)]⟩, ⟨55, 54, .rw, 3, [(0, 0)]⟩,
     ⟨57, 56, .rw, 3, [(0, 0)]⟩, ⟨59, 58, .rw, 3, [(0, 0)]⟩, ⟨61, 60, .rw, 3, [(0, 0)]⟩,
     ⟨63, 62, .rw, 3, [(0, 0)]⟩]⟩,
   ⟨"TOP_CAP0", 0x30, [], false, 0, .plain,
    [⟨63, 48, .ro, 0, []⟩, ⟨47, 24, .ro, 0, []⟩, ⟨23, 16, .ro, 0, []⟩, ⟨9, 0, .ro, 0, []⟩]⟩,
   ⟨"TOP_CAP1", 0x38, [], false, 0, .plain,
    [⟨52, 48, .ro, 0, []⟩, ⟨42, 32, .ro, 0, []⟩, ⟨26, 16, .ro, 0, []⟩, ⟨8, 0, .ro, 0, []⟩]⟩,
   ⟨"TOP_DEFECT", 0x40, [], false, 0, .plain,
    [⟨17, 17, .ro, 0, []⟩, ⟨16, 16, .ro, 0, []⟩, ⟨15, 0, .ro, 0, []⟩]⟩,
   ⟨"TOP_FLASH_ADDR", 0x48, [], false, 0, .plain,
    [⟨31, 0, .rw, 0, []⟩]⟩,
   ⟨"TOP_FLASH_CTL", 0x50, [], true, 0, .plain,
    [⟨28, 16, .rw, 0, [(0, 0), (4097, 8191)]⟩, ⟨1, 0, .wo, 0, []⟩]⟩,
   ⟨"TOP_FLASH_STATUS", 0x58, [], false, 0, .plain,
    [⟨2, 1, .ro, 0, []⟩, ⟨0, 0, .ro, 0, []⟩]⟩,
   ⟨"TOP_FLASH_BUF", 0x1000, [(8, 512)], false, 0, .plain,
    [⟨63, 0, .rw, 0, []⟩]⟩
  ]

/-- The EIC registers. -/
def eic : List RegDef :=
  [
   ⟨"EIC_DOORBELL", 0x100000, [], false, 0, .plain,
    [⟨15, 15, .wo, 0, []⟩, ⟨9, 0, .wo, 0, []⟩]⟩,
   ⟨"EIC_CTL", 0x100008, [], false, 0, .plain,
    [⟨63, 63, .wo, 0, []⟩]⟩,
   ⟨"EIC_CNT", 0x100010, [], false, 0, .plain,
    [⟨63, 48, .ro, 0, []⟩, ⟨47, 32, .ro, 0, []⟩, ⟨31, 0, .ro, 0, []⟩]⟩,
   ⟨"EIC_HV_TRIG", 0x100018, [], false, 0, .plain,
    [⟨11, 0, .wo, 0, []⟩]⟩,
   ⟨"EIC_PEND_SET", 0x100100, [(8, 13)], false, 0, .plain,
    [⟨63, 0, .w1s, 0, []⟩]⟩,
   ⟨"EIC_PEND_CLR", 0x100180, [(8, 13)], false, 0x80, .plain,
    [⟨63, 0, .w1c, 0, []⟩]⟩,
   ⟨"EIC_EN_SET", 0x100200, [(8, 13)], true, 0, .plain,
    [⟨63, 0, .w1s, 0, []⟩]⟩,
   ⟨"EIC_EN_CLR", 0x100280, [(8, 13)], true, 0x80, .plain,
    [⟨63, 0, .w1c, 0, []⟩]⟩,
   ⟨"EIC_ASSERTED", 0x100300, [(8, 13)], false, 0, .plain,
    [⟨63, 0, .ro, 0, []⟩]⟩,
   ⟨"EIC_ACTIVE", 0x100380, [(8, 13)], false, 0, .plain,
    [⟨63, 0, .ro, 0, []⟩]⟩,
   ⟨"EIC_ROUTE", 0x101100, [(8, 800)], true, 0, .route,
    [⟨63, 63, .ro, 0, []⟩, ⟨62, 62, .rw, 0, []⟩, ⟨43, 32, .rw, 0, []⟩, ⟨3, 0, .rw, 0, [(11, 15)]⟩]⟩,
   ⟨"EIC_C_DOORBELL", 0x104000, [(0x100, 11)], false, 0, .plain,
    [⟨15, 15, .wo, 0, []⟩, ⟨9, 0, .wo, 0, []⟩]⟩,
   ⟨"EIC_C_PEND_SET", 0x104008, [(0x100, 11)], false, 0, .plain,
    [⟨31, 0, .w1s, 0, []⟩]⟩,
   ⟨"EIC_C_PEND_CLR", 0x104010, [(0x100, 11)], false, 8, .plain,
    [⟨31, 0, .w1c, 0, []⟩]⟩,
   ⟨"EIC_C_EN_SET", 0x104018, [(0x100, 11)], true, 0, .plain,
    [⟨31, 0, .w1s, 0, []⟩]⟩,
   ⟨"EIC_C_EN_CLR", 0x104020, [(0x100, 11)], true, 8, .plain,
    [⟨31, 0, .w1c, 0, []⟩]⟩,
   ⟨"EIC_C_MASK_SET", 0x104028, [(0x100, 11)], false, 0, .plain,
    [⟨0, 0, .w1s, 1, []⟩]⟩,
   ⟨"EIC_C_MASK_CLR", 0x104030, [(0x100, 11)], false, 8, .plain,
    [⟨0, 0, .w1c, 1, []⟩]⟩,
   ⟨"EIC_C_CLAIM", 0x104038, [(0x100, 11)], false, 0, .plain,
    [⟨63, 63, .ro, 0, []⟩, ⟨9, 0, .ro, 0, []⟩]⟩,
   ⟨"EIC_C_EOI", 0x104040, [(0x100, 11)], false, 0, .plain,
    [⟨9, 0, .wo, 0, []⟩]⟩,
   ⟨"EIC_C_STATUS", 0x104048, [(0x100, 11)], false, 0, .plain,
    [⟨63, 63, .ro, 1, []⟩, ⟨62, 62, .ro, 0, []⟩, ⟨61, 61, .ro, 0, []⟩, ⟨25, 16, .ro, 0, []⟩, ⟨9, 0, .ro, 0, []⟩]⟩,
   ⟨"EIC_HV_ADDR", 0x110000, [(0x20, 4096)], true, 0, .plain,
    [⟨47, 2, .rw, 0, []⟩]⟩,
   ⟨"EIC_HV_DATA", 0x110008, [(0x20, 4096)], true, 0, .plain,
    [⟨31, 0, .rw, 0, []⟩]⟩,
   ⟨"EIC_HV_MOD", 0x110010, [(0x20, 4096)], true, 0, .plain,
    [⟨63, 63, .rw, 0, []⟩, ⟨25, 16, .rw, 0x3e8, [(0, 0), (1001, 1023)]⟩, ⟨15, 8, .rw, 0, []⟩,
     ⟨7, 0, .rw, 1, [(0, 0)]⟩]⟩,
   ⟨"EIC_HV_STATUS", 0x110018, [(0x20, 4096)], false, 0, .plain,
    [⟨63, 63, .ro, 0, []⟩, ⟨62, 62, .ro, 0, []⟩, ⟨61, 61, .ro, 0, []⟩, ⟨47, 32, .ro, 0, []⟩, ⟨15, 0, .ro, 0, []⟩]⟩
  ]

/-- The MBX registers. -/
def mbx : List RegDef :=
  [
   ⟨"MBX_CTL", 0x200000, [(0x100, 17)], false, 0, .plain,
    [⟨1, 1, .wo, 0, []⟩, ⟨0, 0, .wo, 0, []⟩]⟩,
   ⟨"MBX_STATUS", 0x200008, [(0x100, 17)], false, 0, .plain,
    [⟨63, 62, .ro, 0, []⟩, ⟨61, 61, .w1c, 0, []⟩, ⟨60, 60, .ro, 0, []⟩, ⟨47, 32, .ro, 0, []⟩,
     ⟨31, 0, .ro, 0, []⟩]⟩,
   ⟨"MBX_CFG", 0x200010, [(0x100, 17)], true, 0, .plain,
    [⟨12, 12, .rw, 0, []⟩, ⟨11, 0, .rw, 0, []⟩]⟩
  ]

/-- The JRN registers. -/
def jrn : List RegDef :=
  [
   ⟨"JRN_STATUS", 0x300000, [], false, 0, .plain,
    [⟨63, 48, .ro, 0, []⟩, ⟨47, 0, .ro, 0, []⟩]⟩,
   ⟨"JRN_DUMP_ADDR", 0x300008, [], false, 0, .plain,
    [⟨47, 6, .rw, 0, []⟩]⟩,
   ⟨"JRN_DUMP_CTL", 0x300010, [], false, 0, .plain,
    [⟨63, 63, .wo, 0, []⟩, ⟨47, 0, .rw, 0, []⟩]⟩,
   ⟨"JRN_DUMP_CNT", 0x300018, [], false, 0, .plain,
    [⟨63, 63, .ro, 0, []⟩, ⟨62, 55, .ro, 0, []⟩, ⟨16, 0, .rw, 0, [(0, 0), (65537, 131071)]⟩]⟩,
   ⟨"JRN_DUMP_STATUS", 0x300020, [], false, 0, .plain,
    [⟨47, 0, .ro, 0, []⟩]⟩,
   ⟨"JRN_CNT", 0x300028, [], false, 0, .plain,
    [⟨63, 48, .ro, 0, []⟩, ⟨47, 0, .ro, 0, []⟩]⟩
  ]

/-- The SNP registers. -/
def snp : List RegDef :=
  [
   ⟨"SNP_CTL", 0x400000, [], true, 0, .plain,
    [⟨5, 5, .wo, 0, []⟩, ⟨4, 4, .rw, 1, []⟩, ⟨3, 3, .rw, 0, []⟩, ⟨2, 2, .rw, 1, []⟩, ⟨1, 1, .rw, 1, []⟩,
     ⟨0, 0, .rw, 0, []⟩]⟩,
   ⟨"SNP_STATUS", 0x400008, [], false, 0, .plain,
    [⟨63, 62, .ro, 0, []⟩, ⟨61, 61, .ro, 0, []⟩, ⟨60, 60, .ro, 0, []⟩, ⟨59, 59, .ro, 0, []⟩,
     ⟨58, 58, .ro, 0, []⟩, ⟨57, 50, .ro, 0, []⟩, ⟨49, 46, .ro, 0, []⟩, ⟨37, 32, .ro, 0, []⟩,
     ⟨31, 16, .ro, 0, []⟩, ⟨15, 0, .ro, 0, []⟩]⟩,
   ⟨"SNP_TRIG", 0x400010, [], false, 0, .plain,
    [⟨0, 0, .wo, 0, []⟩]⟩,
   ⟨"SNP_ARM", 0x400018, [], true, 0, .plain,
    [⟨63, 63, .wo, 0, []⟩, ⟨62, 62, .wo, 0, []⟩, ⟨47, 0, .rw, 0, []⟩]⟩,
   ⟨"SNP_EVT", 0x400020, [(8, 8)], true, 0, .plain,
    [⟨63, 63, .rw, 0, []⟩, ⟨9, 0, .rw, 0, [(0, 31), (832, 1023)]⟩]⟩,
   ⟨"SNP_DUMP_ADDR", 0x400060, [], false, 0, .plain,
    [⟨47, 6, .rw, 0, []⟩]⟩,
   ⟨"SNP_DUMP_CTL", 0x400068, [], false, 0, .plain,
    [⟨63, 63, .wo, 0, []⟩, ⟨31, 0, .rw, 0, [(0, 0)]⟩]⟩,
   ⟨"SNP_CNT", 0x400070, [], false, 0, .plain,
    [⟨63, 32, .ro, 0, []⟩, ⟨31, 16, .ro, 0, []⟩, ⟨15, 0, .ro, 0, []⟩]⟩
  ]

/-- The WEAR registers. -/
def wear : List RegDef :=
  [
   ⟨"WEAR_STATUS", 0x500000, [], false, 0, .plain,
    [⟨63, 56, .ro, 0xff, []⟩, ⟨55, 52, .ro, 0, []⟩, ⟨31, 0, .ro, 0, []⟩]⟩,
   ⟨"WEAR_CTL", 0x500008, [], true, 0, .plain,
    [⟨7, 0, .rw, 6, []⟩]⟩,
   ⟨"WEAR_AGE", 0x500100, [(0x200, 8), (8, 64)], false, 0, .plain,
    [⟨63, 32, .ro, 0, []⟩, ⟨31, 0, .ro, 0, []⟩]⟩,
   ⟨"WEAR_STK", 0x501100, [(8, 24)], false, 0, .plain,
    [⟨63, 32, .ro, 0, []⟩, ⟨31, 0, .ro, 0, []⟩]⟩,
   ⟨"WEAR_LNK", 0x501200, [(8, 32)], false, 0, .plain,
    [⟨63, 32, .ro, 0, []⟩, ⟨31, 0, .ro, 0, []⟩]⟩,
   ⟨"WEAR_CHG", 0x501300, [(8, 8)], false, 0, .plain,
    [⟨63, 32, .ro, 0, []⟩, ⟨31, 0, .ro, 0, []⟩]⟩,
   ⟨"WEAR_FLASH", 0x501400, [], false, 0, .plain,
    [⟨63, 32, .ro, 0, []⟩, ⟨31, 0, .ro, 0, []⟩]⟩
  ]

/-- The PWR registers. -/
def pwr : List RegDef :=
  [
   ⟨"PWR_STATUS", 0x600000, [], false, 0, .plain,
    [⟨63, 63, .ro, 0, []⟩, ⟨62, 62, .ro, 0, []⟩, ⟨61, 61, .ro, 0, []⟩, ⟨60, 60, .ro, 0, []⟩,
     ⟨59, 59, .ro, 0, []⟩, ⟨58, 51, .ro, 0xff, []⟩, ⟨47, 32, .ro, 0, []⟩, ⟨15, 0, .ro, 0, []⟩]⟩,
   ⟨"PWR_LIM_CFG", 0x600008, [], true, 0, .plain,
    [⟨55, 52, .rw, 0xf, []⟩, ⟨51, 48, .rw, 8, []⟩, ⟨47, 44, .rw, 8, []⟩,
     ⟨43, 32, .rw, 0x3e8, [(0, 9), (4001, 4095)]⟩, ⟨31, 16, .rw, 0xc1c, [(0, 999), (3201, 65535)]⟩,
     ⟨15, 0, .rw, 0xc1c, [(0, 2899), (3201, 65535)]⟩]⟩,
   ⟨"PWR_LIM_STATUS", 0x600010, [], false, 0, .plain,
    [⟨63, 48, .ro, 0, []⟩, ⟨47, 40, .ro, 0, []⟩, ⟨6, 4, .w1c, 0, []⟩, ⟨2, 0, .ro, 0, []⟩]⟩,
   ⟨"PWR_EMERG", 0x600018, [], false, 0, .plain,
    [⟨63, 63, .wo, 0, []⟩, ⟨62, 62, .ro, 0, []⟩, ⟨55, 48, .rw, 0x64, [(0, 9)]⟩, ⟨47, 0, .ro, 0, []⟩]⟩,
   ⟨"PWR_BUDGET", 0x600020, [], true, 0, .plain,
    [⟨63, 63, .rw, 0, []⟩, ⟨62, 56, .rw, 0x5a, [(0, 79), (100, 127)]⟩, ⟨55, 52, .rw, 2, [(0, 0)]⟩,
     ⟨47, 32, .rw, 0xc8, [(2001, 65535)]⟩, ⟨31, 16, .ro, 0, []⟩,
     ⟨15, 0, .rw, 0x2904, [(0, 999), (10501, 65535)]⟩]⟩,
   ⟨"PWR_HOLDUP", 0x600028, [], false, 0, .plain,
    [⟨63, 62, .ro, 0, []⟩, ⟨15, 0, .ro, 0, []⟩]⟩,
   ⟨"PWR_LAST_OFF", 0x600030, [], false, 0, .plain,
    [⟨63, 60, .ro, 0, []⟩, ⟨56, 48, .ro, 0, []⟩, ⟨47, 0, .ro, 0, []⟩]⟩,
   ⟨"PWR_SITE_V", 0x600100, [(8, 8)], true, 0, .plain,
    [⟨7, 0, .rw, 0x96, [(0, 119), (191, 255)]⟩]⟩
  ]

/-- The THM registers. -/
def thm : List RegDef :=
  [
   ⟨"THM_STATUS", 0x700000, [], false, 0, .plain,
    [⟨63, 56, .ro, 0, []⟩, ⟨47, 32, .ro, 0, []⟩, ⟨24, 16, .ro, 0, []⟩]⟩,
   ⟨"THM_CNT", 0x700008, [], false, 0, .plain,
    [⟨63, 32, .ro, 0, []⟩, ⟨31, 16, .ro, 0, []⟩, ⟨15, 0, .ro, 0, []⟩]⟩
  ]

/-- The RGL registers. -/
def rgl : List RegDef :=
  [
   ⟨"RGL_CTL", 0x800000, [], true, 0, .plain,
    [⟨63, 63, .wo, 0, []⟩, ⟨1, 1, .rw, 0, []⟩, ⟨0, 0, .rw, 0, []⟩]⟩,
   ⟨"RGL_STATUS", 0x800008, [], false, 0, .plain,
    [⟨63, 63, .ro, 0, []⟩, ⟨62, 62, .ro, 0, []⟩, ⟨23, 0, .ro, 0, []⟩]⟩,
   ⟨"RGL_SRC_CLASS", 0x800010, [], true, 0, .plain,
    [⟨7, 4, .rw, 0, []⟩, ⟨3, 0, .rw, 0, []⟩]⟩,
   ⟨"RGL_TDF_CTL", 0x800018, [], true, 0, .plain,
    [⟨63, 63, .ro, 0, []⟩, ⟨62, 62, .wo, 0, []⟩, ⟨54, 48, .rw, 1, [(0, 0), (65, 127)]⟩, ⟨47, 0, .rw, 0, []⟩]⟩,
   ⟨"RGL_TDF_STATUS", 0x800020, [], false, 0, .plain,
    [⟨13, 8, .ro, 0, []⟩, ⟨6, 0, .ro, 1, []⟩]⟩,
   ⟨"RGL_QFB_CTL", 0x800028, [], true, 0, .plain,
    [⟨28, 16, .rw, 0x400, [(0, 0)]⟩, ⟨12, 0, .rw, 0x100, []⟩]⟩,
   ⟨"RGL_TDF_MASK", 0x800100, [(8, 15)], true, 0, .plain,
    [⟨63, 0, .rw, 1, []⟩]⟩,
   ⟨"RGL_TDF_ACTV", 0x800180, [(8, 15)], false, 0, .plain,
    [⟨63, 0, .ro, 1, []⟩]⟩,
   ⟨"RGL_STK_CFG", 0x801000, [(0x100, 24)], true, 0, .plain,
    [⟨39, 32, .rw, 8, [(0, 0), (65, 255)]⟩, ⟨20, 0, .rw, 0, []⟩]⟩,
   ⟨"RGL_STK_STATUS", 0x801008, [(0x100, 24)], false, 0, .plain,
    [⟨63, 63, .ro, 0, []⟩, ⟨62, 62, .ro, 0, []⟩, ⟨60, 48, .ro, 0, []⟩, ⟨20, 0, .ro, 0, []⟩]⟩,
   ⟨"RGL_MIN", 0x801010, [(0x100, 24), (8, 15)], true, 0, .plain,
    [⟨52, 32, .ro, 0, []⟩, ⟨20, 0, .rw, 0, []⟩]⟩,
   ⟨"RGL_STK_CNT", 0x801088, [(0x100, 24)], false, 0, .plain,
    [⟨63, 48, .ro, 0, []⟩, ⟨47, 32, .ro, 0, []⟩, ⟨31, 16, .ro, 0, []⟩]⟩,
   ⟨"RGL_CNT", 0x804000, [(0x80, 24), (8, 16)], false, 0, .plain,
    [⟨63, 48, .ro, 0, []⟩, ⟨47, 0, .ro, 0, []⟩]⟩
  ]

/-- The ADT registers. -/
def adt : List RegDef :=
  [
   ⟨"ADT_CTX_TABLE", 0x900000, [], true, 0, .plain,
    [⟨40, 12, .rw, 0, []⟩]⟩,
   ⟨"ADT_CTX_CMD", 0x900008, [], true, 0, .plain,
    [⟨27, 16, .wo, 0, []⟩, ⟨1, 0, .wo, 0, [(3, 3)]⟩]⟩,
   ⟨"ADT_INV_ARG0", 0x900010, [], false, 0, .plain,
    [⟨56, 31, .rw, 0, []⟩]⟩,
   ⟨"ADT_INV_ARG1", 0x900018, [], false, 0, .plain,
    [⟨63, 63, .wo, 0, []⟩, ⟨43, 32, .wo, 0, []⟩, ⟨25, 0, .wo, 0, []⟩]⟩,
   ⟨"ADT_INV_STATUS", 0x900020, [], false, 0, .plain,
    [⟨49, 49, .w1c, 0, []⟩, ⟨48, 48, .w1c, 0, []⟩, ⟨47, 32, .ro, 0, []⟩, ⟨20, 16, .ro, 0, []⟩,
     ⟨15, 0, .ro, 0, []⟩]⟩,
   ⟨"ADT_INV_TMO", 0x900028, [], true, 0, .plain,
    [⟨13, 0, .rw, 0x3e8, [(0, 0), (10001, 16383)]⟩]⟩,
   ⟨"ADT_OWN_STATUS", 0x900030, [], false, 0, .plain,
    [⟨0, 0, .ro, 0, []⟩]⟩,
   ⟨"ADT_FAULT_RING", 0x900038, [], true, 0, .plain,
    [⟨63, 60, .rw, 0, [(1, 3), (13, 15)]⟩, ⟨46, 5, .rw, 0, []⟩]⟩,
   ⟨"ADT_FAULT_HEAD", 0x900040, [], false, 0, .plain,
    [⟨15, 0, .ro, 0, []⟩]⟩,
   ⟨"ADT_FAULT_TAIL", 0x900048, [], false, 0, .plain,
    [⟨15, 0, .rw, 0, []⟩]⟩,
   ⟨"ADT_RESUME", 0x900050, [], false, 0, .plain,
    [⟨63, 63, .wo, 0, []⟩, ⟨15, 0, .wo, 0, []⟩]⟩,
   ⟨"ADT_CNT", 0x900058, [], false, 0, .plain,
    [⟨63, 48, .ro, 0, []⟩, ⟨47, 32, .ro, 0, []⟩, ⟨31, 0, .ro, 0, []⟩]⟩,
   ⟨"ADT_CTX_STATUS", 0x910000, [(8, 4096)], false, 0, .context,
    [⟨23, 8, .ro, 0, []⟩, ⟨4, 4, .rw, 0, []⟩, ⟨1, 0, .ro, 0, []⟩]⟩,
   ⟨"ADT_OWN_FRAME", 0x920000, [(8, 720)], true, 0, .plain,
    [⟨63, 63, .ro, 0, []⟩, ⟨62, 61, .ro, 0, []⟩, ⟨17, 16, .rw, 0, [(3, 3)]⟩, ⟨11, 0, .rw, 0, []⟩]⟩,
   ⟨"ADT_OWN_PART", 0x922000, [(8, 96)], true, 0, .plain,
    [⟨17, 16, .rw, 0, [(3, 3)]⟩, ⟨11, 0, .rw, 0, []⟩]⟩
  ]

/-- The TGL registers. -/
def tgl : List RegDef :=
  [
   ⟨"TGL_POD_CFG", 0xa00000, [], true, 0, .plain,
    [⟨15, 15, .rw, 0, []⟩, ⟨14, 14, .rw, 0, []⟩, ⟨13, 8, .rw, 0, []⟩, ⟨1, 0, .rw, 0, [(3, 3)]⟩]⟩,
   ⟨"TGL_POD_CTL", 0xa00008, [], false, 0, .plain,
    [⟨0, 0, .wo, 0, []⟩]⟩,
   ⟨"TGL_POD_STATUS", 0xa00010, [], false, 0, .plain,
    [⟨63, 63, .ro, 0, []⟩, ⟨62, 62, .ro, 0, []⟩, ⟨61, 59, .ro, 0, []⟩, ⟨53, 48, .ro, 0, []⟩,
     ⟨46, 40, .ro, 0, []⟩, ⟨37, 32, .ro, 0, []⟩, ⟨31, 0, .ro, 0, []⟩]⟩,
   ⟨"TGL_SERIAL", 0xa00018, [], false, 0, .fuseSerial,
    [⟨47, 0, .ro, 0, []⟩]⟩,
   ⟨"TGL_MASTER_SERIAL", 0xa00020, [], false, 0, .plain,
    [⟨47, 0, .ro, 0, []⟩]⟩,
   ⟨"TGL_MEMBERS", 0xa00028, [], false, 0, .plain,
    [⟨63, 0, .ro, 0, []⟩]⟩,
   ⟨"TGL_TMO", 0xa00030, [], true, 0, .plain,
    [⟨47, 32, .rw, 0x7d0, [(0, 99), (60001, 65535)]⟩, ⟨15, 0, .rw, 0x7d0, [(0, 99), (2001, 65535)]⟩]⟩,
   ⟨"TGL_HOST", 0xa00038, [], true, 0, .plain,
    [⟨63, 32, .rw, 0, []⟩, ⟨0, 0, .ro, 0, []⟩]⟩,
   ⟨"TGL_CNT", 0xa00040, [], false, 0, .plain,
    [⟨63, 48, .ro, 0, []⟩, ⟨47, 32, .ro, 0, []⟩, ⟨31, 16, .ro, 0, []⟩, ⟨15, 0, .ro, 0, []⟩]⟩,
   ⟨"TGL_ROUTE", 0xa10000, [(8, 64)], false, 0, .plain,
    [⟨17, 16, .ro, 0, []⟩, ⟨15, 15, .ro, 0, []⟩, ⟨14, 14, .ro, 0, []⟩, ⟨12, 8, .ro, 0, []⟩, ⟨7, 7, .ro, 0, []⟩,
     ⟨4, 0, .ro, 0, []⟩]⟩,
   ⟨"TGL_MEMBER", 0xa10200, [(8, 64)], false, 0, .plain,
    [⟨63, 63, .ro, 0, []⟩, ⟨62, 62, .ro, 0, []⟩, ⟨47, 0, .ro, 0, []⟩]⟩,
   ⟨"TGL_PORT_CTL", 0xa20000, [(0x100, 32)], true, 0, .plain,
    [⟨3, 3, .wo, 0, []⟩, ⟨2, 2, .wo, 0, []⟩, ⟨1, 1, .rw, 0, []⟩, ⟨0, 0, .rw, 0, []⟩]⟩,
   ⟨"TGL_PORT_STATUS", 0xa20008, [(0x100, 32)], false, 0, .plain,
    [⟨63, 62, .ro, 3, []⟩, ⟨47, 32, .ro, 0, []⟩, ⟨29, 20, .ro, 0, []⟩, ⟨19, 10, .ro, 0, []⟩, ⟨9, 4, .ro, 0, []⟩]⟩,
   ⟨"TGL_PORT_CNT", 0xa20010, [(0x100, 32)], false, 0, .plain,
    [⟨63, 48, .ro, 0, []⟩, ⟨47, 32, .ro, 0, []⟩, ⟨31, 0, .ro, 0, []⟩]⟩,
   ⟨"TGL_PORT_CNT2", 0xa20018, [(0x100, 32)], false, 0, .plain,
    [⟨63, 32, .ro, 0, []⟩, ⟨31, 0, .ro, 0, []⟩]⟩,
   ⟨"TGL_EVT", 0xa20020, [(0x100, 32)], false, 0, .plain,
    [⟨7, 7, .w1c, 0, []⟩, ⟨6, 6, .w1c, 0, []⟩, ⟨5, 5, .w1c, 0, []⟩, ⟨4, 4, .w1c, 0, []⟩, ⟨3, 3, .w1c, 0, []⟩,
     ⟨2, 2, .w1c, 0, []⟩, ⟨1, 1, .w1c, 0, []⟩, ⟨0, 0, .w1c, 0, []⟩]⟩,
   ⟨"TGL_MC_DEF", 0xa30000, [(0x100, 256)], true, 0, .plain,
    [⟨63, 0, .rw, 0, []⟩]⟩,
   ⟨"TGL_MC_STATE", 0xa30008, [(0x100, 256)], false, 0, .plain,
    [⟨63, 63, .ro, 0, []⟩, ⟨62, 59, .ro, 0, []⟩, ⟨58, 58, .ro, 0, []⟩]⟩,
   ⟨"TGL_MC_TREE_PORT", 0xa30010, [(0x100, 256), (0x10, 8)], false, 0, .plain,
    [⟨63, 63, .ro, 0, []⟩, ⟨4, 0, .ro, 0, []⟩]⟩,
   ⟨"TGL_MC_TREE_MASK", 0xa30018, [(0x100, 256), (0x10, 8)], false, 0, .plain,
    [⟨63, 0, .ro, 0, []⟩]⟩,
   ⟨"TGL_AUD_STATUS", 0xa40000, [(0x80, 32)], false, 0, .plain,
    [⟨6, 0, .ro, 0, []⟩]⟩,
   ⟨"TGL_AUD_CNT", 0xa40008, [(0x80, 32), (8, 15)], false, 0, .plain,
    [⟨15, 0, .ro, 0, []⟩]⟩,
   ⟨"TGL_AUD_LOG", 0xa50000, [(0x800, 32), (0x20, 64), (8, 4)], false, 0, .plain,
    [⟨63, 0, .ro, 0, []⟩]⟩,
   ⟨"TGL_BEAT_CTL", 0xaf0000, [], true, 0, .plain,
    [⟨8, 8, .wo, 0, []⟩, ⟨2, 2, .rw, 1, []⟩, ⟨1, 0, .rw, 0, [(2, 3)]⟩]⟩,
   ⟨"TGL_BEAT_PERIOD", 0xaf0008, [], true, 0, .plain,
    [⟨63, 16, .rw, 0, []⟩, ⟨13, 0, .rw, 0x500, [(0, 39), (10241, 16383)]⟩]⟩,
   ⟨"TGL_BEAT_NOW", 0xaf0010, [], false, 0, .plain,
    [⟨47, 0, .ro, 0, []⟩]⟩,
   ⟨"TGL_BEAT_STATUS", 0xaf0018, [], false, 0, .plain,
    [⟨29, 29, .ro, 0, []⟩, ⟨27, 24, .ro, 0, []⟩, ⟨18, 16, .ro, 0, []⟩, ⟨13, 13, .ro, 0, []⟩,
     ⟨12, 8, .ro, 0, []⟩, ⟨2, 0, .ro, 0, []⟩]⟩,
   ⟨"TGL_BEAT_STRETCH", 0xaf0020, [], true, 0, .plain,
    [⟨11, 8, .ro, 0, []⟩, ⟨7, 4, .ro, 0, []⟩, ⟨3, 0, .rw, 0, []⟩]⟩,
   ⟨"TGL_BEAT_CNT", 0xaf0028, [], false, 0, .plain,
    [⟨63, 48, .ro, 0, []⟩, ⟨47, 32, .ro, 0, []⟩, ⟨31, 16, .ro, 0, []⟩, ⟨15, 0, .ro, 0, []⟩]⟩,
   ⟨"TGL_BEAT_LAT", 0xaf0100, [(8, 32)], false, 0, .plain,
    [⟨24, 24, .ro, 0, []⟩, ⟨23, 0, .ro, 0, []⟩]⟩
  ]

/-- The LNK registers. -/
def lnk : List RegDef :=
  [
   ⟨"LNK_CTL", 0xb00000, [(0x1000, 32)], true, 0, .plain,
    [⟨8, 8, .wo, 0, []⟩, ⟨6, 4, .rw, 7, [(0, 0)]⟩, ⟨3, 3, .rw, 0, []⟩, ⟨2, 2, .wo, 0, []⟩, ⟨0, 0, .rw, 0, []⟩]⟩,
   ⟨"LNK_CFG", 0xb00008, [(0x1000, 32)], true, 0, .plain,
    [⟨31, 16, .rw, 0x3e8, [(0, 99), (60001, 65535)]⟩, ⟨15, 8, .rw, 0x40, [(0, 15), (193, 255)]⟩,
     ⟨7, 0, .rw, 0x10, [(0, 0)]⟩]⟩,
   ⟨"LNK_STATUS", 0xb00010, [(0x1000, 32)], false, 0, .plain,
    [⟨63, 60, .ro, 0, []⟩, ⟨59, 58, .ro, 0, []⟩, ⟨57, 50, .ro, 0, []⟩, ⟨49, 49, .ro, 0, []⟩,
     ⟨48, 45, .ro, 0, []⟩, ⟨31, 0, .ro, 0, []⟩]⟩,
   ⟨"LNK_LANES", 0xb00018, [(0x1000, 32)], false, 0, .plain,
    [⟨23, 16, .ro, 0, []⟩, ⟨15, 8, .ro, 0, []⟩, ⟨7, 0, .ro, 0, []⟩]⟩,
   ⟨"LNK_SAVED", 0xb00020, [(0x1000, 32)], true, 0, .plain,
    [⟨7, 0, .rw, 0xff, []⟩, ⟨15, 8, .rw, 0xff, []⟩, ⟨23, 16, .rw, 0xff, []⟩, ⟨31, 24, .rw, 0xff, []⟩,
     ⟨39, 32, .rw, 0xff, []⟩, ⟨47, 40, .rw, 0xff, []⟩, ⟨55, 48, .rw, 0xff, []⟩, ⟨63, 56, .rw, 0xff, []⟩]⟩,
   ⟨"LNK_TRAINED", 0xb00028, [(0x1000, 32)], false, 0, .plain,
    [⟨7, 0, .ro, 0xff, []⟩, ⟨15, 8, .ro, 0xff, []⟩, ⟨23, 16, .ro, 0xff, []⟩, ⟨31, 24, .ro, 0xff, []⟩,
     ⟨39, 32, .ro, 0xff, []⟩, ⟨47, 40, .ro, 0xff, []⟩, ⟨55, 48, .ro, 0xff, []⟩, ⟨63, 56, .ro, 0xff, []⟩]⟩,
   ⟨"LNK_CNT", 0xb00030, [(0x1000, 32)], false, 0, .plain,
    [⟨63, 48, .ro, 0, []⟩, ⟨47, 32, .ro, 0, []⟩, ⟨31, 16, .ro, 0, []⟩, ⟨15, 0, .ro, 0, []⟩]⟩,
   ⟨"LNK_LANE", 0xb00100, [(0x1000, 32), (8, 8)], false, 0, .plain,
    [⟨63, 48, .ro, 0, []⟩, ⟨47, 32, .ro, 0, []⟩, ⟨31, 24, .ro, 0, []⟩, ⟨15, 8, .ro, 0, []⟩, ⟨3, 0, .ro, 0, []⟩]⟩
  ]

/-- The SBF registers. -/
def sbf : List RegDef :=
  [
   ⟨"SBF_STATUS", 0x1000000, [(0x1000000, 8)], false, 0, .plain,
    [⟨48, 48, .ro, 0, []⟩, ⟨47, 40, .ro, 0, []⟩, ⟨28, 16, .ro, 0, []⟩, ⟨12, 0, .ro, 0, []⟩]⟩,
   ⟨"SBF_PART_CLR", 0x1000008, [(0x1000000, 8)], true, 0, .plain,
    [⟨16, 16, .ro, 0, []⟩, ⟨11, 0, .wo, 0, []⟩]⟩,
   ⟨"SBF_SCRUB_CTL", 0x1000010, [(0x1000000, 8)], true, 0, .plain,
    [⟨63, 32, .ro, 0, []⟩, ⟨16, 16, .rw, 1, []⟩, ⟨10, 0, .rw, 0x3c, [(0, 0), (1441, 2047)]⟩]⟩,
   ⟨"SBF_ERR_CTL", 0x1000018, [(0x1000000, 8)], true, 0, .plain,
    [⟨63, 63, .wo, 0, []⟩, ⟨15, 0, .rw, 0x400, []⟩]⟩,
   ⟨"SBF_ERR_CNT", 0x1000020, [(0x1000000, 8)], false, 0, .plain,
    [⟨63, 48, .ro, 0, []⟩, ⟨47, 32, .ro, 0, []⟩, ⟨31, 0, .ro, 0, []⟩]⟩,
   ⟨"SBF_ERR_REC_ADDR", 0x1000028, [(0x1000000, 8)], false, 0, .plain,
    [⟨63, 63, .ro, 0, []⟩, ⟨62, 62, .w1c, 0, []⟩, ⟨61, 59, .ro, 0, []⟩, ⟨58, 56, .ro, 0, []⟩,
     ⟨53, 41, .ro, 0, []⟩, ⟨40, 3, .ro, 0, []⟩]⟩,
   ⟨"SBF_ERR_REC_INFO", 0x1000030, [(0x1000000, 8)], false, 0, .plain,
    [⟨63, 56, .ro, 0, []⟩, ⟨47, 0, .ro, 0, []⟩]⟩,
   ⟨"SBF_ERR_POP", 0x1000038, [(0x1000000, 8)], false, 0, .plain,
    [⟨0, 0, .wo, 0, []⟩]⟩,
   ⟨"SBF_INJECT", 0x1000040, [(0x1000000, 8)], true, 0, .plain,
    [⟨63, 63, .rw, 0, []⟩, ⟨62, 62, .rw, 0, []⟩, ⟨61, 61, .rw, 0, []⟩, ⟨60, 54, .rw, 0, [(72, 127)]⟩,
     ⟨53, 47, .rw, 0, [(72, 127)]⟩, ⟨40, 3, .rw, 0, []⟩]⟩,
   ⟨"SBF_BANK", 0x1010000, [(0x1000000, 8), (8, 4224)], false, 0, .bank,
    [⟨63, 62, .ro, 0, []⟩, ⟨59, 48, .ro, 0, []⟩, ⟨47, 32, .ro, 0, []⟩, ⟨31, 0, .ro, 0, []⟩]⟩
  ]

/-- The STK registers. -/
def stk : List RegDef :=
  [
   ⟨"STK_STATUS", 0x1100000, [(0x1000000, 8), (0x40000, 3)], false, 0, .plain,
    [⟨63, 62, .ro, 0, []⟩, ⟨55, 48, .ro, 0, []⟩, ⟨46, 46, .ro, 0, []⟩, ⟨45, 40, .ro, 0, []⟩,
     ⟨38, 32, .ro, 0, []⟩, ⟨22, 16, .ro, 0, []⟩]⟩,
   ⟨"STK_PC_MASK", 0x1100008, [(0x1000000, 8), (0x40000, 3)], false, 0, .plain,
    [⟨63, 0, .ro, 0, []⟩]⟩,
   ⟨"STK_CAP", 0x1100010, [(0x1000000, 8), (0x40000, 3)], false, 0, .plain,
    [⟨20, 0, .ro, 0, []⟩]⟩,
   ⟨"STK_SCRUB_CTL", 0x1100018, [(0x1000000, 8), (0x40000, 3)], true, 0, .plain,
    [⟨63, 32, .ro, 0, []⟩, ⟨16, 16, .rw, 1, []⟩, ⟨7, 0, .rw, 0x18, [(0, 0), (169, 255)]⟩]⟩,
   ⟨"STK_ERR_CTL", 0x1100020, [(0x1000000, 8), (0x40000, 3)], true, 0, .plain,
    [⟨63, 63, .wo, 0, []⟩, ⟨15, 0, .rw, 0x400, []⟩]⟩,
   ⟨"STK_ERR_CNT", 0x1100028, [(0x1000000, 8), (0x40000, 3)], false, 0, .plain,
    [⟨63, 48, .ro, 0, []⟩, ⟨47, 32, .ro, 0, []⟩, ⟨31, 0, .ro, 0, []⟩]⟩,
   ⟨"STK_ERR_CNT2", 0x1100030, [(0x1000000, 8), (0x40000, 3)], false, 0, .plain,
    [⟨63, 32, .ro, 0, []⟩, ⟨15, 0, .ro, 0, []⟩]⟩,
   ⟨"STK_ERR_REC_ADDR", 0x1100038, [(0x1000000, 8), (0x40000, 3)], false, 0, .plain,
    [⟨63, 63, .ro, 0, []⟩, ⟨62, 62, .w1c, 0, []⟩, ⟨61, 59, .ro, 0, []⟩, ⟨58, 56, .ro, 0, []⟩,
     ⟨55, 50, .ro, 0, []⟩, ⟨49, 44, .ro, 0, []⟩, ⟨43, 30, .ro, 0, []⟩, ⟨29, 26, .ro, 0, []⟩]⟩,
   ⟨"STK_ERR_REC_INFO", 0x1100040, [(0x1000000, 8), (0x40000, 3)], false, 0, .plain,
    [⟨63, 56, .ro, 0, []⟩, ⟨47, 0, .ro, 0, []⟩]⟩,
   ⟨"STK_ERR_POP", 0x1100048, [(0x1000000, 8), (0x40000, 3)], false, 0, .plain,
    [⟨0, 0, .wo, 0, []⟩]⟩,
   ⟨"STK_INJECT", 0x1100050, [(0x1000000, 8), (0x40000, 3)], true, 0, .plain,
    [⟨63, 63, .rw, 0, []⟩, ⟨62, 62, .rw, 0, []⟩, ⟨61, 61, .rw, 0, []⟩, ⟨60, 54, .rw, 0, [(68, 127)]⟩,
     ⟨53, 47, .rw, 0, [(68, 127)]⟩, ⟨46, 41, .rw, 0, []⟩, ⟨40, 35, .rw, 0, []⟩, ⟨34, 21, .rw, 0, []⟩,
     ⟨20, 17, .rw, 0, [(15, 15)]⟩]⟩,
   ⟨"STK_FILL", 0x1100058, [(0x1000000, 8), (0x40000, 3)], false, 0, .plain,
    [⟨63, 63, .ro, 0, []⟩, ⟨62, 62, .ro, 0, []⟩, ⟨31, 0, .ro, 0, []⟩]⟩,
   ⟨"STK_TRAINED", 0x1100080, [(0x1000000, 8), (0x40000, 3), (8, 8)], false, 0, .plain,
    [⟨63, 0, .ro, 0, []⟩]⟩,
   ⟨"STK_PC", 0x1101000, [(0x1000000, 8), (0x40000, 3), (8, 64)], false, 0, .plain,
    [⟨63, 62, .ro, 0, []⟩, ⟨47, 32, .ro, 0, []⟩, ⟨31, 0, .ro, 0, []⟩]⟩
  ]

/-- The MSC registers. -/
def msc : List RegDef :=
  [
   ⟨"MSC_CTL", 0x1200000, [(0x1000000, 8), (0x10000, 3)], true, 0, .plain,
    [⟨63, 63, .wo, 0, []⟩, ⟨1, 1, .rw, 1, []⟩, ⟨0, 0, .rw, 0, []⟩]⟩,
   ⟨"MSC_STATUS", 0x1200008, [(0x1000000, 8), (0x10000, 3)], false, 0, .plain,
    [⟨63, 63, .ro, 0, []⟩, ⟨62, 62, .ro, 0, []⟩, ⟨61, 61, .ro, 0, []⟩, ⟨60, 60, .ro, 1, []⟩,
     ⟨40, 32, .ro, 0, []⟩, ⟨22, 16, .ro, 0, []⟩, ⟨6, 0, .ro, 0, []⟩]⟩,
   ⟨"MSC_INV_ALL", 0x1200010, [(0x1000000, 8), (0x10000, 3)], true, 0, .plain,
    [⟨0, 0, .wo, 0, []⟩]⟩,
   ⟨"MSC_MB_CTL", 0x1200018, [(0x1000000, 8), (0x10000, 3)], true, 0, .plain,
    [⟨15, 8, .rw, 0x30, [(0, 0), (65, 255)]⟩, ⟨7, 0, .rw, 0x40, [(0, 0)]⟩]⟩,
   ⟨"MSC_PF_CTL", 0x1200020, [(0x1000000, 8), (0x10000, 3)], true, 0, .plain,
    [⟨23, 16, .rw, 0x40, [(0, 0), (225, 255)]⟩, ⟨15, 8, .rw, 0x20, [(129, 255)]⟩, ⟨3, 0, .rw, 8, [(0, 0)]⟩]⟩,
   ⟨"MSC_LFSR", 0x1200028, [(0x1000000, 8), (0x10000, 3)], true, 0, .lfsr,
    [⟨15, 0, .rw, 0, [(0, 0)]⟩]⟩,
   ⟨"MSC_CNT_RD", 0x1200030, [(0x1000000, 8), (0x10000, 3)], false, 0, .plain,
    [⟨63, 32, .ro, 0, []⟩, ⟨31, 0, .ro, 0, []⟩]⟩,
   ⟨"MSC_CNT_MISC", 0x1200038, [(0x1000000, 8), (0x10000, 3)], false, 0, .plain,
    [⟨63, 40, .ro, 0, []⟩, ⟨39, 24, .ro, 0, []⟩, ⟨23, 12, .ro, 0, []⟩, ⟨11, 4, .ro, 0, []⟩, ⟨3, 0, .ro, 0, []⟩]⟩,
   ⟨"MSC_CNT_PF", 0x1200040, [(0x1000000, 8), (0x10000, 3)], false, 0, .plain,
    [⟨63, 40, .ro, 0, []⟩, ⟨39, 16, .ro, 0, []⟩, ⟨15, 0, .ro, 0, []⟩]⟩
  ]

/-- The DMV registers. -/
def dmv : List RegDef :=
  [
   ⟨"DMV_STATUS", 0x1300000, [(0x1000000, 8), (0x2000, 32)], false, 0, .plain,
    [⟨63, 62, .ro, 0, []⟩, ⟨53, 48, .ro, 0, []⟩, ⟨4, 0, .ro, 0, []⟩]⟩,
   ⟨"DMV_CTL", 0x1300008, [(0x1000000, 8), (0x2000, 32)], false, 0, .plain,
    [⟨0, 0, .wo, 0, []⟩]⟩,
   ⟨"DMV_CNT_RD", 0x1300010, [(0x1000000, 8), (0x2000, 32)], false, 0, .plain,
    [⟨63, 0, .ro, 0, []⟩]⟩,
   ⟨"DMV_CNT_WR", 0x1300018, [(0x1000000, 8), (0x2000, 32)], false, 0, .plain,
    [⟨63, 0, .ro, 0, []⟩]⟩,
   ⟨"DMV_CNT_DESC", 0x1300020, [(0x1000000, 8), (0x2000, 32)], false, 0, .plain,
    [⟨63, 32, .ro, 0, []⟩, ⟨31, 0, .ro, 0, []⟩]⟩,
   ⟨"DMV_CNT_STALL", 0x1300028, [(0x1000000, 8), (0x2000, 32)], false, 0, .plain,
    [⟨63, 32, .ro, 0, []⟩, ⟨31, 0, .ro, 0, []⟩]⟩,
   ⟨"DMV_Q_RING", 0x1300100, [(0x1000000, 8), (0x2000, 32), (0x40, 16)], true, 0, .plain,
    [⟨63, 60, .rw, 0, [(1, 3)]⟩, ⟨47, 6, .rw, 0, []⟩]⟩,
   ⟨"DMV_Q_CPL", 0x1300108, [(0x1000000, 8), (0x2000, 32), (0x40, 16)], true, 0, .plain,
    [⟨47, 5, .rw, 0, []⟩]⟩,
   ⟨"DMV_Q_CFG", 0x1300110, [(0x1000000, 8), (0x2000, 32), (0x40, 16)], true, 0, .plain,
    [⟨51, 40, .rw, 0, []⟩, ⟨39, 28, .rw, 0, []⟩, ⟨7, 4, .rw, 0, []⟩, ⟨1, 1, .rw, 1, []⟩, ⟨0, 0, .rw, 0, []⟩]⟩,
   ⟨"DMV_Q_TAIL", 0x1300118, [(0x1000000, 8), (0x2000, 32), (0x40, 16)], false, 0, .plain,
    [⟨31, 0, .rw, 0, []⟩]⟩,
   ⟨"DMV_Q_HEAD", 0x1300120, [(0x1000000, 8), (0x2000, 32), (0x40, 16)], false, 0, .plain,
    [⟨63, 32, .ro, 0, []⟩, ⟨31, 0, .ro, 0, []⟩]⟩,
   ⟨"DMV_Q_CTL", 0x1300128, [(0x1000000, 8), (0x2000, 32), (0x40, 16)], true, 0, .plain,
    [⟨1, 1, .w1s, 0, []⟩, ⟨0, 0, .rw, 0, []⟩]⟩,
   ⟨"DMV_Q_STATUS", 0x1300130, [(0x1000000, 8), (0x2000, 32), (0x40, 16)], false, 0, .runsOn,
    [⟨63, 61, .ro, 0, []⟩, ⟨60, 60, .ro, 0, []⟩, ⟨59, 52, .ro, 0, []⟩, ⟨51, 48, .ro, 0, []⟩, ⟨2, 0, .ro, 0, []⟩]⟩
  ]

/-- The NME registers. -/
def nme : List RegDef :=
  [
   ⟨"NME_STATUS", 0x1400000, [(0x1000000, 8), (0x100000, 2)], false, 0, .plain,
    [⟨63, 61, .ro, 0, []⟩, ⟨60, 60, .ro, 0, []⟩, ⟨54, 48, .ro, 0, []⟩, ⟨42, 40, .ro, 0, []⟩,
     ⟨36, 32, .ro, 0, []⟩, ⟨15, 0, .ro, 0, []⟩]⟩,
   ⟨"NME_CTL", 0x1400008, [(0x1000000, 8), (0x100000, 2)], false, 0, .plain,
    [⟨0, 0, .wo, 0, []⟩]⟩,
   ⟨"NME_RING_CFG", 0x1400010, [(0x1000000, 8), (0x100000, 2)], true, 0, .plain,
    [⟨47, 32, .rw, 0x3e8, [(0, 0), (60001, 65535)]⟩, ⟨6, 0, .ro, 0, []⟩]⟩,
   ⟨"NME_RING_ACT", 0x1400018, [(0x1000000, 8), (0x100000, 2)], true, 0, .plain,
    [⟨63, 63, .ro, 0, []⟩, ⟨62, 62, .wo, 0, []⟩, ⟨54, 48, .rw, 0, [(0, 0), (65, 127)]⟩, ⟨47, 0, .rw, 0, []⟩]⟩,
   ⟨"NME_CNT_RUN", 0x1400020, [(0x1000000, 8), (0x100000, 2)], false, 0, .plain,
    [⟨63, 0, .ro, 0, []⟩]⟩,
   ⟨"NME_CNT_RING", 0x1400028, [(0x1000000, 8), (0x100000, 2)], false, 0, .plain,
    [⟨63, 48, .ro, 0, []⟩, ⟨47, 32, .ro, 0, []⟩, ⟨31, 0, .ro, 0, []⟩]⟩,
   ⟨"NME_CNT_SCR", 0x1400030, [(0x1000000, 8), (0x100000, 2)], false, 0, .plain,
    [⟨63, 32, .ro, 0, []⟩, ⟨31, 0, .ro, 0, []⟩]⟩,
   ⟨"NME_KAT", 0x1400038, [(0x1000000, 8), (0x100000, 2)], false, 0, .plain,
    [⟨63, 32, .ro, 0, []⟩, ⟨31, 31, .ro, 0, []⟩, ⟨30, 30, .ro, 0, []⟩, ⟨6, 0, .ro, 0, []⟩]⟩,
   ⟨"NME_SR_SEED", 0x1400040, [(0x1000000, 8), (0x100000, 2)], true, 0, .seed,
    [⟨31, 0, .rw, 0, [(0, 0)]⟩]⟩,
   ⟨"NME_RING_TBL_E", 0x1400100, [(0x1000000, 8), (0x100000, 2), (8, 8)], true, 0, .plain,
    [⟨7, 0, .rw, 0, []⟩, ⟨15, 8, .rw, 0, []⟩, ⟨23, 16, .rw, 0, []⟩, ⟨31, 24, .rw, 0, []⟩, ⟨39, 32, .rw, 0, []⟩,
     ⟨47, 40, .rw, 0, []⟩, ⟨55, 48, .rw, 0, []⟩, ⟨63, 56, .rw, 0, []⟩]⟩,
   ⟨"NME_RING_TBL_W", 0x1400140, [(0x1000000, 8), (0x100000, 2), (8, 8)], true, 0, .plain,
    [⟨7, 0, .rw, 0, []⟩, ⟨15, 8, .rw, 0, []⟩, ⟨23, 16, .rw, 0, []⟩, ⟨31, 24, .rw, 0, []⟩, ⟨39, 32, .rw, 0, []⟩,
     ⟨47, 40, .rw, 0, []⟩, ⟨55, 48, .rw, 0, []⟩, ⟨63, 56, .rw, 0, []⟩]⟩,
   ⟨"NME_RING_ACTV_E", 0x1400180, [(0x1000000, 8), (0x100000, 2), (8, 8)], false, 0, .plain,
    [⟨7, 0, .ro, 0, []⟩, ⟨15, 8, .ro, 0, []⟩, ⟨23, 16, .ro, 0, []⟩, ⟨31, 24, .ro, 0, []⟩, ⟨39, 32, .ro, 0, []⟩,
     ⟨47, 40, .ro, 0, []⟩, ⟨55, 48, .ro, 0, []⟩, ⟨63, 56, .ro, 0, []⟩]⟩,
   ⟨"NME_RING_ACTV_W", 0x14001c0, [(0x1000000, 8), (0x100000, 2), (8, 8)], false, 0, .plain,
    [⟨7, 0, .ro, 0, []⟩, ⟨15, 8, .ro, 0, []⟩, ⟨23, 16, .ro, 0, []⟩, ⟨31, 24, .ro, 0, []⟩, ⟨39, 32, .ro, 0, []⟩,
     ⟨47, 40, .ro, 0, []⟩, ⟨55, 48, .ro, 0, []⟩, ⟨63, 56, .ro, 0, []⟩]⟩
  ]

/-- The DSP registers. -/
def dsp : List RegDef :=
  [
   ⟨"DSP_STATUS", 0x1600000, [(0x1000000, 8)], false, 0, .plain,
    [⟨44, 40, .ro, 0, []⟩, ⟨37, 32, .ro, 0, []⟩, ⟨5, 0, .ro, 0, []⟩]⟩,
   ⟨"DSP_SPILL", 0x1600008, [(0x1000000, 8)], true, 0, .plain,
    [⟨52, 48, .rw, 0, [(17, 31)]⟩, ⟨40, 25, .rw, 0, []⟩]⟩,
   ⟨"DSP_TOK_POST", 0x1600010, [(0x1000000, 8)], false, 0, .plain,
    [⟨15, 4, .wo, 0, []⟩, ⟨3, 0, .wo, 0, []⟩]⟩,
   ⟨"DSP_TOK_CMD", 0x1600018, [(0x1000000, 8)], false, 0, .plain,
    [⟨63, 62, .wo, 0, [(3, 3)]⟩, ⟨16, 16, .wo, 0, []⟩, ⟨15, 4, .wo, 0, []⟩, ⟨3, 0, .wo, 0, []⟩]⟩,
   ⟨"DSP_TOK_CNT", 0x1600020, [(0x1000000, 8)], false, 0, .plain,
    [⟨63, 48, .ro, 0, []⟩, ⟨47, 32, .ro, 0, []⟩, ⟨31, 0, .ro, 0, []⟩]⟩,
   ⟨"DSP_JR_RING", 0x1601000, [(0x1000000, 8), (0x40, 32)], true, 0, .plain,
    [⟨63, 60, .rw, 0, [(1, 3)]⟩, ⟨47, 7, .rw, 0, []⟩]⟩,
   ⟨"DSP_JR_CPL", 0x1601008, [(0x1000000, 8), (0x40, 32)], true, 0, .plain,
    [⟨47, 5, .rw, 0, []⟩]⟩,
   ⟨"DSP_JR_CFG", 0x1601010, [(0x1000000, 8), (0x40, 32)], true, 0, .plain,
    [⟨51, 40, .rw, 0, []⟩, ⟨39, 28, .rw, 0, []⟩, ⟨7, 4, .rw, 0, []⟩, ⟨1, 1, .rw, 1, []⟩]⟩,
   ⟨"DSP_JR_TAIL", 0x1601018, [(0x1000000, 8), (0x40, 32)], false, 0, .plain,
    [⟨31, 0, .rw, 0, []⟩]⟩,
   ⟨"DSP_JR_HEAD", 0x1601020, [(0x1000000, 8), (0x40, 32)], false, 0, .plain,
    [⟨63, 32, .ro, 0, []⟩, ⟨31, 0, .ro, 0, []⟩]⟩,
   ⟨"DSP_JR_CTL", 0x1601028, [(0x1000000, 8), (0x40, 32)], true, 0, .plain,
    [⟨1, 1, .w1s, 0, []⟩, ⟨0, 0, .rw, 0, []⟩]⟩,
   ⟨"DSP_JR_STATUS", 0x1601030, [(0x1000000, 8), (0x40, 32)], false, 0, .plain,
    [⟨63, 61, .ro, 0, []⟩, ⟨51, 48, .ro, 0, []⟩, ⟨34, 34, .ro, 0, []⟩, ⟨33, 33, .ro, 0, []⟩,
     ⟨32, 32, .ro, 0, []⟩, ⟨11, 0, .ro, 0, []⟩]⟩,
   ⟨"DSP_TOK", 0x1610000, [(0x1000000, 8), (8, 4096)], false, 0, .plain,
    [⟨4, 4, .ro, 0, []⟩, ⟨3, 0, .ro, 0, []⟩]⟩
  ]

/-- The TDI registers. -/
def tdi : List RegDef :=
  [
   ⟨"TDI_SITE_STATUS", 0x1680000, [(0x1000000, 8)], false, 0, .plain,
    [⟨63, 62, .ro, 0, []⟩, ⟨61, 61, .ro, 1, []⟩, ⟨60, 60, .ro, 0, []⟩, ⟨6, 0, .ro, 0, []⟩]⟩,
   ⟨"TDI_CTL", 0x1680008, [(0x1000000, 8)], false, 0, .plain,
    [⟨0, 0, .wo, 0, []⟩]⟩,
   ⟨"TDI_CFG", 0x1680010, [(0x1000000, 8)], true, 0, .plain,
    [⟨15, 0, .rw, 0x3e8, [(0, 0), (60001, 65535)]⟩]⟩,
   ⟨"TDI_PWR_LIMIT", 0x1680018, [(0x1000000, 8)], true, 0, .plain,
    [⟨25, 16, .rw, 0x12c, [(901, 1023)]⟩, ⟨9, 0, .rw, 0x384, [(901, 1023)]⟩]⟩,
   ⟨"TDI_PWR_GRANT", 0x1680020, [(0x1000000, 8)], true, 0, .plain,
    [⟨63, 63, .ro, 0, []⟩, ⟨62, 62, .wo, 0, []⟩, ⟨57, 48, .rw, 0, []⟩, ⟨47, 0, .rw, 0, []⟩]⟩,
   ⟨"TDI_PWR_STATUS", 0x1680028, [(0x1000000, 8)], false, 0, .plain,
    [⟨63, 63, .ro, 0, []⟩, ⟨51, 42, .ro, 0, []⟩, ⟨41, 32, .ro, 0, []⟩, ⟨9, 0, .ro, 0, []⟩]⟩,
   ⟨"TDI_DIODE", 0x1680030, [(0x1000000, 8)], false, 0, .plain,
    [⟨63, 63, .ro, 0, []⟩, ⟨62, 62, .ro, 0, []⟩, ⟨47, 32, .ro, 0, []⟩, ⟨15, 0, .ro, 0, []⟩]⟩,
   ⟨"TDI_CNT", 0x1680038, [(0x1000000, 8)], false, 0, .plain,
    [⟨63, 48, .ro, 0, []⟩, ⟨47, 32, .ro, 0, []⟩, ⟨31, 16, .ro, 0, []⟩]⟩,
   ⟨"TDI_PORT_CFG", 0x1680100, [(0x1000000, 8), (8, 64)], true, 0, .plain,
    [⟨51, 40, .rw, 0, []⟩, ⟨7, 4, .rw, 0, []⟩, ⟨1, 1, .wo, 0, []⟩, ⟨0, 0, .rw, 0, []⟩]⟩,
   ⟨"TDI_PORT_STATUS", 0x1680300, [(0x1000000, 8), (8, 64)], false, 0, .plain,
    [⟨63, 63, .ro, 0, []⟩, ⟨62, 59, .ro, 0, []⟩, ⟨10, 0, .ro, 0, []⟩]⟩
  ]

/-- The HKP registers. -/
def hkp : List RegDef :=
  [
   ⟨"HKP_CH_CFG", 0x1700100, [(0x1000000, 8), (8, 48)], true, 0, .channel,
    [⟨63, 63, .rw, 0, []⟩, ⟨62, 62, .rw, 0, []⟩, ⟨61, 59, .ro, 0, []⟩, ⟨58, 48, .rw, 0, []⟩,
     ⟨47, 32, .rw, 0, []⟩, ⟨31, 16, .rw, 0, []⟩]⟩,
   ⟨"HKP_CH_VAL", 0x1700300, [(0x1000000, 8), (8, 48)], false, 0, .plain,
    [⟨63, 63, .ro, 0, []⟩, ⟨62, 62, .ro, 0, []⟩, ⟨61, 61, .ro, 0, []⟩, ⟨15, 0, .ro, 0, []⟩]⟩
  ]

end RegMap

end Sys2Proof
end

