-- ==== Sys2Proof/Machine/Table.lean ====
section
/-!
DEFINITION. Sparse tables: a list of (key, value) pairs in one canonical form, keys strictly rising and no entry
equal to what an unlisted key reads as, so that equal tables are equal data. What an unlisted key reads as is an
argument. Memory is such a table (its cells are Host.Cell pairs).
-/
namespace Sys2Proof

/-- A sparse table from numbers to values. -/
abbrev Tab (α : Type) := List (Nat × α)

variable {α : Type}

/-- The value at key `k`; an unlisted key reads as `d k`. -/
def Tab.get (d : Nat → α) : Tab α → Nat → α
  | [], k => d k
  | (j, v) :: t, k => if j = k then v else Tab.get d t k

/-- The table without an entry at `k`. -/
def Tab.drop : Tab α → Nat → Tab α
  | [], _ => []
  | (j, v) :: t, k => if j = k then Tab.drop t k else (j, v) :: Tab.drop t k

/-- The table with the entry (k, v) put before the first greater key. -/
def Tab.put : Tab α → Nat → α → Tab α
  | [], k, v => [(k, v)]
  | (j, w) :: t, k, v => if k < j then (k, v) :: (j, w) :: t else (j, w) :: Tab.put t k v

/-- The table with value `v` at key `k`. -/
def Tab.set [DecidableEq α] (d : Nat → α) (t : Tab α) (k : Nat) (v : α) : Tab α :=
  if v = d k then t.drop k else (t.drop k).put k v

/-- The table with every key of `p` at its unlisted value. -/
def Tab.clear (t : Tab α) (p : Nat → Bool) : Tab α := t.filter fun e => !p e.1

/-- Keys above `m`, strictly rising. -/
def Tab.sortedFrom : Nat → Tab α → Bool
  | _, [] => true
  | m, (j, _) :: t => Nat.ble m j && Tab.sortedFrom (j + 1) t

/-- The canonical form. -/
def Tab.wf [DecidableEq α] (d : Nat → α) (t : Tab α) : Bool :=
  Tab.sortedFrom 0 t && t.all fun e => !decide (e.2 = d e.1)

end Sys2Proof
end

