-- ==== Sys2Proof/Machine/Regs.lean ====
section
/-!
DEFINITION. Register space as a map: which register an offset names, the value it takes at reset (R8), and how the
fields of one register are read and changed (R7, R9, R10). The values stand in a sparse table keyed by offset, which
is every register's one home; an unlisted offset holds its reset value.
-/
namespace Sys2Proof

/-- What the fuses fix in one part (R2, R463, R471, R500, R510): silicon revision, fitting (false: site-ready), serial
number, the identity secret from which the germ derives its key, the key hash, the least SVN of a sprout and of a full
image, and the units marked bad, by TYPE, INDEX_A and INDEX_B of R503. Plain data, changed by no command. -/
structure Fuses where
  rev : Byte
  capped : Bool
  serial : BitVec 48
  secret : List Byte
  keyHash : List Byte
  sproutSvn : Nat
  fullSvn : Nat
  bad : List (Nat × Nat × Nat)
  deriving DecidableEq, Repr

namespace Reg

/-- The indices of an offset under a list of (stride, count), outermost first. -/
def indices : List (Nat × Nat) → Nat → Option (List Nat)
  | [], r => if r == 0 then some [] else none
  | (stride, count) :: ds, r =>
    match Nat.ble count (r / stride) with
    | true => none
    | false => (indices ds (r % stride)).map (r / stride :: ·)

/-- The first register of a list whose repetition holds the offset, with the indices. -/
def search : List RegDef → Nat → Option (RegDef × List Nat)
  | [], _ => none
  | d :: ds, off =>
    match Nat.ble d.base off with
    | false => search ds off
    | true =>
      match indices d.dims (off - d.base) with
      | some ix => some (d, ix)
      | none => search ds off

/-- The register map of the block that an offset falls in (R56). -/
def block (off : Nat) : List RegDef :=
  if off < 0x1000000 then
    match off / 0x100000 with
    | 0 => RegMap.top | 1 => RegMap.eic | 2 => RegMap.mbx | 3 => RegMap.jrn
    | 4 => RegMap.snp | 5 => RegMap.wear | 6 => RegMap.pwr | 7 => RegMap.thm
    | 8 => RegMap.rgl | 9 => RegMap.adt | 10 => RegMap.tgl | 11 => RegMap.lnk
    | _ => []
  else
    match off % 0x1000000 / 0x80000 with
    | 0 => RegMap.sbf
    | 1 => RegMap.sbf
    | 2 => RegMap.stk
    | 3 => RegMap.stk
    | 4 => RegMap.msc
    | 5 => RegMap.msc
    | 6 => RegMap.dmv
    | 7 => RegMap.dmv
    | 8 | 9 | 10 | 11 => RegMap.nme
    | 12 => RegMap.dsp
    | 13 => RegMap.tdi
    | 14 => RegMap.hkp
    | _ => []

/-- The register at an 8-byte aligned offset in register space, with its indices; none at a reserved address (R9). -/
def lookup (off : Nat) : Option (RegDef × List Nat) := search (block off) off

/-- The bits of a field, in place. -/
def fieldMask (hi lo : Nat) : Word := BitVec.ofNat 64 (2 ^ (hi + 1) - 2 ^ lo)

/-- A field's value placed at its bits. -/
def place (hi lo v : Nat) : Word := BitVec.ofNat 64 (v % 2 ^ (hi - lo + 1) * 2 ^ lo)

/-- The value of bits [hi:lo] of a word. -/
def bits (w : Word) (hi lo : Nat) : Nat := w.toNat / 2 ^ lo % 2 ^ (hi - lo + 1)

/-- The word with bits [hi:lo] taking a value. -/
def withBits (w : Word) (hi lo v : Nat) : Word := (w &&& ~~~ fieldMask hi lo) ||| place hi lo v

/-- Sources that are level-type (R432). -/
def levelSource (src : Nat) : Bool :=
  (736 ≤ src && src ≤ 743) || (611 ≤ src && src ≤ 735 && (src - 611) % 4 == 0)

/-- KIND, LIMIT_EN, THR and SHUT of channel j of die d (R526), in that order; temperatures in °C. -/
def channelRow (d j : Nat) : Nat × Nat × Nat × Nat :=
  if j ≤ 1 then (1, 0, 0, 0)
  else if j ≤ 4 then (1, 1, 95, 110)
  else if j ≤ 7 then (3, 1, 95, 105)
  else if j ≤ 19 then (if j % 2 = 0 then 4 else 5, 0, 0, 0)
  else if j ≤ 35 then (5, 0, 0, 0)
  else if j ≤ 39 then (6, 1, 115, 125)
  else if j = 40 then (4, 0, 0, 0)
  else if j = 41 then (5, 0, 0, 0)
  else if j ≤ 43 then (0, 0, 0, 0)
  else
    match 4 * d + (j - 44) with
    | 0 | 1 | 2 | 3 => (2, 0, 0, 0)
    | 4 | 6 | 8 | 26 | 28 => (4, 0, 0, 0)
    | 5 | 7 | 27 => (5, 0, 0, 0)
    | 9 => (6, 0, 0, 0)
    | 10 | 11 | 12 | 13 | 14 | 15 | 16 | 17 => (6, 1, 110, 125)
    | 18 | 19 | 20 | 21 | 22 | 23 | 24 | 25 => (5, 0, 0, 0)
    | _ => (0, 0, 0, 0)

/-- The reset value of HKP_CH_CFG[j] of die d (R526, R534). -/
def channelReset (d j : Nat) : Word :=
  let (kind, lim, thr, shut) := channelRow d j
  place 63 63 (if j = 42 ∨ j = 43 then 0 else 1) ||| place 62 62 lim ||| place 61 59 kind |||
    place 58 48 (if kind = 1 then 558 else if kind = 2 then 435 else 0) |||
    place 47 32 (16 * shut) ||| place 31 16 (16 * thr)

/-- The part of a reset value that comes from an index, a fuse or another table. -/
def resetExtra (fu : Fuses) : ResetKind → List Nat → Word
  | .plain, _ => 0
  | .fuseId, _ => place 47 40 fu.rev.toNat ||| place 1 0 (if fu.capped then 1 else 0)
  | .fuseSerial, _ => fu.serial.zeroExtend 64
  | .context, ix => if ix = [0] then 1 else 0
  | .lfsr, [d, j] => BitVec.ofNat 64 (3 * d + j + 1)
  | .seed, [d, k] => BitVec.ofNat 64 (2 * d + k + 1)
  | .runsOn, d :: i :: _ => place 59 52 (32 * d + i)
  | .bank, [_, b] => if 4096 ≤ b then place 63 62 1 else 0
  | .route, [i] => if levelSource (i + 32) then place 63 63 1 else 0
  | .channel, [d, j] => channelReset d j
  | _, _ => 0

/-- The reset value of a register as its map's rows give it. -/
def fieldsReset : List FieldDef → Word
  | [] => 0
  | f :: fs => place f.hi f.lo f.reset ||| fieldsReset fs

/-- The value a register holds after reset (R8). -/
def resetValue (fu : Fuses) (off : Nat) : Word :=
  match lookup off with
  | some (d, ix) => fieldsReset d.fields ||| (match d.kind with | .plain => 0 | k => resetExtra fu k ix)
  | none => 0

/-- Whether a value is one of the reserved ones that R10 refuses. -/
def reservedValue (rsv : List (Nat × Nat)) (v : Nat) : Bool := rsv.any fun r => r.1 ≤ v && v ≤ r.2

/-- A register's stored value after a write of `v`, field by field under the access codes (R7), reserved fields
ignored (R9) and reserved values leaving the field unchanged (R10). WO fields store nothing: what they do is the
effect of the write. -/
def writeFields : List FieldDef → Word → Word → Word
  | [], old, _ => old
  | f :: fs, old, v =>
    let old' := writeFields fs old v
    let n := bits v f.hi f.lo
    match f.acc with
    | .rw => if reservedValue f.rsv n then old' else withBits old' f.hi f.lo n
    | .w1s => old' ||| (v &&& fieldMask f.hi f.lo)
    | .w1c => old' &&& ~~~ (v &&& fieldMask f.hi f.lo)
    | .ro | .wo => old'

end Reg

end Sys2Proof
end

