-- ==== Sys2Proof/Machine/Husk.lean ====
section
/-!
DEFINITION. The husk, the unit of Thegief traffic (R378 to R383): its header fields, its 128-bit header, its CRC-32C,
and the CRC-8 of the ordered sets (R587).
-/
namespace Sys2Proof

/-- A husk by its header fields (R379, R381, R382) and its payload. `len` is the LEN field, which for RD is the
number of bytes to read. Fields that a type does not have are 0. -/
structure Husk where
  typ : Nat
  dest : Nat
  src : Nat
  tag : Nat
  epoch : Nat
  cls : Nat
  len : Nat
  hops : Nat
  rid : Nat
  addr : Nat
  ctx : Nat
  opx : Nat
  status : Nat
  mc : Bool
  freed : Nat × Nat × Nat
  link : Bool
  payload : List Byte
  deriving DecidableEq, Repr

namespace Husk

/-- The husk with every field 0. -/
def zero : Husk :=
  ⟨0, 0, 0, 0, 0, 0, 0, 0, 0, 0, 0, 0, 0, false, (0, 0, 0), false, []⟩

/-- TYPE values of R380. -/
def RD := 1
def WR := 2
def AT := 3
def ATR := 4
def MCW := 5
def BAR := 6
def MBAR := 7
def RSP := 8
def CRD := 9
def CTL := 10
def SNAP := 11

/-- Whether TYPE is one of the requests of R381. -/
def isRequest (t : Nat) : Bool := 1 ≤ t && t ≤ 7

/-- The part of the header that R379 gives, common to every type. -/
def commonBits (h : Husk) : Nat :=
  h.typ % 16 + h.dest % 64 * 2 ^ 4 + h.src % 64 * 2 ^ 10 + h.tag % 4096 * 2 ^ 16 + h.epoch % 16 * 2 ^ 28 +
    h.cls % 16 * 2 ^ 32 + h.len % 32768 * 2 ^ 36 + h.hops % 64 * 2 ^ 51

/-- The 128-bit header H (R379, R381, R382). -/
def header (h : Husk) : BitVec 128 :=
  BitVec.ofNat 128 (commonBits h +
    if isRequest h.typ then
      h.rid % 16384 * 2 ^ 57 + h.addr % 2 ^ 41 * 2 ^ 71 + h.ctx % 4096 * 2 ^ 112 + h.opx % 16 * 2 ^ 124
    else if h.typ = RSP then h.status % 256 * 2 ^ 57 + (if h.mc then 2 ^ 65 else 0)
    else if h.typ = CRD then
      h.freed.1 % 65536 * 2 ^ 64 + h.freed.2.1 % 65536 * 2 ^ 80 + h.freed.2.2 % 65536 * 2 ^ 96
    else if h.typ = CTL then (if h.link then 2 ^ 57 else 0)
    else 0)

/-- The husk that a header and a payload spell. -/
def parse (hdr : BitVec 128) (payload : List Byte) : Husk :=
  let n := hdr.toNat
  let f := fun hi lo => Word.slice n hi lo
  let t := f 3 0
  { typ := t, dest := f 9 4, src := f 15 10, tag := f 27 16, epoch := f 31 28, cls := f 35 32, len := f 50 36,
    hops := f 56 51,
    rid := if isRequest t then f 70 57 else 0, addr := if isRequest t then f 111 71 else 0,
    ctx := if isRequest t then f 123 112 else 0, opx := if isRequest t then f 127 124 else 0,
    status := if t = RSP then f 64 57 else 0, mc := t = RSP && f 65 65 = 1,
    freed := if t = CRD then (f 79 64, f 95 80, f 111 96) else (0, 0, 0),
    link := t = CTL && f 57 57 = 1, payload := payload }

/-- The header bits that a type leaves reserved (R379, R381, R382) are 0: the header is the one its fields spell. -/
def headerCanonical (hdr : BitVec 128) : Bool := (parse hdr []).header == hdr

end Husk

/-- One bit of the reflected CRC-32C register (R378). -/
def crc32Bit (c : BitVec 32) : BitVec 32 := if c.getLsbD 0 then (c >>> 1) ^^^ 0x82F63B78#32 else c >>> 1

/-- One byte into the CRC-32C register. -/
def crc32Byte (c : BitVec 32) (b : Byte) : BitVec 32 :=
  Nat.repeat crc32Bit 8 (c ^^^ b.zeroExtend 32)

/-- The CRC-32C of a run of bytes (R378): polynomial 0x1EDC6F41 reflected, initial value and final XOR all ones. -/
def crc32c (bs : List Byte) : BitVec 32 := ~~~ bs.foldl crc32Byte 0xFFFFFFFF#32

/-- One bit of the CRC-8 register (R587). -/
def crc8Bit (c : Byte) : Byte := if c.getLsbD 7 then (c <<< 1) ^^^ 0x07#8 else c <<< 1

/-- The CRC-8 of R587: polynomial 0x07, initial value 0, bytes most significant bit first, no reflection. -/
def crc8 (bs : List Byte) : Byte := bs.foldl (fun c b => Nat.repeat crc8Bit 8 (c ^^^ b)) 0#8

/-- The CRC of a husk, over its header and payload bytes (R378). -/
def huskCrc (hdr : BitVec 128) (payload : List Byte) : BitVec 32 := crc32c (Word.bytes 16 hdr.toNat ++ payload)

end Sys2Proof
end

