-- ==== Sys2Proof/Machine/State.lean ====
section
/-!
DEFINITION. The state of the D824 as plain data: its registers, its memories, what each unit holds beside its
registers, what it has sent to the outside, and the queue of commands that wait. Every register of spec/ stands in
`regs`, keyed by its offset in register space (Regs.lean); an unlisted offset holds its reset value.
-/
namespace Sys2Proof.Machine

/-- The beat logic (02_beats) beside its registers. -/
structure BeatState where
  /-- Base period in force at the master, in reference cycles (R30). -/
  base : Nat
  /-- A written base period waits for its edge (R30). -/
  periodDue : Bool
  /-- Source in force: 0 reference clock, 1 BEAT_IN (R29). -/
  source : Nat
  /-- An accepted BEAT_IN edge whose beat has not started (R31). -/
  edgeDue : Bool
  /-- Last accepted BEAT_IN interval, in reference cycles (R31). -/
  interval : Option Nat
  /-- Consecutive missed BEAT_IN edges (R31). -/
  inMissed : Nat
  /-- Length P of the beat in progress, in reference cycles (R240). -/
  length : Nat
  /-- PERIOD of the last good set, and whether it carried EXT (R45). -/
  held : Nat
  heldExt : Bool
  /-- Observed base of a member (R35). -/
  observed : Option Nat
  /-- Sets still to carry MASTER_NEW (R33). -/
  newSets : Nat
  /-- A beat has begun since reset (R33). -/
  begun : Bool
  /-- The rejoin exchange must come first (R40). -/
  rejoin : Bool
  /-- Latest stretch level of each member, kept by the master (R34). -/
  levels : Tab Nat
  deriving DecidableEq, Repr

/-- A port's training (13_thegief_lanes) beside its registers. Masks are by physical lane. -/
structure LaneState where
  locked : Nat
  /-- Lanes whose rate is off by more than 20 ppm (R359). -/
  offRate : Nat
  /-- Lanes in EQ_SEARCH and the step in force. -/
  search : Nat
  step : Nat
  /-- Largest eye so far and its step, lane 0 first. -/
  best : List (Nat × Nat)
  /-- Lanes on which another lane's number arrives (R371). -/
  crossed : Nat
  /-- Chosen width code and lowest lane (R371). -/
  width : Nat
  group : Nat
  /-- Consecutive matching TS_B (R370). -/
  matched : Nat
  /-- The last trained settings serve as saved ones (R374). -/
  retrained : Bool
  deriving DecidableEq, Repr

/-- Who waits for the response of a request this module sent. -/
inductive Waiter where
  /-- An interrupt message of a host vector (R442). -/
  | vector (v : Nat)
  /-- Descriptor `number` of queue k: a read (0), a write of n bytes (2·n + 1), or a multicast of n bytes (2·n + 2). -/
  | mover (k number part : Nat)
  /-- Command `id` of request port p of site d. -/
  | site (d p id : Nat)
  /-- Access `id` of engine n: what it was issued for is in the engine's state. -/
  | engine (n id : Nat)
  /-- A page of a snapshot or journal dump (R541, R547). -/
  | dump (journal : Bool)
  /-- The write of a fault record of die d (R80). -/
  | faultRecord (d : Nat)
  /-- The read of a bulk payload (R455). -/
  | bulk (offset : Nat)
  /-- A completion record of a queue or job ring k (R224, R254). -/
  | record (k : Nat)
  /-- A descriptor or job fetch. -/
  | fetch (k : Nat)
  /-- A request of the host adapter, by its port, TAG, EPOCH and CLASS (R404). -/
  | adapter (port tag epoch cls : Nat)
  /-- A request of another module for this bridge's host window: the response goes back under its own tag (R404). -/
  | relay (src tag epoch cls : Nat)
  deriving DecidableEq, Repr

/-- A response, with its status and data, on its way to its waiter. -/
structure Owed where
  waiter : Waiter
  status : Nat
  data : List Byte
  deriving DecidableEq, Repr

/-- A busy tag: the port its husk left by, who waits, and for a multicast tag the targets not yet answered and those
that failed. -/
structure TagUse where
  port : Nat
  waiter : Waiter
  targets : Word
  failed : Word
  status : Nat
  /-- The ports that the copies of a multicast left by, as a mask. -/
  ports : Nat
  deriving DecidableEq, Repr

/-- One tag (R387). -/
structure TagState where
  epoch : Nat
  busy : Option TagUse
  deriving DecidableEq, Repr

/-- What stands in a transmit queue: a husk, or a control message. -/
inductive TxItem where
  | husk (h : Husk)
  | ctl (h : CtlHead) (b : CtlBody)
  deriving DecidableEq, Repr

/-- What a HELLO told of the far end of a port (R397). -/
structure FarEnd where
  serial : Nat
  role : Nat
  bestSerial : Nat
  bestRole : Nat
  elected : Bool
  ready : Bool
  id : Nat
  deriving DecidableEq, Repr

/-- The protocol layer of a port beside its registers. Pip counts are in the order REQ, RSP, CTL, modulo 2^16. -/
structure PortState where
  txq : List TxItem
  /-- Pips sent since the port entered UP, and the far end's counts of its last CRD (R390). -/
  sent : Nat × Nat × Nat
  granted : Nat × Nat × Nat
  /-- Pips this end has freed, and those freed since its last CRD; the first CRD has been sent (R390). -/
  freed : Nat × Nat × Nat
  sinceCrd : Nat
  opened : Bool
  /-- Copies that wait in the fork queue (R396). -/
  fork : List Husk
  /-- Stamp of a PROBE set whose ECHO is awaited (R42). -/
  probe : Option Nat
  far : Option FarEnd
  /-- Barriers that hold at the port until earlier writes are visible (R116). -/
  barriers : List Husk
  /-- The counts of the last CRD sent (R390). -/
  crdSent : Nat × Nat × Nat
  deriving DecidableEq, Repr

/-- Pod membership (14_thegief_protocol_pods) beside its registers. -/
structure PodState where
  /-- Best candidate known: role, serial, and whether it is an elected master (R397). -/
  best : Option (Nat × Nat × Bool)
  /-- SEQ of the next control message. -/
  seq : Nat
  /-- Messages of the last distribution that await an ACK: member, CODE, VERSION (R400). -/
  unacked : List (Nat × Nat × Nat)
  /-- Joiners a sponsor has relayed: serial and port (R401). -/
  sponsored : List (Nat × Nat)
  /-- Links the master knows: module, port, far module (R393). -/
  links : List (Nat × Nat × Nat)
  /-- A larger beat number to take at the next edge, after an absorption (R399). -/
  takeBeat : Option Nat
  /-- The port on which ASSIGN came: control messages to the master leave by it until routes have come. -/
  sponsor : Option Nat
  /-- The module has sent LEAVE and waits for MEMBERS without it (R402). -/
  leaving : Bool
  /-- Received control messages that wait in the CTL pool of their port while SCH restarts (R479). -/
  held : List (Nat × CtlHead × CtlBody)
  deriving DecidableEq, Repr

/-- A host vector beside its registers (R441, R443). -/
structure VectorState where
  /-- Local edges since T0. -/
  edges : Nat
  /-- CEIL has passed since T0. -/
  ceiling : Bool
  /-- DATA of the message in flight. -/
  data : Nat
  /-- The message in flight has ended otherwise than accepted, and waits 100 µs (R443). -/
  failed : Bool
  /-- A repeat is due, held by an address that breaks R442. -/
  due : Bool
  deriving DecidableEq, Repr

/-- The EIC beside its registers: the core that claimed each shared source (R434, R436), the ACTIVE bits of private
sources, which no register shows, and the vectors. -/
structure EicState where
  claimant : Tab Nat
  own : Tab Nat
  vectors : Tab VectorState
  deriving DecidableEq, Repr

/-- A journal entry (R544). -/
structure JournalEntry where
  seq : Nat
  beat : Nat
  off : Nat
  rid : Nat
  module : Nat
  remote : Bool
  i3c : Bool
  old : Word
  new : Word
  ns : Nat
  deriving DecidableEq, Repr

/-- The snapshot store and the dumps (20_snapshots_journal_wear) beside their registers. -/
structure SnapState where
  /-- The register copies: offset and value, ascending (R535). -/
  copies : Tab Word
  beat : Nat
  ns : Nat
  /-- An armed BEAT trigger: AT, and for one armed by a husk its origin and id (R535, R540). -/
  armed : Option (Nat × Option (Nat × Nat))
  /-- A husk whose AT has passed latches at the next edge: origin and id (R540). -/
  late : Option (Nat × Nat)
  /-- SNAP_ID of the last accepted husk of each origin, plus 1 (R540). -/
  seen : Tab Nat
  /-- A release written during a dump (R537). -/
  release : Bool
  /-- The dump in progress: its entries, those it writes, its status so far, and the writes unanswered. -/
  dump : Option (Nat × Nat × Nat × Nat)
  /-- The journal dump in progress: its first SEQ, its status so far, and the writes unanswered. -/
  journalDump : Option (Nat × Nat × Nat)
  deriving DecidableEq, Repr

/-- Wear beside its registers (R548 to R550): the last daily values of each indicator by the offset of its register,
oldest first, and the record that flash keeps: HOURS and those values. -/
structure WearState where
  daily : Tab (List Nat)
  saved : Option (Nat × Tab (List Nat))
  deriving DecidableEq, Repr

/-- The shared buffer beside its registers. `valid` holds the valid bit of each 64-byte block (R127), `syndrome` the
syndrome of each stored 8-byte code word that has one (R126), both by local address; `bankOf` is the spare map (R121)
by 4096·die + logical bank; `records` each die's record FIFO, oldest first, as the words of SBF_ERR_REC_ADDR and
SBF_ERR_REC_INFO (R140); `held` the requests that a partition clear holds (R125). -/
structure BufferState where
  valid : Tab Bool
  syndrome : Tab Nat
  bankOf : Tab Nat
  records : Tab (List (Nat × Nat))
  held : List Instr
  /-- The defect merge has placed the banks of this start (R121): SBF_BANK reports the map. -/
  placed : Bool
  deriving DecidableEq, Repr

/-- An open row of a bank: the row, whether its tag failed (R154), and which check sectors have changed (R156). -/
structure OpenRow where
  row : Nat
  bad : Bool
  dirty30 : Bool
  dirty31 : Bool
  deriving DecidableEq, Repr

/-- The stacks beside their registers. Keys: `syndrome` by 2^34·stack + block, the four outer-code syndromes of a
stored block as one number, symbol by symbol (R152); `tag` by 2^34·stack + row group, the difference of a stored row
tag from the right one (R154); `openRows` and `activations` by 4096·stack + 64·pc + bank; `records` the record FIFOs by
stack (R170); `failures` consecutive parity failures by 64·stack + pc (R167); `cool` consecutive readings at or below
82 °C by stack (R161); `rfm` the advertised refresh-management threshold by stack, 0 for none (R162). -/
structure StackState where
  syndrome : Tab Nat
  tag : Tab Nat
  openRows : Tab (Option OpenRow)
  activations : Tab Nat
  records : Tab (List (Nat × Nat))
  failures : Tab Nat
  cool : Tab Nat
  rfm : Tab Nat
  deriving DecidableEq, Repr

/-- A line of a slice's arrays (R173): its tag and its 128 bytes, and whether a prefetch installed it and no demand
read has used it yet (R191). -/
structure CacheLine where
  tag : Nat
  data : List Byte
  prefetched : Bool
  deriving DecidableEq, Repr

/-- A merging-buffer entry (R181): the stack line it holds, the class of the write that opened it (R342), its bytes
(none where the mask is 0), and whether it is open. -/
structure MergeEntry where
  line : Nat
  cls : Nat
  bytes : List (Option Byte)
  isOpen : Bool
  deriving DecidableEq, Repr

/-- A read that a miss register or the replay queue holds: its number, its requester, its first byte in the line and
its length, and its local address, context, class and hint for a new lookup. -/
structure PendingRead where
  id : Nat
  req : Nat
  addr : Nat
  len : Nat
  ctx : Nat
  cls : Nat
  hint : Nat
  deriving DecidableEq, Repr

/-- A pending miss register (R183, R184): its line, the way it reserves, whether it is a prefetch, whether its read
has been sent, whether its line may be installed, the reads it merges, and the write bytes it records. -/
structure MissRegister where
  line : Nat
  way : Option Nat
  prefetch : Bool
  issued : Bool
  install : Bool
  addr : Nat
  cls : Nat
  reads : List PendingRead
  written : List (Option Byte)
  deriving DecidableEq, Repr

/-- A stream-table entry (R189): the stream, its last line, stride, confirmations, whether it is STEADY, and as
a mask the k that have been issued. -/
structure StreamEntry where
  stream : Nat
  last : Nat
  stride : Int
  confirmations : Nat
  steady : Bool
  issued : Nat
  deriving DecidableEq, Repr

/-- A cache slice beside its registers. `lines` is keyed by 16·set + way; `streams` stands most recently trained
first; `inputs` are the requests held at the slice's input, oldest first (R177, R181, R184); `sweep` is the next set
of an invalidation (R194). -/
structure SliceState where
  lines : Tab (Option CacheLine)
  merging : List MergeEntry
  misses : List MissRegister
  replay : List PendingRead
  inputs : List Instr
  streams : List StreamEntry
  disabling : Bool
  enableAfter : Bool
  sweep : Option Nat
  deriving DecidableEq, Repr

/-- What an admission is made for, and what a fault switches out (R72, R79). Queues and job rings are numbered
together: queue q of mover g is 16·g + q, job ring r of die d is 4,096 + 32·d + r. -/
inductive Faulter where
  /-- Descriptor `number` of a mover's queue. -/
  | queue (k number : Nat)
  /-- Job `number` of a ring, at its release. -/
  | release (k number : Nat)
  /-- An SOPEN of job `number` of a ring, for a generator. -/
  | sopen (k number gen : Nat)
  deriving DecidableEq, Repr

/-- A page entry that a walk has found (R70, R75): its page, its word, and the WR bit of its segment. -/
structure PageFound where
  page : Nat
  entry : Nat
  wr : Bool
  deriving DecidableEq, Repr

/-- An admission (R74): its requester, its context and class, its operands as first page, last page and whether they
are written, the identification of R81 (REQ_TYPE, UNIT, QUEUE, INDEX), the segments and pages read so far, and the
table read that is out: 0 for the segment set, 1 + page for a page entry. `late`: it began before an invalidation of its
context, so that what it reads is no longer cached (R87). -/
structure Admission where
  who : Faulter
  ctx : Nat
  cls : Nat
  ops : List (Nat × Nat × Bool)
  ident : Nat × Nat × Nat × Nat
  segs : Option (List (Nat × Nat × Nat))
  found : List PageFound
  reading : Option Nat
  late : Bool
  deriving DecidableEq, Repr

/-- An outstanding fault (R80, R82): its FAULT_ID, the admission it ended, and its record (R81). -/
structure FaultEntry where
  id : Nat
  work : Admission
  record : List Byte
  deriving DecidableEq, Repr

/-- A queued range invalidation (R84); that of a RETIRE has no sequence number (R90). `waiting`: the units that have
not acknowledged: movers 0 to 255, engines 256 to 271. -/
structure Invalidation where
  ctx : Nat
  all : Bool
  page : Nat
  pages : Nat
  seq : Option Nat
  waiting : List Nat
  running : Bool
  deriving DecidableEq, Repr

/-- A cached page entry (R75). -/
structure PageCached where
  ctx : Nat
  seg : Nat
  page : Nat
  entry : Nat
  deriving DecidableEq, Repr

/-- A translator's cache, most recently used first (R75): segment sets by context, as words 0, 1 and 2 of each
segment, and page entries. -/
structure TranslatorCache where
  sets : List (Nat × List (Nat × Nat × Nat))
  pages : List PageCached
  deriving DecidableEq, Repr

/-- SCH's write of a fault record (R80): not answered yet, answered with a status, or to be repeated. -/
inductive RecordWrite where
  | out
  | answered (status : Nat)
  | repeated
  deriving DecidableEq, Repr

/-- The admission translators beside their registers. `stale` holds the entries that the checkers still use, by
register offset (R65); caches, admissions under way and fault FIFOs are keyed by die; `overflow` are faults that wait
for room in their die's FIFO; `writing` is the die whose record SCH writes. -/
structure AdtState where
  stale : Tab Word
  caches : Tab TranslatorCache
  work : Tab (List Admission)
  fifos : Tab (List FaultEntry)
  faults : List FaultEntry
  overflow : List (Nat × FaultEntry)
  nextId : Nat
  writing : Option (Nat × RecordWrite)
  turn : Nat
  invals : List Invalidation
  deriving DecidableEq, Repr

/-- A completion record that is due (R221, R253): its number, its fields, whether it asks for the host vector, and the
tokens to post once it is visible (die, index, generation). -/
structure RecordDue where
  number : Nat
  status : Nat
  user : Nat
  detail : Nat
  flags : Nat
  bytes : Nat
  unit : Nat
  irq : Bool
  posts : List (Nat × Nat × Nat)
  deriving DecidableEq, Repr

/-- A queue or job ring beside its registers (R203 to R208): the TAIL that the doorbell FIFO has handed on, the item
fetched and not started, whether a fetch is out, the records due in ring order, whether the first is being written,
the TAIL that a quiesce stops at (R454), and whether a reset drains. -/
structure RingState where
  known : Nat
  fetched : Option (List Nat)
  fetching : Bool
  due : List RecordDue
  writing : Bool
  limit : Option Nat
  resetting : Bool
  deriving DecidableEq, Repr

/-- A run of bytes that a descriptor still has to move, by operand addresses (R71). A run of the index list has no
destination. -/
structure Move where
  src : Nat
  dst : Nat
  len : Nat
  deriving DecidableEq, Repr

/-- A descriptor in progress: its number and words; the status so far under R13, FLAGS, DETAIL and the bytes
acknowledged; the mover that runs it, and FLAGS bit 4; whether the index list is still being read, the runs still to
move, the index bytes read (none where a read failed), the read that is out and the writes not yet acknowledged; its
shadow (page, module, frame) and whether it has been admitted; whether it issues no more until it has drained for an
invalidation (R86); whether its ranges overlap (R215); and the multicast targets that failed. -/
structure Transfer where
  number : Nat
  words : List Nat
  status : Nat
  flags : Nat
  detail : Nat
  bytes : Nat
  unit : Nat
  indexing : Bool
  todo : List Move
  index : List (Option Byte)
  reading : Option Move
  writes : Nat
  shadow : List (Nat × Nat × Nat)
  admitted : Bool
  held : Bool
  overlap : Bool
  failed : Nat
  deriving DecidableEq, Repr

/-- The movers and rings: rings and transfers keyed by queue or ring number, and the queue each mover served last. -/
structure MoverState where
  rings : Tab RingState
  transfers : Tab (List Transfer)
  last : Tab Nat
  deriving DecidableEq, Repr

/-- A ring packet (R238): its header word and its payload. -/
structure RingPacket where
  header : Word
  payload : List Byte
  deriving DecidableEq, Repr

/-- An open slot of an outgoing port (R240, R241): its stream, the local time of its start, the bytes that the wire
carries in it, and how far it is used. -/
structure RingSlot where
  stream : Nat
  start : Nat
  size : Nat
  used : Nat
  deriving DecidableEq, Repr

/-- The neighbour ring (R238 to R242) beside its registers. A port is 2·engine for E and 2·engine + 1 for W, a queue
16·port + stream. `wires` are the packets on their way to an incoming port; `received` and `forward` the queues of an
incoming port, a received packet with its place in the order of arrival and the payload not yet taken; `own` the
packets an engine has still to send by an outgoing port. `used` and `freed` count, by 2·queue of the outgoing port
(+ 1 for the neighbour's forward queue), the neighbour's bytes in use and those of them whose credit has not returned.
`errors` are consecutive parity errors by incoming port (R557), `slotNow` the slots of this beat that have begun at an
engine. -/
structure RingNetState where
  wires : Tab (List RingPacket)
  received : Tab (List (Nat × RingPacket))
  forward : Tab (List RingPacket)
  own : Tab (List RingPacket)
  used : Tab Nat
  freed : Tab Nat
  slots : Tab (Option RingSlot)
  errors : Tab Nat
  slotNow : Tab Nat
  arrivals : Nat
  deriving DecidableEq, Repr

/-- An address generator (R308 to R312). `base` is an operand address, or a scratch offset; `admitted`: its shadow
(page, module, frame) stands; `levels` are COUNT and STRIDE of levels 0 to 3; `indirect` is 0 off, 1 ELEM, 2 ROW;
`latched` the row indices of ROW mode. -/
structure Generator where
  bound : Bool
  base : Nat
  extent : Nat
  wr : Bool
  hint : Nat
  scratch : Bool
  admitted : Bool
  shadow : List (Nat × Nat × Nat)
  pattern : Bool
  levels : List (Nat × Int)
  run : Nat
  offset : Nat
  rowStride : Int
  cursor : Nat
  indirect : Nat
  wide : Bool
  index : Nat
  scale : Int
  latched : Tab Nat
  deriving DecidableEq, Repr

/-- An active loop (R301): its first instruction, the one after its body, the iteration, and the count. -/
structure LoopFrame where
  first : Nat
  after : Nat
  iteration : Nat
  count : Nat
  deriving DecidableEq, Repr

/-- An access of an engine that has gone over Thegief: its number, generator, pod address and length, whether it
writes, and its answer as status and bytes. -/
structure EngineAccess where
  id : Nat
  gen : Nat
  addr : Nat
  len : Nat
  write : Bool
  answer : Option (Nat × List Byte)
  deriving DecidableEq, Repr

/-- An engine (R233) beside its registers: the job it is reserved for (ring and number), whether it issues, the image
it holds (PROG and ICHECK) with its instructions, and the program state of R295. Keys: tile bytes by (96·tile + row)·1024
+ byte, row scales by 96·tile + row, accumulator lanes by (96·accumulator + row)·256 + lane. `taken` counts the bytes
that a RECV or RRED in progress has taken, in all and by source; `aim` is the beat that a WAITBEAT waits for; `ringUsed`
tells that the job has sent or received a ring packet; `ended` that END has issued. -/
structure EngineState where
  job : Option (Nat × Nat)
  live : Bool
  image : Option (Nat × Nat)
  code : List Nat
  pc : Nat
  x : Tab Word
  tiles : Tab Byte
  tags : Tab Nat
  scales : Tab Nat
  accs : Tab Nat
  gens : Tab Generator
  scratch : List Host.Cell
  flags : Nat
  rowBase : Nat
  rowCount : Nat
  cycles : Nat
  loops : List LoopFrame
  accesses : List EngineAccess
  nextId : Nat
  taken : Option (Nat × Tab Nat)
  aim : Option Nat
  ringUsed : Bool
  ended : Bool
  deriving DecidableEq, Repr

/-- How a started job stands. -/
inductive JobPhase where
  /-- Its streams are being admitted (R251). -/
  | admitting
  /-- It waits in the scoreboard after a fault at release (R255). -/
  | faulted
  /-- Its fault at release has ended, and it is to be released afresh (R82). -/
  | again
  /-- Its program is to be loaded. -/
  | loading
  | running
  /-- A fault at SOPEN: its engine drains (R255). -/
  | draining
  /-- Its engine is HELD. -/
  | held
  /-- Its state goes to, or stands in, a spill slot. -/
  | spilling (slot : Nat)
  | spilled (slot : Nat)
  /-- Its fault has ended, and it waits for its engine, or is being reloaded (R257). -/
  | waiting (slot : Nat)
  /-- It has ended or stopped (R254). -/
  | finished
  deriving DecidableEq, Repr

/-- A started job: its number and words, its phase, its engine (255 for a JOIN), the status so far under R13, FLAGS,
DETAIL and BYTES, its streams (generator, BASE, EXTENT, WR, HINT) and their shadow, whether its fault at SOPEN has ended,
and the engine state that a spill keeps. -/
structure Job where
  number : Nat
  words : List Nat
  phase : JobPhase
  engine : Nat
  status : Nat
  flags : Nat
  detail : Nat
  bytes : Nat
  streams : List (Nat × Nat × Nat × Bool × Nat)
  shadow : List (Nat × Nat × Nat)
  resumed : Bool
  saved : Option EngineState
  deriving DecidableEq, Repr

/-- The engines, the ring and the dispatchers: the jobs started and not completed by job ring, and the ring each
dispatcher released from last. -/
structure NmeState where
  ring : RingNetState
  engines : Tab EngineState
  jobs : Tab (List Job)
  last : Tab Nat
  deriving DecidableEq, Repr

/-- Regulation (12_regulation) beside its registers, keyed by 16·stack + class: the bytes charged in this feedback
interval, the effective minimums in force at its start (R354), and the credit in 1/256 bytes with the local time it
was last brought up to (R349). `eff` holds the effective minimums of every position, by 64·(16·stack + class) +
position (R346); `sent` the last feedback of each stack: 1 CLEAR, 2 + mask CONGESTED (R352); `levels` the λ of each
source, by 384·source + 16·stack + class (R353). -/
structure RegulationState where
  charged : Tab Nat
  startEff : Tab Nat
  credit : Tab (Int × Nat)
  eff : Tab Nat
  sent : Tab Nat
  levels : Tab Nat
  deriving DecidableEq, Repr

/-- A command of a request port that has not been issued (R414, R415, R419, R420): its word, the flits that have come as
bytes (none where the mask bit is 0), whether a flit had a parity error, and whether a WAITTOK waits for its token. -/
structure SiteCommand where
  word : BitVec 128
  flits : List (List (Option Byte))
  bad : Bool
  waiting : Bool
  deriving DecidableEq, Repr

/-- A request of a port that is out over Thegief: its tag, its OP, whether it is to a register, the answers it still
waits for, and its status and bytes so far (R418). -/
structure SiteRequest where
  tag : Nat
  op : Nat
  toReg : Bool
  left : Nat
  status : Nat
  data : List Byte
  deriving DecidableEq, Repr

/-- A request port (R411): its commands in order of arrival, and its requests over Thegief. -/
structure SitePort where
  queue : List SiteCommand
  out : List SiteRequest
  deriving DecidableEq, Repr

/-- A defect entry (R503). SOURCE is kept as its four bits, FUSE lowest. -/
structure DefectEntry where
  kind : Nat
  source : Nat
  a : Nat
  b : Nat
  beat : Nat
  deriving DecidableEq, Repr

/-- Start-up (18_startup_configuration) beside its registers. -/
structure BootState where
  /-- The sections of the Ezkai image in use, by TYPE (R490). -/
  image : Tab (List Byte)
  /-- The merged defect list of this start and the run-time losses since (R504). -/
  defects : List DefectEntry
  /-- Entries that wait for the flash (R502). -/
  waiting : List DefectEntry
  /-- Entries in the flash's defect-record region. -/
  recorded : Nat
  /-- The defect record as this start found it (R500). -/
  known : List DefectEntry
  /-- Stacks that have completed training at this start, as a mask (R150). -/
  trained : Nat
  /-- Stacks that still train (R497). -/
  training : Nat
  /-- The flash command in progress: OP, address, length, and the RESULT that its start decides (R484). -/
  flash : Option (Nat × Nat × Nat × Nat)
  /-- The flash returned a valid SFDP header at power good (R483). -/
  sfdp : Bool
  /-- Channels whose lanes could not be repaired, by stack, and the stacks that did not complete training (R145, R150). -/
  channels : Tab Nat
  failed : Nat
  /-- Input power has been good for 50 ms (R370). -/
  portsFree : Bool
  deriving DecidableEq, Repr

/-- What the verified header of a firmware image says (R461), with its measurement (R463). -/
structure ImageInfo where
  version : Nat
  svn : Nat
  ifMin : Nat
  ifMax : Nat
  minPrev : Nat
  measure : List Byte
  deriving DecidableEq, Repr

/-- A firmware core (R481): STATE 0 RUNNING, 1 RESTARTING, 2 HELD, 3 IN_RESET; the reason, count and beat of its last
restart; and the local times of its restarts of the last 10 s (R480). -/
structure CoreState where
  state : Nat
  reason : Nat
  restarts : Nat
  beat : Nat
  recent : List Nat
  deriving DecidableEq, Repr

/-- The firmware processors and the mailboxes beside their registers. -/
structure FirmwareState where
  /-- Unified mode (R459). -/
  unified : Bool
  sprout : Option ImageInfo
  running : Option ImageInfo
  staged : Option ImageInfo
  /-- SHA3-512 of the Ezkai image (R465). -/
  ezkai : List Byte
  /-- The session major (R468), and the major of a deferred HELLO. -/
  session : Option Nat
  deferred : Option Nat
  /-- The held attestation report and its NONCE (R472). -/
  report : Option (List Byte × List Byte)
  /-- ACT_STATE and AT (R481); the next stage of an activation in progress (R477). -/
  act : Nat
  actAt : Nat
  actStage : Nat
  /-- The core runs the germ's attestation loop (R480). -/
  loop : Bool
  /-- A restart of PWR or MGT that an emergency holds, by its reason (R521). -/
  heldRestart : Option Nat
  /-- The bulk payload that FW_LOAD reads: reads unanswered, status so far, and the parts by offset (R455). -/
  bulk : Option (Nat × Nat × Tab (List Byte))
  cores : Tab CoreState
  /-- Mailbox memory by 0x4000·mailbox + offset (R458). -/
  mail : Tab Byte
  /-- The quiesce in progress: its mailbox, the records aborted, and whether the response is written (R454). -/
  quiesce : Option (Nat × Nat × Bool)
  deriving DecidableEq, Repr

/-- Power (19_power_thermal) beside its registers. -/
structure PowerState where
  /-- The input switch is closed (R514). -/
  closed : Bool
  /-- A thermal shutdown holds the switch open (R527). -/
  locked : Bool
  /-- The management domain is powered (R515, R522). -/
  on : Bool
  /-- Input loss has come, and the hold-up bank feeds the management domain (R522). -/
  lost : Bool
  /-- The die rails, and the stack rails, are up (R515). -/
  dieRails : Bool
  stackRails : Bool
  /-- An OT condition of a module channel is present, by channel number (R519). -/
  moduleOt : List Nat
  /-- The highest temperature of the round in progress and its channel (R533). -/
  hottest : Option (Int × Nat)
  /-- SITE_W is below the sum of requests (R531). -/
  short : Bool
  /-- PWR_LAST_OFF as flash keeps it (R522). -/
  lastOff : Option Word
  deriving DecidableEq, Repr

/-- The sideband (22_connectors_ratings): REFCLK runs (R577), the straps and BSCAN_EN as power good sampled them, the I3C
dynamic address and the answer of the next private read (R581, R582), and the TAP's instruction (0 BYPASS, 1 IDCODE,
2 SAMPLE/PRELOAD, 3 EXTEST) and boundary chain (R583). -/
structure PinState where
  refclk : Bool
  straps : BitVec 2
  bscan : Bool
  dynamic : Option (BitVec 7)
  reply : Option (Nat × Word)
  tap : Nat
  chain : BitVec 20
  deriving DecidableEq, Repr

/-- Where an answer comes from: a buffer bank or a stack controller by its local address, a cache slice with the
number of the read or write, the register space, a mailbox, the I3C port, the TAP. -/
inductive Place where
  | buffer (addr : Nat)
  | stack (addr : Nat)
  | slice (m id : Nat)
  | register (off : Nat)
  | core (c : Nat)
  | i3c
  | tap
  deriving DecidableEq, Repr

/-- What leaves the D824. -/
inductive Out where
  /-- A completion of an access: a status of R11 and the bytes returned. -/
  | answer (at' : Place) (status : Nat) (data : List Byte)
  /-- A husk on a port, as header, payload and CRC (R378). -/
  | husk (p : Nat) (hdr : BitVec 128) (payload : List Byte) (crc : BitVec 32)
  /-- A control message on a port (R400). -/
  | control (p : Nat) (h : CtlHead) (b : CtlBody)
  /-- Symbols 1 to 7 of a BEAT, PROBE or ECHO set on a port (R36, R42). -/
  | orderedSet (p : Nat) (symbols : List Byte)
  /-- A response word of a request port, with the data flit that goes with it and the flit's parity bits (R411, R417). -/
  | siteWord (d p : Nat) (word : Word) (flit : Option (List Byte × Byte))
  /-- The BEAT_OUT pulse (R43). -/
  | beatOut (number : Nat)
  /-- A refresh or refresh-management command to a bank of a stack (R161, R162). -/
  | refresh (m pc bank : Nat) (management : Bool)
  deriving DecidableEq, Repr

/-- Why the D824 stops. -/
inductive Fault where
  /-- Raised by no command of the model: the D824 has no state in which it stops. Safe. -/
  | none
  deriving DecidableEq, Repr

/-- Why the model refuses a command. -/
inductive Refusal where
  /-- Raised by the dispatcher for a command whose meaning is not written. Safe. -/
  | notModelled (mnemonic : String)
  deriving DecidableEq, Repr

/-- The state of the D824. -/
structure State where
  fuses : Fuses
  /-- Local time since power good, in fabric cycles of 0.8 ns (R5). -/
  now : Nat
  regs : Tab Word
  /-- Bytes of stack memory, by 2^40·stack + byte in the stack's slots (R148). -/
  dram : List Host.Cell
  /-- Bytes of the shared buffer, by local address (R54). -/
  sram : List Host.Cell
  /-- Bytes of the boot flash (R483). -/
  flash : List Host.Cell
  beat : BeatState
  lanes : Tab LaneState
  ports : Tab PortState
  tags : Tab TagState
  /-- Requests that wait for a tag: pool, husk, waiter (R387). -/
  tagWait : List (Nat × Husk × Waiter)
  /-- Requests held by a switch of route, by destination (R103). -/
  routeHeld : Tab (List TxItem)
  pod : PodState
  eic : EicState
  snap : SnapState
  journal : List JournalEntry
  /-- The journal entries below this SEQ are in flash (R546). -/
  flushed : Nat
  /-- The sector of the flash journal area that is being filled, and its entries (R546). -/
  jrnAt : Nat × Nat
  wear : WearState
  movers : MoverState
  nme : NmeState
  rgl : RegulationState
  adt : AdtState
  buffer : BufferState
  stackState : StackState
  slices : Tab SliceState
  boot : BootState
  fw : FirmwareState
  /-- The request ports of the sites, by 64·site + port. -/
  sites : Tab SitePort
  power : PowerState
  pins : PinState
  /-- The model's own: responses that reach their waiters within the step that raised them. -/
  owed : List Owed
  /-- The model's own: how many free values have been drawn. -/
  free : Nat
  /-- What has left the D824, latest first. -/
  out : List Out
  /-- The commands that wait, first in, first out. -/
  pending : List Instr
  deriving DecidableEq, Repr

/-- The fuses of the part that State.reset stands for. -/
def Fuses.reset : Fuses := ⟨0, false, 0, List.replicate 32 0, List.replicate 64 0, 0, 0, []⟩

/-- The module at power good, before the germ's first step: every register at its reset value (R8), memories with
nothing listed, no work, no link, no firmware. -/
def State.reset : State where
  fuses := Fuses.reset
  now := 0
  regs := []
  dram := []
  sram := []
  flash := []
  beat := ⟨1280, false, 0, false, none, 0, 1280, 1280, false, none, 0, false, false, []⟩
  lanes := []
  ports := []
  tags := []
  tagWait := []
  routeHeld := []
  pod := ⟨none, 0, [], [], [], none, none, false, []⟩
  eic := ⟨[], [], []⟩
  snap := ⟨[], 0, 0, none, none, [], false, none, none⟩
  journal := []
  flushed := 0
  jrnAt := (0, 0)
  wear := ⟨[], none⟩
  movers := ⟨[], [], []⟩
  nme := ⟨⟨[], [], [], [], [], [], [], [], [], 0⟩, [], [], []⟩
  rgl := ⟨[], [], [], [], [], []⟩
  adt := ⟨[], [], [], [], [], [], 0, none, 7, []⟩
  buffer := ⟨[], [], [], [], [], false⟩
  stackState := ⟨[], [], [], [], [], [], [], []⟩
  slices := []
  boot := ⟨[], [], [], 0, [], 0, 0, none, true, [], 0, false⟩
  fw := ⟨false, none, none, none, [], none, none, none, 0, 0, 0, false, none, none, [], [], none⟩
  sites := []
  power := ⟨true, false, true, false, false, false, [], none, false, none⟩
  pins := ⟨true, 0, false, none, none, 1, 0⟩
  owed := []
  free := 0
  out := []
  pending := []

end Sys2Proof.Machine
end

