-- ==== Sys2Proof/Machine/Ops.lean ====
section
/-!
DEFINITION. The named operations over the state that every unit shares: reading and changing registers and their
fields, the bytes of the memories, free values, and what leaves the D824.
-/
namespace Sys2Proof

/-- The largest value of a field. -/
def Fld.max (f : Fld) : Nat := 2 ^ (f.hi - f.lo + 1) - 1

/-- A field of a written value. -/
def Fld.of (f : Fld) (v : Word) : Nat := Reg.bits v f.hi f.lo

/-- Whether a written value has a one-bit field at 1. -/
def Fld.isSet (f : Fld) (v : Word) : Bool := f.of v == 1

end Sys2Proof

namespace Sys2Proof.Machine

/-- The value of the register at an offset of register space. -/
def State.reg (s : State) (off : Nat) : Word := Tab.get (Reg.resetValue s.fuses) s.regs off

/-- The state with a register at a value. -/
def State.setReg (s : State) (off : Nat) (w : Word) : State :=
  { s with regs := Tab.set (Reg.resetValue s.fuses) s.regs off w }

/-- The value of a field. -/
def State.fld (s : State) (off : Nat) (f : Fld) : Nat := Reg.bits (s.reg off) f.hi f.lo

/-- Whether a one-bit field reads 1. -/
def State.flag (s : State) (off : Nat) (f : Fld) : Bool := s.fld off f == 1

/-- The state with a field at a value. -/
def State.setFld (s : State) (off : Nat) (f : Fld) (n : Nat) : State :=
  s.setReg off (Reg.withBits (s.reg off) f.hi f.lo n)

/-- A counter raised by `k`, saturating at its field's maximum. -/
def State.bump (s : State) (off : Nat) (f : Fld) (k : Nat := 1) : State :=
  s.setFld off f (min f.max (s.fld off f + k))

/-- The registers at the listed offsets take their reset values. -/
def State.resetRegs (s : State) (p : Nat → Bool) : State := { s with regs := s.regs.clear p }

/-- Something leaves the D824. -/
def State.emit (s : State) (o : Out) : State := { s with out := o :: s.out }

/-- A free byte. -/
def State.freeByte (s : State) : Byte × State := (Config.freeByte s.free, { s with free := s.free + 1 })

/-- A free number below `n`. -/
def State.freeNat (s : State) (n : Nat) : Nat × State := (Config.freeNat s.free % n, { s with free := s.free + 1 })

/-- `n` free bytes. -/
def State.freeBytes (s : State) (n : Nat) : List Byte × State :=
  ((List.range n).map fun i => Config.freeByte (s.free + i), { s with free := s.free + n })

/-- What an unlisted byte of the stacks and of the shared buffer reads as. -/
def ramDefault (_ : Nat) : Byte := 0

/-- What an unlisted byte of the flash reads as: erased. -/
def flashDefault (_ : Nat) : Byte := 0xFF#8

/-- Memory in canonical form. -/
def Memory.wf (d : Nat → Byte) (m : List Host.Cell) : Bool := Tab.wf d m

/-- `n` bytes of a memory from an address. -/
def readCells (d : Nat → Byte) (m : List Host.Cell) (a n : Nat) : List Byte :=
  (List.range n).map fun i => Tab.get d m (a + i)

/-- A memory with bytes from an address on replaced. -/
def writeCells (d : Nat → Byte) (m : List Host.Cell) (a : Nat) : List Byte → List Host.Cell
  | [] => m
  | b :: bs => writeCells d (Tab.set d m a b) (a + 1) bs

/-- A memory with some bytes from an address on replaced; a byte that is none is kept. -/
def patchCells (d : Nat → Byte) (m : List Host.Cell) (a : Nat) : List (Option Byte) → List Host.Cell
  | [] => m
  | none :: bs => patchCells d m (a + 1) bs
  | some b :: bs => patchCells d (Tab.set d m a b) (a + 1) bs

/-- Bytes from an address on, cut into aligned units of `size` bytes: each unit's address and its bytes, none where the
run does not reach or a byte is not given. -/
def splitUnits (size a : Nat) (data : List (Option Byte)) : List (Nat × List (Option Byte)) :=
  let base := a / size * size
  let padded := List.replicate (a - base) none ++ data
  (List.range ((padded.length + size - 1) / size)).filterMap fun i =>
    let u := (padded.drop (size * i)).take size
    if u.all Option.isNone then none else some (base + size * i, u ++ List.replicate (size - u.length) none)

/-- A run of bytes, all given. -/
def allBytes (data : List Byte) : List (Option Byte) := data.map some

/-- Old bytes with the given ones in their place. -/
def mergeBytes (old : List Byte) (new : List (Option Byte)) : List Byte :=
  List.zipWith (fun o n => n.getD o) old new

/-- Whether bit `i` of a number is 1. -/
def bit (n i : Nat) : Bool := n / 2 ^ i % 2 == 1

/-- A number with bit `i` at 1. -/
def setBit (n i : Nat) : Nat := if bit n i then n else n + 2 ^ i

/-- A number with bit `i` at 0. -/
def clearBit (n i : Nat) : Nat := if bit n i then n - 2 ^ i else n

/-- The numbers of the bits at 1 among the lowest `n`. -/
def bitsOf (n v : Nat) : List Nat := (List.range n).filter (bit v)

/-- The numbers below `n`, as bounded numbers. -/
def finList (n : Nat) : List (Fin n) := List.finRange n

/-- The states of R14. -/
def stGERM := 1
def stSPROUT := 2
def stAWAIT_FULL := 3
def stREFUSED := 4
def stTRAINING := 5
def stFILLING := 6
def stLINKS_DEGRADED := 7
def stSELFTEST := 8
def stREADY := 9
def stQUIESCED := 10
def stFAULT := 11

/-- The module state (R14). -/
def State.topState (s : State) : Nat := s.fld R.TOP_STATE F.TOP_STATE_STATE

/-- The status codes of R11. -/
def scDONE := 0
def scDATA_ERROR := 1
def scCONTEXT_REJECT := 2
def scPAGE_FAULT := 3
def scUNIT_LOST := 4
def scTIMEOUT := 5
def scMULTICAST_INCOMPLETE := 6
def scDESCRIPTOR_ERROR := 7
def scLINK_DOWN := 8
def scABORTED := 9

/-- The place of a status in the order of R13; DONE comes last. -/
def statusRank (c : Nat) : Nat :=
  match c with
  | 7 => 0 | 3 => 1 | 2 => 2 | 4 => 3 | 8 => 4 | 5 => 5 | 6 => 6 | 1 => 7 | 9 => 8 | _ => 9

/-- The one status of work to which both apply (R13). -/
def worse (a b : Nat) : Nat := if statusRank a ≤ statusRank b then a else b

/-- Local time in ns since power good (R5). -/
def State.ns (s : State) : Nat := s.now * 4 / 5

/-- The current local beat number. -/
def State.beatNow (s : State) : Nat := s.fld R.TGL_BEAT_NOW F.TGL_BEAT_NOW_NUMBER

end Sys2Proof.Machine
end

