-- ==== Sys2Proof/Machine/Net.lean ====
section
/-!
DEFINITION. Sending over Thegief (14_thegief_protocol_pods): which port leads to a module (R391, R392), the tags of
requests (R387), the transmit queues (R389), and the requests that a switch of route holds (R103).
-/
namespace Sys2Proof.Machine

/-- This module's ID; 0 until one is assigned (R55). -/
def State.ownId (s : State) : Nat := s.fld R.TGL_POD_STATUS F.TGL_POD_STATUS_ID

/-- The states of a port (R370). -/
def lkDISABLED := 0
def lkRESET_HOLD := 1
def lkDETECT := 2
def lkABSENT := 3
def lkALIGN := 4
def lkEQ_FAST := 5
def lkEQ_SEARCH := 6
def lkLANE_CHECK := 7
def lkCONFIG := 8
def lkUP := 9
def lkHELD_DOWN := 10

/-- The training state of a port (R370). -/
def State.linkState (s : State) (p : Nat) : Nat := s.fld (R.LNK_STATUS p) F.LNK_STATUS_STATE

/-- What a port is: 0 pod, 1 host-facing, 2 foreign, 3 down. -/
def State.portKind (s : State) (p : Nat) : Nat := s.fld (R.TGL_PORT_STATUS p) F.TGL_PORT_STATUS_KIND

/-- A port that carries the pod's traffic: in UP and of KIND pod. -/
def State.portCarries (s : State) (p : Nat) : Bool := s.linkState p == lkUP && s.portKind p == 0

/-- The protocol state of a port that has just entered UP. -/
def PortState.fresh : PortState :=
  ⟨[], (0, 0, 0), (0, 0, 0), (0, 0, 0), 0, false, [], none, none, [], (0, 0, 0)⟩

/-- The protocol state of a port. -/
def State.port (s : State) (p : Nat) : PortState := Tab.get (fun _ => PortState.fresh) s.ports p

/-- The state with a port's protocol state replaced. -/
def State.setPort (s : State) (p : Nat) (x : PortState) : State :=
  { s with ports := Tab.set (fun _ => PortState.fresh) s.ports p x }

/-- The tag pools: one for each destination module, the multicast pool, and the pool for the host adapter (R387,
R404). -/
def poolMulticast := 64
def poolHost := 65

/-- Where the tags stand. -/
def tagKey (pool tag : Nat) : Nat := 4096 * pool + tag

/-- A tag after a reset: epoch 0, free. -/
def tagDefault (_ : Nat) : TagState := ⟨0, none⟩

/-- A tag of a pool. -/
def State.tag (s : State) (pool tag : Nat) : TagState := Tab.get tagDefault s.tags (tagKey pool tag)

/-- The state with a tag replaced. -/
def State.setTag (s : State) (pool tag : Nat) (x : TagState) : State :=
  { s with tags := Tab.set tagDefault s.tags (tagKey pool tag) x }

/-- The lowest free tag of a pool from `t` on, among `n`. -/
def State.freeTagFrom (s : State) (pool : Nat) : Nat → Nat → Option Nat
  | 0, _ => none
  | n + 1, t =>
    match (s.tag pool t).busy with
    | none => some t
    | some _ => State.freeTagFrom s pool n (t + 1)

/-- A free tag of a pool (R387). -/
def State.freeTag (s : State) (pool : Nat) : Option Nat := s.freeTagFrom pool 4096 0

/-- The port outside every route: a request that has not left for a port. -/
def noPort := 64

/-- The port in force to a module: the primary while it is UP, else the alternate while it is UP (R392). -/
def State.route (s : State) (m : Nat) : Option Nat :=
  let r := R.TGL_ROUTE m
  let p := s.fld r F.TGL_ROUTE_PRIMARY
  let a := s.fld r F.TGL_ROUTE_ALT
  if s.flag r F.TGL_ROUTE_P_VALID && s.portCarries p then some p
  else if s.flag r F.TGL_ROUTE_A_VALID && s.portCarries a then some a
  else none

/-- What IN_USE reads for the port in force: 0 primary, 1 alternate, 2 none. -/
def State.routeUse (s : State) (m : Nat) : Nat :=
  let r := R.TGL_ROUTE m
  if s.flag r F.TGL_ROUTE_P_VALID && s.portCarries (s.fld r F.TGL_ROUTE_PRIMARY) then 0
  else if s.flag r F.TGL_ROUTE_A_VALID && s.portCarries (s.fld r F.TGL_ROUTE_ALT) then 1
  else 2

/-- Whether requests to a module are held under R103. -/
def State.routeIsHeld (s : State) (m : Nat) : Bool := s.fld (R.TGL_ROUTE m) F.TGL_ROUTE_IN_USE == 3

/-- An item enters a port's transmit queue, behind every item there (R116). -/
def State.enqueue (s : State) (p : Nat) (x : TxItem) : State :=
  s.setPort p { s.port p with txq := (s.port p).txq ++ [x] }

/-- A held request joins those of its destination (R103). -/
def State.holdItem (s : State) (m : Nat) (x : TxItem) : State :=
  { s with routeHeld := Tab.set (fun _ => []) s.routeHeld m (Tab.get (fun _ => []) s.routeHeld m ++ [x]) }

/-- A response is owed to a waiter. -/
def State.owe (s : State) (w : Waiter) (status : Nat) (data : List Byte) : State :=
  { s with owed := s.owed ++ [⟨w, status, data⟩] }

/-- The ports that face the host on the accepted bridge (R404). -/
def State.isHostPort (s : State) (p : Nat) : Bool :=
  s.flag R.TGL_HOST F.TGL_HOST_ACCEPTED && bit (s.fld R.TGL_HOST F.TGL_HOST_PORTS) p

/-- The host-facing port that requests to the adapter leave by: the lowest-numbered one in UP. -/
def State.hostPort (s : State) : Option Nat :=
  (List.range 32).find? fun p => s.isHostPort p && s.linkState p == lkUP

/-- TAGS_OUT of a port counts up or down; a tag without a port is not counted. -/
def State.countTag (s : State) (p : Nat) (up : Bool) : State :=
  if p < 32 then
    let n := s.fld (R.TGL_PORT_STATUS p) F.TGL_PORT_STATUS_TAGS_OUT
    s.setFld (R.TGL_PORT_STATUS p) F.TGL_PORT_STATUS_TAGS_OUT (if up then n + 1 else n - 1)
  else s

/-- TAGS_OUT of every port of a mask counts up or down: the copies of a multicast left by them. -/
def State.countTags (s : State) (ports : Nat) (up : Bool) : State :=
  (bitsOf 32 ports).foldl (fun s p => s.countTag p up) s

/-- A request takes a tag of its pool for a waiter, leaving by a port (R387): the request as it goes out. -/
def State.takeTag (s : State) (pool tag p : Nat) (w : Waiter) (targets : Word) (h : Husk) : Husk × State :=
  let t := s.tag pool tag
  ({ h with tag := tag, epoch := t.epoch, src := s.ownId },
    (s.setTag pool tag { t with busy := some ⟨p, w, targets, 0, 0, 0⟩ }).countTag p true)

/-- A tag becomes free, its epoch kept (R387). -/
def State.freeTagAt (s : State) (pool tag : Nat) : State :=
  let t := s.tag pool tag
  match t.busy with
  | some u => ((s.setTag pool tag { t with busy := none }).countTag u.port false).countTags u.ports false
  | none => s

/-- The pool that a husk's pips come from, in the order REQ, RSP, CTL; none for CRD (R380). -/
def pipPool (typ : Nat) : Option Nat :=
  if Husk.isRequest typ then some 0 else if typ = Husk.RSP then some 1 else if typ = Husk.CRD then none else some 2

/-- The pips that a husk with so many payload bytes takes (R389). -/
def pipsOf (len : Nat) : Nat := (16 + len + 255) / 256

/-- One of three counts. -/
def third (t : Nat × Nat × Nat) (i : Nat) : Nat := if i = 0 then t.1 else if i = 1 then t.2.1 else t.2.2

/-- Three counts with one raised, modulo 2^16. -/
def addThird (t : Nat × Nat × Nat) (i n : Nat) : Nat × Nat × Nat :=
  if i = 0 then ((t.1 + n) % 65536, t.2.1, t.2.2)
  else if i = 1 then (t.1, (t.2.1 + n) % 65536, t.2.2)
  else (t.1, t.2.1, (t.2.2 + n) % 65536)

/-- The far end's free pips of a pool (R390). -/
def PortState.free (x : PortState) (i : Nat) : Nat := (third x.granted i + 65536 - third x.sent i) % 65536

/-- The pips of a pool that a transmit queue needs. -/
def PortState.queued (x : PortState) (i : Nat) : Nat :=
  (x.txq.map fun
    | .husk h => if pipPool h.typ = some i then pipsOf h.payload.length else 0
    | .ctl _ _ => 0).sum

/-- Multicast copies at the head of a port's fork queue join its transmit queue while it has pips for them (R396). -/
def forkDrain : Nat → PortState → PortState
  | 0, x => x
  | n + 1, x =>
    match x.fork with
    | h :: rest =>
      if x.queued 0 + pipsOf h.payload.length ≤ x.free 0 then
        forkDrain n { x with fork := rest, txq := x.txq ++ [.husk h] }
      else x
    | [] => x

/-- The fork queue of a port drains as far as it can. -/
def State.forkPump (s : State) (p : Nat) : State := s.setPort p (forkDrain (s.port p).fork.length (s.port p))

/-- The branches of a group's fork tree at this module: each tree port with the members beyond it (R394). -/
def State.branches (s : State) (g : Nat) : List (Nat × Word) :=
  (List.range 8).filterMap fun k =>
    if s.flag (R.TGL_MC_TREE_PORT g k) F.TGL_MC_TREE_PORT_V then
      some (s.fld (R.TGL_MC_TREE_PORT g k) F.TGL_MC_TREE_PORT_PORT, s.reg (R.TGL_MC_TREE_MASK g k))
    else none

/-- The multicast prefix (R383). -/
def mcPrefix (mask : Word) (g : Nat) : List Byte := Word.bytes 8 mask.toNat ++ [BitVec.ofNat 8 g] ++ List.replicate 7 0#8

/-- MASK and GROUP of a multicast prefix. -/
def mcMask (payload : List Byte) : Word := BitVec.ofNat 64 (Word.ofBytes (payload.take 8))
def mcGroup (payload : List Byte) : Nat := Word.ofBytes ((payload.drop 8).take 1)

/-- The module's own bit in a mask. -/
def State.ownBit (s : State) : Word := BitVec.ofNat 64 (2 ^ s.ownId)

/-- The response of a multicast to its waiter: the mask of failed targets and the causes, as FLAGS bits (R226). -/
def mcAnswer (failed : Word) (flags : Nat) : List Byte := Word.bytes 8 failed.toNat ++ [BitVec.ofNat 8 flags]

/-- A multicast of this module goes out (R395): one tag, a copy on each branch that its mask meets, and targets without
a branch that works failed at once (R226). The module's own copy is not part of it. -/
def State.placeMulticast (s : State) (h : Husk) (w : Waiter) : State :=
  let mask := mcMask h.payload &&& ~~~ s.ownBit
  let live := (s.branches (mcGroup h.payload)).filter fun b => (mask &&& b.2) != 0 && s.portCarries b.1
  let reached := live.foldl (fun (m : Word) b => m ||| (mask &&& b.2)) 0
  let missing := mask &&& ~~~ reached
  if reached = 0 then s.owe w (if missing = 0 then scDONE else scMULTICAST_INCOMPLETE) (mcAnswer missing 8)
  else
    match s.freeTag poolMulticast with
    | none => { s with tagWait := s.tagWait ++ [(poolMulticast, h, w)] }
    | some t =>
      let tag := s.tag poolMulticast t
      let h := { h with tag := t, epoch := tag.epoch, src := s.ownId, dest := 0 }
      let ports := live.foldl (fun n b => setBit n b.1) 0
      let s := (s.setTag poolMulticast t { tag with
        busy := some ⟨noPort, w, reached, missing, if missing = 0 then 0 else 8, ports⟩ }).countTags ports true
      live.foldl (fun s b =>
        let copy := { h with payload := mcPrefix (mask &&& b.2) (mcGroup h.payload) ++ h.payload.drop 16 }
        (s.setPort b.1 { s.port b.1 with fork := (s.port b.1).fork ++ [copy] }).forkPump b.1) s

/-- Some targets of a multicast tag are answered or given up (R226, R387): `lost` tells whether they failed, `flags` the
FLAGS bits of the cause. When none is left the tag is free and its waiter has its answer. -/
def State.mcResolve (s : State) (tag : Nat) (mask : Word) (lost : Bool) (flags : Nat) : State :=
  let t := s.tag poolMulticast tag
  match t.busy with
  | none => s
  | some u =>
    let hit := u.targets &&& mask
    let u := { u with
      targets := u.targets &&& ~~~ mask, failed := if lost then u.failed ||| hit else u.failed,
      status := if hit = 0 then u.status else u.status ||| flags }
    if u.targets = 0 then
      (s.freeTagAt poolMulticast tag).owe u.waiter (if u.failed = 0 then scDONE else scMULTICAST_INCOMPLETE)
        (mcAnswer u.failed u.status)
    else s.setTag poolMulticast tag { t with busy := some u }

/-- A request goes to the port of its route, or joins those that R103 holds, or ends with LINK_DOWN (R392). -/
def State.placeRequest (s : State) (pool : Nat) (h : Husk) (w : Waiter) : State :=
  if pool = poolMulticast then s.placeMulticast h w
  else if pool = poolHost then
    match s.hostPort, s.freeTag pool with
    | none, _ => s.owe w scLINK_DOWN []
    | some _, none => { s with tagWait := s.tagWait ++ [(pool, h, w)] }
    | some p, some t =>
      let (h, s) := s.takeTag pool t p w 0 h
      s.enqueue p (.husk { h with dest := 0 })
  else
    match s.route h.dest, s.freeTag pool with
    | none, _ => s.owe w scLINK_DOWN []
    | some _, none => { s with tagWait := s.tagWait ++ [(pool, h, w)] }
    | some p, some t =>
      if s.routeIsHeld h.dest then
        let (h, s) := s.takeTag pool t noPort w 0 h
        s.holdItem h.dest (.husk h)
      else
        let (h, s) := s.takeTag pool t p w 0 h
        s.enqueue p (.husk h)

/-- Start of the host window and of register space (R54). -/
def hostBase := 0x1F000000000
def regBase := 0x1E000000000
def bufferBase := 0x1C000000000

/-- A request of this module to a module's local address goes out over Thegief: to the adapter when it names this
bridge's own host window, else by the route (R55, R404). -/
def State.sendRequest (s : State) (h : Husk) (w : Waiter) : State :=
  s.placeRequest (if h.dest = s.ownId then poolHost else h.dest) h w

/-- Whether a write of a waiter keeps FENCE.W waiting (R105): it has not been handed to a link port, or it lies in this
bridge's own host window, where only the adapter's acceptance makes it visible (R97). -/
def State.fenceWaits (s : State) (mine : Waiter → Bool) : Bool :=
  (s.tagWait.any fun e => mine e.2.2) ||
    s.tags.any fun e =>
      (match e.2.busy with
        | some u =>
          ((u.port == noPort && e.1 / 4096 != poolMulticast) || e.1 / 4096 == poolHost) && mine u.waiter
        | none => false)

/-- Requests of a pool that waited for a tag take one while there is one (R387). -/
def State.serveTagWait (s : State) (pool : Nat) : State :=
  match s.tagWait.find? (fun e => e.1 == pool), s.freeTag pool with
  | some e, some _ => State.placeRequest { s with tagWait := s.tagWait.erase e } pool e.2.1 e.2.2
  | _, _ => s

/-- A husk that this module sends on without a tag of its own: a response, or a request it forwards (R391). -/
def State.forwardHusk (s : State) (h : Husk) : State :=
  match s.route h.dest with
  | none => s
  | some p =>
    if Husk.isRequest h.typ && s.routeIsHeld h.dest then s.holdItem h.dest (.husk h) else s.enqueue p (.husk h)

/-- The least SEQ-bearing control message: it takes the next SEQ (R400). -/
def State.sendCtl (s : State) (p dest : Nat) (link : Bool) (b : CtlBody) : State :=
  let h : CtlHead := ⟨BitVec.ofNat 6 dest, BitVec.ofNat 6 s.ownId, BitVec.ofNat 32 s.pod.seq, 0, link⟩
  { s with pod := { s.pod with seq := (s.pod.seq + 1) % 2 ^ 32 } }.enqueue p (.ctl h b)

/-- A control message to a module, by its route; none leaves where there is no route. -/
def State.sendCtlTo (s : State) (m : Nat) (b : CtlBody) : State :=
  match s.route m with
  | some p => s.sendCtl p m false b
  | none => s

/-- The ports that carry the pod's traffic, lowest first. -/
def State.podPorts (s : State) : List Nat := (List.range 32).filter s.portCarries

/-- The module that the membership table marks as host bridge (R404). -/
def State.bridge (s : State) : Option Nat :=
  (List.range 64).find? fun m =>
    s.flag (R.TGL_MEMBER m) F.TGL_MEMBER_VALID && s.flag (R.TGL_MEMBER m) F.TGL_MEMBER_HOST_BRIDGE

/-- The class of the firmware's and the package's own traffic. -/
def State.fwClass (s : State) : Nat := s.fld R.RGL_SRC_CLASS F.RGL_SRC_CLASS_FW

end Sys2Proof.Machine
end

