-- ==== Sys2Proof/Machine/Events.lean ====
section
/-!
DEFINITION. Events: the change journal (R543 to R545), the snapshot latch (R535 to R540), the event and interrupt
controller (R430 to R439) and the host vectors (R440 to R443).
-/
namespace Sys2Proof.Machine

/-- A vector that nothing has triggered. -/
def VectorState.idle : VectorState := ⟨0, false, 0, false, false⟩

/-- What a host vector holds beside its registers. -/
def State.vec (s : State) (v : Nat) : VectorState := Tab.get (fun _ => VectorState.idle) s.eic.vectors v

/-- The state with that replaced. -/
def State.setVec (s : State) (v : Nat) (x : VectorState) : State :=
  { s with eic := { s.eic with vectors := Tab.set (fun _ => VectorState.idle) s.eic.vectors v x } }

/-- PENDING of a vector reads 1 while COUNT is above 0 or a message is in flight (R457). -/
def State.hvPending (s : State) (v : Nat) : State :=
  let r := R.EIC_HV_STATUS v
  s.setFld r F.EIC_HV_STATUS_PENDING
    (if 0 < s.fld r F.EIC_HV_STATUS_COUNT ∨ s.flag r F.EIC_HV_STATUS_IN_FLIGHT then 1 else 0)

/-- The pod address of an interrupt message, when it is 4-byte aligned and in the accepted bridge's host window
(R442): the bridge and the address there. -/
def State.hvTarget (s : State) (v : Nat) : Option (Nat × Nat) :=
  let a := 4 * s.fld (R.EIC_HV_ADDR v) F.EIC_HV_ADDR_ADDR
  match s.bridge with
  | some m => if a / 2 ^ 41 = m ∧ hostBase ≤ a % 2 ^ 41 then some (m, a % 2 ^ 41) else none
  | none => none

/-- An interrupt message leaves (R442). -/
def State.hvSend (s : State) (v : Nat) (m a : Nat) : State :=
  s.sendRequest { Husk.zero with
      typ := Husk.WR, dest := m, cls := s.fwClass, len := 4, rid := Config.packageRid.toNat, addr := a, ctx := 0,
      payload := Word.bytes 4 (s.vec v).data } (.vector v)

/-- Whether the conditions of R441 hold for a vector that has triggers, none in flight, and MASK 0. -/
def State.hvReady (s : State) (v : Nat) : Bool :=
  let m := R.EIC_HV_MOD v
  let n := s.fld (R.EIC_HV_STATUS v) F.EIC_HV_STATUS_COUNT
  let h := s.fld m F.EIC_HV_MOD_HOLDOFF
  decide (0 < n) && !s.flag (R.EIC_HV_STATUS v) F.EIC_HV_STATUS_IN_FLIGHT && !s.flag m F.EIC_HV_MOD_MASK &&
    (decide (s.fld m F.EIC_HV_MOD_CNT ≤ n) || (decide (0 < h) && decide (h ≤ (s.vec v).edges)) || (s.vec v).ceiling)

/-- A vector sends its message, or the repeat that is due, if it may (R441, R442, R443). -/
def State.hvTry (s : State) (v : Nat) : State :=
  let r := R.EIC_HV_STATUS v
  if (s.vec v).due then
    match s.hvTarget v with
    | none => s.setFld r F.EIC_HV_STATUS_BAD 1
    | some (m, a) =>
      (((s.setVec v { s.vec v with due := false, failed := false }).setFld r F.EIC_HV_STATUS_BAD 0).bump r
        F.EIC_HV_STATUS_RETRIES |>.bump R.EIC_CNT F.EIC_CNT_HV_RETRIES).hvSend v m a
  else if s.hvReady v then
    match s.hvTarget v with
    | none => s.setFld r F.EIC_HV_STATUS_BAD 1
    | some (m, a) =>
      let s := s.setVec v ⟨0, false, s.fld (R.EIC_HV_DATA v) F.EIC_HV_DATA_DATA, false, false⟩
      ((((s.setFld r F.EIC_HV_STATUS_BAD 0).setFld r F.EIC_HV_STATUS_COUNT 0).setFld r
        F.EIC_HV_STATUS_IN_FLIGHT 1).hvSend v m a).hvPending v
  else s

/-- A host vector is triggered (R440): the first trigger that no message covers sets T0 (R441). -/
def State.hvTrigger (s : State) (v : Nat) : State :=
  let r := R.EIC_HV_STATUS v
  let s := if s.fld r F.EIC_HV_STATUS_COUNT = 0 then s.setVec v { s.vec v with edges := 0, ceiling := false } else s
  ((s.bump r F.EIC_HV_STATUS_COUNT).hvPending v).hvTry v

/-- The message of a vector ends (R442, R443): DONE is acceptance; after anything else it is sent again 100 µs later. -/
def State.hvEnded (s : State) (v status : Nat) : State :=
  if status = scDONE then
    (((s.setVec v { s.vec v with failed := false }).setFld (R.EIC_HV_STATUS v) F.EIC_HV_STATUS_IN_FLIGHT 0).hvPending
      v).hvTry v
  else s.setVec v { s.vec v with failed := true }

/-- The vectors whose EIC_HV_STATUS is not at its reset value. -/
def State.liveVectors (s : State) : List Nat :=
  s.regs.filterMap fun e =>
    if 0x110000 ≤ e.1 ∧ e.1 < 0x130000 ∧ e.1 % 0x20 = 0x18 then some ((e.1 - 0x110000) / 0x20) else none

/-- A local edge passes for every vector that holds triggers or a message (R441). -/
def State.hvEdge (s : State) : State :=
  s.liveVectors.foldl (fun s v =>
    State.hvTry (if 0 < s.fld (R.EIC_HV_STATUS v) F.EIC_HV_STATUS_COUNT then
      s.setVec v { s.vec v with edges := (s.vec v).edges + 1 } else s) v) s

/-- The vectors held by an address that broke R442 are looked at again, after the bridge has changed. -/
def State.hvRecheck (s : State) : State :=
  s.liveVectors.foldl (fun s v => if s.flag (R.EIC_HV_STATUS v) F.EIC_HV_STATUS_BAD then s.hvTry v else s) s

/-- A level-type source (R432). -/
def State.sourceIsLevel (src : Nat) : Bool := Reg.levelSource src

/-- A bit of a shared bitmap of the EIC, by its register of word 0. -/
def State.srcBit (s : State) (base : Nat → Nat) (src : Nat) : Bool := (s.reg (base (src / 64))).getLsbD (src % 64)

/-- The state with that bit at a value. -/
def State.setSrcBit (s : State) (base : Nat → Nat) (src : Nat) (b : Bool) : State :=
  let m : Word := BitVec.ofNat 64 (2 ^ (src % 64))
  let r := base (src / 64)
  s.setReg r (if b then s.reg r ||| m else s.reg r &&& ~~~ m)

/-- The core that a shared source is presented to (R434). -/
def State.targetOf (s : State) (src : Nat) : Nat :=
  if s.fw.unified then 0 else s.fld (R.EIC_ROUTE (src - 32)) F.EIC_ROUTE_TARGET

/-- The lowest source presented to a core (R435): private ones come first by number. -/
def State.presented (s : State) (c : Nat) : Option Nat :=
  let own := if s.fw.unified && decide (c ≠ 0) then 0 else
    (s.reg (R.EIC_C_PEND_SET c) &&& s.reg (R.EIC_C_EN_SET c)).toNat
  let act := Tab.get (fun _ => 0) s.eic.own c
  match (bitsOf 32 own).find? fun i => !bit act i with
  | some i => some i
  | none =>
    (List.range 13).findSome? fun w =>
      let n := (s.reg (R.EIC_PEND_SET w) &&& s.reg (R.EIC_EN_SET w) &&& ~~~ s.reg (R.EIC_ACTIVE w)).toNat
      if n = 0 then none
      else (bitsOf 64 n).findSome? fun i =>
        let src := 64 * w + i
        if 32 ≤ src ∧ src < 832 ∧ s.targetOf src = c then some src else none

/-- PRESENTED of a core follows, and a core to which a source is presented wakes (R438). -/
def State.eicCore (s : State) (c : Nat) : State :=
  match s.presented c with
  | some _ => (s.setFld (R.EIC_C_STATUS c) F.EIC_C_STATUS_PRESENTED 1).setFld (R.EIC_C_STATUS c) F.EIC_C_STATUS_ASLEEP 0
  | none => s.setFld (R.EIC_C_STATUS c) F.EIC_C_STATUS_PRESENTED 0

/-- PRESENTED and the sleep of every core follow a change of the EIC. -/
def State.eicSettle (s : State) : State := (List.range 11).foldl State.eicCore s

/-- PENDING of a shared source is set by a message (R433), and its vector is triggered (R440). -/
def State.eicAssert (s : State) (src : Nat) : State :=
  let s := s.setSrcBit R.EIC_PEND_SET src true
  let s := if State.sourceIsLevel src then s.setSrcBit R.EIC_ASSERTED src true else s
  let r := R.EIC_ROUTE (src - 32)
  (if s.flag r F.EIC_ROUTE_HV_EN then s.hvTrigger (s.fld r F.EIC_ROUTE_HVEC) else s).eicSettle

/-- A SNAP husk of this module, or one it forwards (R539). -/
def snapHusk (src id origin at' hops : Nat) : Husk :=
  { Husk.zero with
    typ := Husk.SNAP, src := src, len := 16, hops := hops,
    payload := Word.bytes 2 id ++ [BitVec.ofNat 8 (origin % 64)] ++ List.replicate 5 0#8 ++ Word.bytes 8 at' }

/-- A SNAP goes out as origin on every pod port in UP (R539). -/
def State.sendSnap (s : State) (id at' : Nat) : State :=
  s.podPorts.foldl (fun s p => s.enqueue p (.husk (snapHusk s.ownId id s.ownId at' 0))) s

/-- Registers without a snapshot copy (R535). -/
def noCopy (off : Nat) : Bool :=
  (0x300000 ≤ off && off < 0x500000) || (0x1000 ≤ off && off < 0x2000) || (0xa50000 ≤ off && off < 0xa60000)

/-- What a claim by a core would return (R435). -/
def State.claimWord (s : State) (c : Nat) : Word :=
  match s.presented c with
  | some src => BitVec.ofNat 64 (2 ^ 63 + src)
  | none => 0

/-- The copies of every register (R535, R536): what a 64-bit read of each would return. -/
def State.copyRegs (s : State) : Tab Word :=
  (List.range 11).foldl (fun (t : Tab Word) c => Tab.set (fun _ => 0) t (R.EIC_C_CLAIM c) (s.claimWord c))
    (s.regs.clear noCopy)

/-- The shared sources that enabled SNP_EVT registers name (R535). -/
def State.snapEvents (s : State) : List Nat :=
  (List.range 8).filterMap fun k =>
    if s.flag (R.SNP_EVT k) F.SNP_EVT_EN then some (s.fld (R.SNP_EVT k) F.SNP_EVT_SRC) else none

/-- The store latches, or the trigger is missed (R537, R538). `husk`: the origin and id of a pod snapshot; none for a
local trigger, which takes this module's ID and NEXT_ID. -/
def State.latchStore (s : State) (trigger : Nat) (husk : Option (Nat × Nat)) (late : Bool) : State :=
  if s.fld R.SNP_STATUS F.SNP_STATUS_STATE = 0 then
    let id := s.fld R.SNP_STATUS F.SNP_STATUS_NEXT_ID
    let o := husk.getD (s.ownId, id)
    let s := { s with snap := { s.snap with copies := s.copyRegs, beat := s.beatNow, ns := s.ns } }
    let s := if husk.isNone then s.setFld R.SNP_STATUS F.SNP_STATUS_NEXT_ID (id + 1) else s
    let s := ((((s.setFld R.SNP_STATUS F.SNP_STATUS_STATE 1).setFld R.SNP_STATUS F.SNP_STATUS_LATE
      (if late then 1 else 0)).setFld R.SNP_STATUS F.SNP_STATUS_TRIGGER trigger).setFld R.SNP_STATUS
      F.SNP_STATUS_ORIGIN o.1).setFld R.SNP_STATUS F.SNP_STATUS_SNAP_ID o.2
    let s := s.bump R.SNP_CNT F.SNP_CNT_TAKEN
    if husk.isNone && decide (trigger ≠ 1) && s.flag R.SNP_CTL F.SNP_CTL_POD_SEND then s.sendSnap o.2 0 else s
  else s.bump R.SNP_CNT F.SNP_CNT_MISSED

/-- The source that a trigger raises: 776 when it latches, 778 when it is missed (R537, R538). -/
def State.latchSource (s : State) : Nat := if s.fld R.SNP_STATUS F.SNP_STATUS_STATE = 0 then 776 else 778

/-- A DEASSERT 0 message of a shared source is performed (R433): an enabled SNP_EVT that names it triggers the
snapshot store first (R535), whose own event may name another. `n` bounds that chain. -/
def State.raiseChain : Nat → State → Nat → State
  | 0, s, src => s.eicAssert src
  | n + 1, s, src =>
    if src ∈ s.snapEvents then
      let follow := s.latchSource
      State.raiseChain n ((s.latchStore 4 none false).eicAssert src) follow
    else s.eicAssert src

/-- A block raises a shared source. -/
def State.raise (s : State) (src : Nat) : State := s.raiseChain 4 src

/-- Several sources are raised, in order. -/
def State.raiseAll (s : State) (srcs : List Nat) : State := srcs.foldl State.raise s

/-- A DEASSERT 1 message of a level-type source (R433). -/
def State.lower (s : State) (src : Nat) : State :=
  let s := s.setSrcBit R.EIC_ASSERTED src false
  (if s.srcBit R.EIC_ACTIVE src then s else s.setSrcBit R.EIC_PEND_SET src false).eicSettle

/-- A snapshot trigger other than an event (R535). -/
def State.latch (s : State) (trigger : Nat) (husk : Option (Nat × Nat)) (late : Bool) : State :=
  let follow := s.latchSource
  (s.latchStore trigger husk late).raise follow

/-- A bit of TGL_EVT is set; the source of its port is raised when the first one is (R406, R432). -/
def State.portEvent (s : State) (p : Nat) (f : Fld) : State :=
  let before := s.reg (R.TGL_EVT p)
  let s := s.setFld (R.TGL_EVT p) f 1
  if before = 0 then s.raise (611 + 4 * p) else s

/-- The most entries that the journal ring holds (R545). -/
def journalSlots := 65536

/-- A journal entry is made (R543 to R546): the ring overwrites its oldest, which is lost if it has not reached the
flash. -/
def State.journalEntry (s : State) (off : Nat) (by' : Origin) (old new : Word) : State :=
  let seq := s.fld R.JRN_STATUS F.JRN_STATUS_NEXT_SEQ
  let e : JournalEntry :=
    ⟨seq, s.beatNow, off, if by'.i3c then 0 else by'.rid.toNat, by'.module.toNat, by'.remote, by'.i3c, old, new, s.ns⟩
  let lost := (s.journal.drop (journalSlots - 1)).any fun x => s.flushed ≤ x.seq
  let s := { s with journal := (e :: s.journal).take journalSlots }
  let s := (s.setFld R.JRN_STATUS F.JRN_STATUS_NEXT_SEQ (seq + 1)).setFld R.JRN_STATUS F.JRN_STATUS_HELD
    s.journal.length
  if lost then (s.bump R.JRN_CNT F.JRN_CNT_LOST).raise 784 else s

end Sys2Proof.Machine
end

