-- ==== Sys2Proof/Machine/Top.lean ====
section
/-!
DEFINITION. The module as a whole: the change of its state (R14, R509), the defect list of this start (R502 to R504),
and the owner check that every memory makes (R61 to R65).
-/
namespace Sys2Proof.Machine

/-- The module enters a state; from AWAIT_FULL on, the host vector of TOP_CTL is triggered at each change (R509). -/
def State.enterTop (s : State) (st : Nat) : State :=
  if s.topState = st then s
  else
    let s := (s.setFld R.TOP_STATE F.TOP_STATE_PREV s.topState).setFld R.TOP_STATE F.TOP_STATE_STATE st
    if 3 ≤ st && s.flag R.TOP_CTL F.TOP_CTL_VEC_EN then s.hvTrigger (s.fld R.TOP_CTL F.TOP_CTL_VECTOR) else s

/-- Causes of FAULT (R510). -/
def fcSPROUT := 1
def fcEZKAI := 2
def fcBRIDGE := 3
def fcSITE := 4
def fcRING := 5
def fcCORE_HELD := 6
def fcTIMEOUT := 7

/-- The states of an activation (R481). -/
def acNONE := 0
def acARMED := 1
def acPENDING := 2
def acACTIVATING := 3

/-- The module enters FAULT with a cause; a cause already there is kept, and an armed or pending activation is cancelled
(R477). -/
def State.enterFault (s : State) (cause : Nat) : State :=
  if s.topState = stFAULT then s
  else
    let s : State := if s.fw.act = acARMED ∨ s.fw.act = acPENDING then { s with fw := { s.fw with act := acNONE } } else s
    (s.setFld R.TOP_STATUS F.TOP_STATUS_FAULT_CAUSE cause).enterTop stFAULT

/-- The types of a defect entry (R503). -/
def dkBANK := 1
def dkPSEUDO_CHANNEL := 2
def dkSTACK := 3
def dkSLICE := 4
def dkDATA_MOVER := 5
def dkROW_UNIT := 6
def dkNME := 7
def dkBRIDGE := 8
def dkRING := 9

/-- The SOURCE bits of a defect entry (R503), the lowest for FUSE. -/
def dsFUSE := 1
def dsTEST := 2
def dsRUNTIME := 4
def dsRETURN := 8

/-- A unit is lost at run time (R502): its entry joins the list, and waits for the flash while the region has room. -/
def State.noteLoss (s : State) (kind a b : Nat) : State :=
  let e : DefectEntry := ⟨kind, dsRUNTIME, a, b, s.beatNow⟩
  let s := { s with boot := { s.boot with defects := s.boot.defects ++ [e] } }
  let s := s.setFld R.TOP_DEFECT F.TOP_DEFECT_ENTRIES s.boot.defects.length
  if s.boot.recorded + s.boot.waiting.length < 4096 then
    { s with boot := { s.boot with waiting := s.boot.waiting ++ [e] } }
  else s.setFld R.TOP_DEFECT F.TOP_DEFECT_REC_FULL 1

/-- The owner entry that the checkers use: the old one until they have applied a write (R65). -/
def State.ownerEntry (s : State) (off : Nat) : Word :=
  match s.adt.stale.find? fun e => e.1 == off with
  | some e => e.2
  | none => s.reg off

/-- Whether an owner entry admits an access by a context (R62, R63). -/
def entryAdmits (e : Word) (ctx : Nat) (write : Bool) : Bool :=
  match F.ADT_OWN_PART_MODE.of e with
  | 1 => ctx == 0 || ctx == F.ADT_OWN_PART_OWNER.of e
  | 2 => ctx == 0 || ctx == F.ADT_OWN_PART_OWNER.of e || !write
  | _ => false

/-- The owner entry of a local address in stack or buffer memory (R61). -/
def ownerReg (a : Nat) : Nat :=
  if a < bufferBase then R.ADT_OWN_FRAME (a / 2 ^ 31) else R.ADT_OWN_PART ((a - bufferBase) / 2 ^ 26)

/-- Whether the check of R62 admits an access. -/
def State.admits (s : State) (a ctx : Nat) (write : Bool) : Bool := entryAdmits (s.ownerEntry (ownerReg a)) ctx write

/-- The states of a firmware core (R481). -/
def csRUNNING := 0
def csRESTARTING := 1
def csHELD := 2
def csIN_RESET := 3

/-- A core before firmware has started it: core 0 runs the germ. -/
def coreDefault (c : Nat) : CoreState := ⟨if c = 0 then csRUNNING else csIN_RESET, 0, 0, 0, []⟩

/-- A firmware core. -/
def State.core (s : State) (c : Nat) : CoreState := Tab.get coreDefault s.fw.cores c

/-- The state with a core replaced. -/
def State.setCore (s : State) (c : Nat) (x : CoreState) : State :=
  { s with fw := { s.fw with cores := Tab.set coreDefault s.fw.cores c x } }

/-- The core that does a core's work: core 0 does all of it in unified mode (R459). -/
def State.coreFor (s : State) (c : Nat) : Nat := if s.fw.unified then 0 else c

/-- The core that serves the pod's control messages: SCH, and core 0 in unified mode or before the full image runs
(R459, R498). -/
def State.ctlCore (s : State) : Nat := if s.fw.unified || s.fw.running.isNone then 0 else 2

/-- SCH, or core 0 in unified mode, is restarting (R478). -/
def State.schRestarts (s : State) : Bool := (s.core (s.coreFor 2)).state == csRESTARTING

end Sys2Proof.Machine
end

