-- ==== Sys2Proof/Machine/Rgl.lean ====
section
/-!
DEFINITION. Bandwidth regulation (12_regulation): charges and credits, the effective minimums and their recomputation,
the time-division frame, and queue feedback.
-/
namespace Sys2Proof.Machine

/-- The key of a stack and a class. -/
def rglKey (m c : Nat) : Nat := 16 * m + c

/-- The effective minimum of a class on a stack in the current position. -/
def State.rglEff (s : State) (m c : Nat) : Nat := s.fld (R.RGL_MIN m c) F.RGL_MIN_EFF

/-- The credit cap of a stack, in 1/256 bytes (R349). -/
def State.rglBurst (s : State) (m : Nat) : Int := 256 * 1024 * s.fld (R.RGL_STK_CFG m) F.RGL_STK_CFG_BURST

/-- A class's credit brought up to now: eff / 1,200 bytes a controller cycle, which is eff · 0.8 / 1,000 bytes a
fabric cycle (R349). -/
def State.rglCredit (s : State) (m c : Nat) : Int :=
  let e := Tab.get (fun _ => ((0 : Int), 0)) s.rgl.credit (rglKey m c)
  if s.flag R.RGL_CTL F.RGL_CTL_EN then
    min (s.rglBurst m) (e.1 + ((s.rglEff m c * (s.now - e.2) * 2048 / 10000 : Nat) : Int))
  else e.1

/-- A request is charged to its class on its stack when the controller issues it (R342, R349). -/
def State.rglCharge (s : State) (m c bytes : Nat) : State :=
  let k := rglKey m c
  let credit := if s.flag R.RGL_CTL F.RGL_CTL_EN && decide (c < 15) then
      Tab.set (fun _ => ((0 : Int), 0)) s.rgl.credit k (max (- s.rglBurst m) (s.rglCredit m c - 256 * bytes), s.now)
    else s.rgl.credit
  let s : State := { s with rgl := { s.rgl with
      credit := credit
      charged := Tab.set (fun _ => 0) s.rgl.charged k (Tab.get (fun _ => 0) s.rgl.charged k + bytes) } }
  s.bump (R.RGL_CNT m c) F.RGL_CNT_BYTES bytes

/-- A recomputation starts, or starts again with a further cause (R347). -/
def State.rglStart (s : State) : State := s.setFld R.RGL_STATUS F.RGL_STATUS_PENDING 1

/-- The frame length in force. -/
def State.rglLen (s : State) : Nat := s.fld R.RGL_TDF_STATUS F.RGL_TDF_STATUS_LEN

/-- avail of a stack (R346). -/
def State.rglAvail (s : State) (m : Nat) : Nat :=
  s.fld (R.STK_CAP m) F.STK_CAP_CAP - s.fld (R.RGL_STK_CFG m) F.RGL_STK_CFG_HPRES

/-- The minimum of a class where it is active, else 0 (R344). -/
def State.rglActive (s : State) (m c k : Nat) : Nat :=
  if (s.reg (R.RGL_TDF_ACTV c)).getLsbD k then s.fld (R.RGL_MIN m c) F.RGL_MIN_MIN else 0

/-- The sum of the active minimums of a stack at a position (R346). -/
def State.rglSum (s : State) (m k : Nat) : Nat := ((List.range 15).map fun c => s.rglActive m c k).sum

/-- A stack whose rows are computed. -/
def State.rglLive (s : State) (m : Nat) : Bool := s.fld (R.STK_STATUS m) F.STK_STATUS_STATE == 0

/-- The effective minimum of R346. -/
def State.rglNew (s : State) (m c k : Nat) : Nat :=
  let sum := s.rglSum m k
  let v := s.rglActive m c k
  if !s.rglLive m then 0 else if sum ≤ s.rglAvail m then v else v * s.rglAvail m / sum

/-- Whether a stack is scaled (R346). -/
def State.rglScaled (s : State) (m : Nat) : Bool :=
  s.rglLive m && (List.range s.rglLen).any fun k => decide (s.rglAvail m < s.rglSum m k)

/-- The effective minimums of a stack, at every position of the frame, as table entries. -/
def State.rglRows (s : State) (m : Nat) : Tab Nat :=
  if (List.range 15).all fun c => s.fld (R.RGL_MIN m c) F.RGL_MIN_MIN == 0 then [] else
  (List.range 15).flatMap fun c =>
    (List.range s.rglLen).filterMap fun k =>
      let v := s.rglNew m c k
      if v = 0 then none else some (64 * rglKey m c + k, v)

/-- EFF of every class shows the current position. -/
def State.rglShow (s : State) : State :=
  let k := s.fld R.RGL_TDF_STATUS F.RGL_TDF_STATUS_POS
  (List.range 24).foldl (fun s m =>
    (List.range 15).foldl (fun s c =>
      let v := Tab.get (fun _ => 0) s.rgl.eff (64 * rglKey m c + k)
      if s.rglEff m c = v then s else s.setFld (R.RGL_MIN m c) F.RGL_MIN_EFF v) s) s

/-- The entries of one stack in the table of effective minimums. -/
def effOf (t : Tab Nat) (m : Nat) : Tab Nat := t.filter fun e => e.1 / 1024 == m

/-- The stacks whose minimums are scaled, as a mask (R346). -/
def State.rglMask (s : State) : Nat := ((List.range 24).filter s.rglScaled).foldl setBit 0

/-- RGL_STK_STATUS shows what a recomputation found (R346). -/
def State.rglStacks (s : State) : State :=
  let now := s.rglMask
  (List.range 24).foldl (fun s m =>
    (s.setFld (R.RGL_STK_STATUS m) F.RGL_STK_STATUS_SCALED (if bit now m then 1 else 0)).setFld (R.RGL_STK_STATUS m)
      F.RGL_STK_STATUS_AVAIL (if s.rglLive m then s.rglAvail m else 0)) s

/-- Sources 92 and 93: a stack is scaled anew, and is scaled no more (R347). -/
def State.rglTell (s : State) (was now : Nat) (changed : List Nat) : State :=
  let s := if (List.range 24).any fun m => bit now m && (!bit was m || changed.contains m) then s.raise 92 else s
  if (List.range 24).any fun m => bit was m && !bit now m then s.raise 93 else s

/-- The new effective minimums take effect (R346, R347): the scaled bits follow, and 92 or 93 are raised. -/
def State.rglDone (s : State) : State :=
  let new := (List.range 24).flatMap fun m => s.rglRows m
  let changed := (List.range 24).filter fun m => effOf new m != effOf s.rgl.eff m
  let was := s.fld R.RGL_STATUS F.RGL_STATUS_SCALED
  let now := s.rglMask
  let s := changed.foldl (fun s m => s.bump (R.RGL_STK_CNT m) F.RGL_STK_CNT_SCALINGS) s.rglStacks
  let s := State.rglShow { s with rgl := { s.rgl with eff := new } }
  (((s.setFld R.RGL_STATUS F.RGL_STATUS_SCALED now).setFld R.RGL_STATUS F.RGL_STATUS_SCALED_ANY
    (if now = 0 then 0 else 1)).setFld R.RGL_STATUS F.RGL_STATUS_PENDING 0).rglTell was now changed

/-- The position follows the local beat number at an edge, and an armed frame table activates (R344, R345). -/
def State.rglEdge (s : State) : State :=
  let s := if s.flag R.RGL_TDF_CTL F.RGL_TDF_CTL_ARMED && decide (s.fld R.RGL_TDF_CTL F.RGL_TDF_CTL_AT ≤ s.beatNow) then
      State.rglStart (((List.range 15).foldl (fun s c => s.setReg (R.RGL_TDF_ACTV c) (s.reg (R.RGL_TDF_MASK c)))
        s).setFld R.RGL_TDF_STATUS F.RGL_TDF_STATUS_LEN (s.fld R.RGL_TDF_CTL F.RGL_TDF_CTL_LEN_NEXT) |>.setFld
        R.RGL_TDF_CTL F.RGL_TDF_CTL_ARMED 0)
    else s
  let pos := s.beatNow % s.rglLen
  if pos = s.fld R.RGL_TDF_STATUS F.RGL_TDF_STATUS_POS then s
  else (s.setFld R.RGL_TDF_STATUS F.RGL_TDF_STATUS_POS pos).rglShow

/-- Numbers for the sources of R353: queues, then engines, then request ports. -/
def sourceOf : Throttled → Nat
  | .queue g q => 16 * g.val + q.val
  | .engine n => 4096 + n.val
  | .port d p => 4112 + 64 * d.val + p.val

/-- λ of a source for a stack and a class (R353). -/
def State.lambda (s : State) (src m c : Nat) : Nat := Tab.get (fun _ => 0) s.rgl.levels (384 * src + rglKey m c)

/-- The state with that level. -/
def State.setLambda (s : State) (src m c n : Nat) : State :=
  { s with rgl := { s.rgl with levels := Tab.set (fun _ => 0) s.rgl.levels (384 * src + rglKey m c) n } }

/-- The classes that exceeded their minimum in the interval that ends (R352, R354). -/
def State.overMinimum (s : State) (m : Nat) : Nat :=
  ((List.range 15).filter fun c =>
    let eff := Tab.get (fun _ => 0) s.rgl.startEff (rglKey m c)
    decide (0 < eff ∧ eff * 2048 < Tab.get (fun _ => 0) s.rgl.charged (rglKey m c) * 10000)).foldl setBit 0

/-- The classes throttled on a stack are counted (R357). -/
def State.countThrottled (s : State) (m : Nat) : State :=
  (List.range 16).foldl (fun s c =>
    if s.rgl.levels.any fun e => e.1 % 384 == rglKey m c then s.bump (R.RGL_CNT m c) F.RGL_CNT_THROTTLED else s) s

/-- What a stack sends as feedback: nothing 0, CLEAR 1, or CONGESTED with its classes 2 + mask (R352, R353). -/
def State.sendFeedback (s : State) (m n : Nat) : State :=
  { s with rgl := { s.rgl with sent := Tab.set (fun _ => 0) s.rgl.sent m n } }

/-- A stack's next interval starts: the minimums in force are noted, and the charges start at 0 (R348). -/
def State.startInterval (s : State) (m : Nat) : State :=
  let start := (List.range 15).foldl (fun t c => Tab.set (fun _ => 0) t (rglKey m c) (s.rglEff m c)) s.rgl.startEff
  { s with rgl := { s.rgl with startEff := start, charged := s.rgl.charged.clear fun k => k / 16 == m } }

/-- High priority above its preserve is counted, and every 256th time raises source 94 (R357). -/
def State.judgeHigh (s : State) (m bytes : Nat) : State :=
  if s.fld (R.RGL_STK_CFG m) F.RGL_STK_CFG_HPRES * 2048 < bytes * 10000 then
    let before := s.fld (R.RGL_STK_CNT m) F.RGL_STK_CNT_HP_OVER
    let s := s.bump (R.RGL_STK_CNT m) F.RGL_STK_CNT_HP_OVER
    let n := s.fld (R.RGL_STK_CNT m) F.RGL_STK_CNT_HP_OVER
    if n ≠ before ∧ n % 256 = 0 then s.raise 94 else s
  else s

/-- A stack's queue depth is judged by HIGH and LOW (R352). -/
def State.judgeDepth (s : State) (m q mask : Nat) : State :=
  let r := R.RGL_STK_STATUS m
  let tells := s.flag R.RGL_CTL F.RGL_CTL_QFB_EN
  if s.fld R.RGL_QFB_CTL F.RGL_QFB_CTL_HIGH ≤ q then
    let s := (s.setFld r F.RGL_STK_STATUS_CONGESTED 1).bump (R.RGL_STK_CNT m) F.RGL_STK_CNT_CONGESTED
    if tells then s.sendFeedback m (2 + mask) else s
  else if q ≤ s.fld R.RGL_QFB_CTL F.RGL_QFB_CTL_LOW then
    let s := s.setFld r F.RGL_STK_STATUS_CONGESTED 0
    if tells then s.sendFeedback m 1 else s
  else s.sendFeedback m 0

/-- A controller judges its queue depth at the end of an interval of 204.8 ns (R348, R352). -/
def State.qfbInterval (s : State) (m q : Nat) : State :=
  let mask := s.overMinimum m
  let hp := Tab.get (fun _ => 0) s.rgl.charged (rglKey m 15)
  ((((s.setFld (R.RGL_STK_STATUS m) F.RGL_STK_STATUS_Q q).countThrottled m).judgeDepth m q mask).startInterval m).judgeHigh m hp

/-- The feedback of a stack reaches a source (R353). -/
def State.qfbReceive (s : State) (src m : Nat) (congested : Bool) : State :=
  let n := Tab.get (fun _ => 0) s.rgl.sent m
  if congested then
    if 2 ≤ n then (bitsOf 15 (n - 2)).foldl (fun s c => s.setLambda src m c (min 7 (s.lambda src m c + 1))) s else s
  else if n = 1 then (List.range 16).foldl (fun s c => s.setLambda src m c (s.lambda src m c - 1)) s
  else s

end Sys2Proof.Machine
end

