-- ==== Sys2Proof/Machine/Sbuf.lean ====
section
/-!
DEFINITION. The shared buffer (05_shared_buffer): placement in banks, the SEC-DED code, valid bits, writes, atomics,
scrub, counting and records.
-/
namespace Sys2Proof.Machine

/-- The die that holds a buffer address (R123). -/
def sbDie (a : Nat) : Nat := (a - bufferBase) / 0x30000000

/-- The logical bank of a buffer address (R123). -/
def sbBank (a : Nat) : Nat :=
  let off := a - bufferBase
  let pp := off % 0x30000000 / 2 ^ 26
  let b := off % 0x4000000 / 64
  let row := b / 4096
  (b % 4096) ^^^ (row * 16) ^^^ (row / 16) ^^^ (pp * 256)

/-- The physical bank that serves a logical bank before the defect merge places another (R121). -/
def bankDefault (k : Nat) : Nat := k % 4096

/-- The physical bank of a buffer address. -/
def State.sbPhys (s : State) (a : Nat) : Nat := Tab.get bankDefault s.buffer.bankOf (4096 * sbDie a + sbBank a)

/-- The bank of a buffer address is fenced (R141). -/
def State.sbFenced (s : State) (a : Nat) : Bool := s.fld (R.SBF_BANK (sbDie a) (s.sbPhys a)) F.SBF_BANK_STATE == 3

/-- The valid bit of the block of an address (R127). -/
def State.sbValid (s : State) (a : Nat) : Bool := Tab.get (fun _ => false) s.buffer.valid (a / 64 * 64)

/-- The state with that bit at a value. -/
def State.setValid (s : State) (a : Nat) (v : Bool) : State :=
  { s with buffer := { s.buffer with valid := Tab.set (fun _ => false) s.buffer.valid (a / 64 * 64) v } }

/-- The positions of R126: the integers from 3 to 71 that are not powers of two, data bit 0 first. -/
def codePositions : List Nat := (List.range 72).filter fun n => !(n ∈ [0, 1, 2, 4, 8, 16, 32, 64])

/-- What inverting a bit of a code word does to its syndrome (R126). -/
def syndromeOf (b : Nat) : Nat :=
  if b < 64 then codePositions.getD b 0 + 128 else if b < 71 then 2 ^ (b - 64) + 128 else 128

/-- The stored syndrome of a code word. -/
def State.sbSyndrome (s : State) (w : Nat) : Nat := Tab.get (fun _ => 0) s.buffer.syndrome w

/-- The state with that syndrome. -/
def State.setSyndrome (s : State) (w n : Nat) : State :=
  { s with buffer := { s.buffer with syndrome := Tab.set (fun _ => 0) s.buffer.syndrome w n } }

/-- A byte with bit i inverted. -/
def flipBit (b : Byte) (i : Nat) : Byte := b ^^^ BitVec.ofNat 8 (2 ^ i)

/-- A stored bit of the code word at an address is inverted. -/
def State.sbFlip (s : State) (w b : Nat) : State :=
  let s := s.setSyndrome w (s.sbSyndrome w ^^^ syndromeOf b)
  if b < 64 then
    { s with sram := Tab.set ramDefault s.sram (w + b / 8) (flipBit (Tab.get ramDefault s.sram (w + b / 8)) (b % 8)) }
  else s

/-- Stored bits are upset before an access. -/
def State.sbUpset (s : State) (hit : Upset) : State :=
  hit.bits.foldl (fun s e =>
    if bufferBase ≤ e.1.toNat ∧ e.1.toNat < 0x1C180000000 then s.sbFlip (e.1.toNat / 8 * 8) e.2.val else s) s

/-- What the decoder of R126 makes of a code word: 0 no error, 1 corrected, 2 uncorrectable, and the data. -/
def State.sbDecode (s : State) (w : Nat) : Nat × List Byte :=
  let n := s.sbSyndrome w
  let raw := readCells ramDefault s.sram w 8
  if n = 0 then (0, raw)
  else if n < 128 then (2, raw)
  else
    match codePositions.idxOf? (n - 128) with
    | some i => (1, raw.modify (i / 8) fun b => flipBit b (i % 8))
    | none => if (n - 128) ∈ [0, 1, 2, 4, 8, 16, 32, 64] then (1, raw) else (2, raw)

/-- The record FIFO of a die (R140). -/
def State.sbRecords (s : State) (d : Nat) : List (Nat × Nat) := Tab.get (fun _ => []) s.buffer.records d

/-- The record registers of a die show the oldest record. -/
def State.sbShow (s : State) (d : Nat) : State :=
  let r := R.SBF_ERR_REC_ADDR d
  let ov := if s.flag r F.SBF_ERR_REC_ADDR_OVERFLOW then 2 ^ 62 else 0
  match s.sbRecords d with
  | [] => (s.setReg r (BitVec.ofNat 64 ov)).setReg (R.SBF_ERR_REC_INFO d) 0
  | e :: _ => (s.setReg r (BitVec.ofNat 64 (2 ^ 63 + ov + e.1))).setReg (R.SBF_ERR_REC_INFO d) (BitVec.ofNat 64 e.2)

/-- The state with a die's records replaced. -/
def State.setSbRecords (s : State) (d : Nat) (l : List (Nat × Nat)) : State :=
  State.sbShow { s with buffer := { s.buffer with records := Tab.set (fun _ => []) s.buffer.records d l } } d

/-- A record is made; one that finds the FIFO full is discarded (R140). -/
def State.sbRecord (s : State) (typ src a syn : Nat) : State :=
  let d := sbDie a
  let l := s.sbRecords d
  if l.length < 16 then
    s.setSbRecords d (l ++ [(typ * 2 ^ 59 + src * 2 ^ 56 + s.sbPhys a * 2 ^ 41 + a / 8 * 8, syn * 2 ^ 56 + s.beatNow)])
  else s.setFld (R.SBF_ERR_REC_ADDR d) F.SBF_ERR_REC_ADDR_OVERFLOW 1

/-- A decoded code word is counted and recorded (R139, R140), and its event raised (R142). -/
def State.sbCount (s : State) (kind src w : Nat) : State :=
  let d := sbDie w
  let syn := s.sbSyndrome w
  match kind with
  | 1 =>
    let before := s.fld (R.SBF_ERR_CNT d) F.SBF_ERR_CNT_CE
    let s := ((s.bump (R.SBF_ERR_CNT d) F.SBF_ERR_CNT_CE).bump (R.SBF_BANK d (s.sbPhys w)) F.SBF_BANK_CE).sbRecord 0 src
      w syn
    let n := s.fld (R.SBF_ERR_CNT d) F.SBF_ERR_CNT_CE
    let t := s.fld (R.SBF_ERR_CTL d) F.SBF_ERR_CTL_CE_THRESH
    if t ≠ 0 ∧ n ≠ before ∧ n % t = 0 then s.raise (192 + 2 * d) else s
  | 2 =>
    (((s.bump (R.SBF_ERR_CNT d) F.SBF_ERR_CNT_UE).bump (R.SBF_BANK d (s.sbPhys w)) F.SBF_BANK_UE).sbRecord 1 src w
      syn).raise (193 + 2 * d)
  | _ => s

/-- A code word is decoded and counted. -/
def State.sbReadWord (s : State) (src w : Nat) : (Nat × List Byte) × State :=
  let r := s.sbDecode w
  (r, s.sbCount r.1 src w)

/-- An access to an absent die's buffer (R122). -/
def State.sbAbsent (s : State) (a : Nat) : Bool := s.flag (R.SBF_STATUS (sbDie a)) F.SBF_STATUS_ABSENT

/-- The majority vote of a block's valid bit meets a copy that disagrees (R127); an absent or fenced bank is not read. -/
def State.sbVote (s : State) (hit : Upset) (src a : Nat) : State :=
  if (hit.votes.any fun v => v.toNat / 64 == a / 64) && !s.sbAbsent a && !s.sbFenced a then
    (s.bump (R.SBF_ERR_CNT (sbDie a)) F.SBF_ERR_CNT_VOTE).sbRecord 2 src (a / 64 * 64) 0
  else s

/-- The bits that an armed SBF_INJECT inverts in a code word that is stored (R143). -/
def State.sbInjection (s : State) (w : Nat) : List Nat :=
  let v := s.reg (R.SBF_INJECT (sbDie w))
  if F.SBF_INJECT_ARM.isSet v ∧ F.SBF_INJECT_ADDR.of v = w / 8 then
    let a := F.SBF_INJECT_BIT_A.of v
    let b := F.SBF_INJECT_BIT_B.of v
    (if F.SBF_INJECT_EN_A.isSet v then [a] else []) ++
      (if F.SBF_INJECT_EN_B.isSet v ∧ ¬ (F.SBF_INJECT_EN_A.isSet v ∧ a = b) then [b] else [])
  else []

/-- A code word is stored with fresh check bits, under an armed injection (R143). -/
def State.sbStore (s : State) (w : Nat) (data : List Byte) : State :=
  let v := s.reg (R.SBF_INJECT (sbDie w))
  let flips := s.sbInjection w
  let armed := F.SBF_INJECT_ARM.isSet v ∧ F.SBF_INJECT_ADDR.of v = w / 8
  let s := State.setSyndrome { s with sram := writeCells ramDefault s.sram w data } w 0
  let s := flips.foldl (fun s b => s.sbFlip w b) s
  if armed then s.setFld (R.SBF_INJECT (sbDie w)) F.SBF_INJECT_ARM 0 else s

/-- One 16-byte word of a read: the status, and the bytes of [lo, hi) that it holds (R128, R136, R139). -/
def State.sbReadUnit (s : State) (src w lo hi : Nat) : Nat × List Byte × State :=
  let want := fun (w : Nat) (bs : List Byte) =>
    (bs.zipIdx.filter fun e => lo ≤ w + e.2 && w + e.2 < hi).map Prod.fst
  if s.sbFenced w then (scTIMEOUT, want w (List.replicate 16 0#8), s)
  else if !s.sbValid w then (scDONE, want w (List.replicate 16 0#8), s)
  else
    let (r0, s) := s.sbReadWord src w
    let (r1, s) := s.sbReadWord src (w + 8)
    let take := fun (w : Nat) (r : Nat × List Byte) (s : State) =>
      let good := want w r.2
      if r.1 = 2 ∧ good ≠ [] then
        let (free, s) := s.freeBytes good.length
        (scDATA_ERROR, free, s)
      else (scDONE, good, s)
    let (c0, b0, s) := take w r0 s
    let (c1, b1, s) := take (w + 8) r1 s
    (worse c0 c1, b0 ++ b1, s)

/-- The 16-byte words that a run of bytes touches. -/
def unitsOf (size a len : Nat) : List Nat :=
  if len = 0 then [] else (List.range ((a + len - 1) / size - a / size + 1)).map fun i => size * (a / size + i)

/-- The part of a read behind the owner check. -/
def State.sbReadData (s : State) (src a len : Nat) : Nat × List Byte × State :=
  if s.sbAbsent a then
    let (bs, s) := s.freeBytes len
    (scDATA_ERROR, bs, s)
  else
    (unitsOf 16 a len).foldl (fun (acc : Nat × List Byte × State) w =>
      let (c, bs, s) := acc.2.2.sbReadUnit src w a (a + len)
      (worse acc.1 c, acc.2.1 ++ bs, s)) (scDONE, [], s)

/-- A read of the shared buffer (R124, R128, R136). -/
def State.sbRead (s : State) (a len ctx : Nat) (hit : Upset) : Nat × List Byte × State :=
  if s.sbAbsent a ∨ s.admits a ctx false then
    let s := s.sbUpset hit
    let s := (unitsOf 64 a len).foldl (fun s b => s.sbVote hit 0 b) s
    let (c, bs, s) := s.sbReadData 0 a len
    (c, if c = scDONE ∨ c = scDATA_ERROR then bs else [], s)
  else (scCONTEXT_REJECT, [], s)

/-- One 16-byte word of a write to a valid block (R130, R131). -/
def State.sbWriteUnit (s : State) (w : Nat) (data : List (Option Byte)) : Nat × State :=
  let lo := data.take 8
  let hi := data.drop 8
  let partly := fun (l : List (Option Byte)) => l.any Option.isSome && l.any Option.isNone
  if partly lo || partly hi then
    let (r0, s) := s.sbReadWord 1 w
    let (r1, s) := s.sbReadWord 1 (w + 8)
    if r0.1 = 2 ∨ r1.1 = 2 then (scDATA_ERROR, s)
    else (scDONE, (s.sbStore w (mergeBytes r0.2 lo)).sbStore (w + 8) (mergeBytes r1.2 hi))
  else
    let store := fun (s : State) (w : Nat) (l : List (Option Byte)) =>
      if l.all Option.isSome then s.sbStore w (l.map fun b => b.getD 0) else s
    (scDONE, store (store s w lo) (w + 8) hi)

/-- One block of a write (R128, R130, R141). -/
def State.sbWriteBlock (s : State) (hit : Upset) (b : Nat) (data : List (Option Byte)) : Nat × State :=
  if s.sbFenced b then (scTIMEOUT, s)
  else
    let s := if (splitUnits 8 b data).any fun u => u.2.any Option.isNone then s.sbVote hit 1 b else s
    if s.sbValid b then
      (splitUnits 16 b data).foldl (fun (acc : Nat × State) u =>
        let (c, s) := acc.2.sbWriteUnit u.1 u.2
        (worse acc.1 c, s)) (scDONE, s)
    else
      let full := data.map fun x => x.getD 0#8
      (scDONE, ((List.range 8).foldl (fun s i => s.sbStore (b + 8 * i) ((full.drop (8 * i)).take 8)) s).setValid b true)

/-- A write of the shared buffer (R124, R130, R131). -/
def State.sbWrite (s : State) (a : Nat) (data : List (Option Byte)) (ctx : Nat) (hit : Upset) : Nat × State :=
  if s.sbAbsent a then (scDATA_ERROR, s)
  else if s.admits a ctx true then
    (splitUnits 64 a data).foldl (fun (acc : Nat × State) u =>
      let (c, s) := acc.2.sbWriteBlock hit u.1 u.2
      (worse acc.1 c, s)) (scDONE, s.sbUpset hit)
  else (scCONTEXT_REJECT, s)

/-- A number of `bits` bits read as two's complement. -/
def asSigned (bits n : Nat) : Int := if n < 2 ^ (bits - 1) then n else (n : Int) - 2 ^ bits

/-- FADD on memory and operand (R132, R134): size 8 adds two FP32 values in the halves. -/
def fadd (size mem x : Nat) : Nat :=
  let add := Fp.add32
  if size = 8 then add (mem % 2 ^ 32) (x % 2 ^ 32) + 2 ^ 32 * add (mem / 2 ^ 32) (x / 2 ^ 32) else add mem x

/-- What memory becomes under an atomic operation (R132). -/
def atomicResult (op size mem x y : Nat) : Nat :=
  let n := 8 * size
  match op with
  | 1 => x
  | 2 => if mem = x then y else mem
  | 3 => (mem + x) % 2 ^ n
  | 4 => mem &&& x
  | 5 => mem ||| x
  | 6 => mem ^^^ x
  | 7 => if asSigned n x < asSigned n mem then x else mem
  | 8 => if asSigned n mem < asSigned n x then x else mem
  | 9 => min mem x
  | 10 => max mem x
  | _ => fadd size mem x

/-- The operations, sizes and addresses that an atomic may name (R133). -/
def atomicValid (a op size : Nat) : Bool :=
  1 ≤ op && op ≤ 11 && (size == 4 || size == 8) && a % size == 0 && bufferBase ≤ a && a < 0x1C180000000

/-- The operand of an atomic cut to its size. -/
def cutTo (size : Nat) (x : Nat) : Nat := x % 2 ^ (8 * size)

/-- An atomic at a bank (R133): its status, the old value, and the state. -/
def State.sbAtomicAt (s : State) (a op size x y : Nat) : Nat × List Byte × State :=
  let x := cutTo size x
  let y := cutTo size y
  let w := a / 8 * 8
  let place := fun (word : List Byte) (v : Nat) =>
    mergeBytes word (List.replicate (a - w) none ++ allBytes (Word.bytes size v) ++
      List.replicate (8 - (a - w) - size) none)
  if s.sbFenced a then (scTIMEOUT, [], s)
  else if !s.sbValid a then
    let b := a / 64 * 64
    let new := place (List.replicate 8 0#8) (atomicResult op size 0 x y)
    let s := (List.range 8).foldl (fun s i =>
      s.sbStore (b + 8 * i) (if b + 8 * i = w then new else List.replicate 8 0#8)) s
    (scDONE, List.replicate size 0#8, s.setValid a true)
  else
    let u := a / 16 * 16
    let (r0, s) := s.sbReadWord 2 u
    let (r1, s) := s.sbReadWord 2 (u + 8)
    let r := if w = u then r0 else r1
    if r.1 = 2 then
      let (bs, s) := s.freeBytes size
      (scDATA_ERROR, bs, s)
    else
      let old := (r.2.drop (a - w)).take size
      (scDONE, old, s.sbStore w (place r.2 (atomicResult op size (Word.ofBytes old) x y)))

/-- An atomic of the shared buffer (R124, R133). -/
def State.sbAtomic (s : State) (a op size x y ctx : Nat) (hit : Upset) : Nat × List Byte × State :=
  if !atomicValid a op size then (scDESCRIPTOR_ERROR, [], s)
  else if s.sbAbsent a then
    let (bs, s) := s.freeBytes size
    (scDATA_ERROR, bs, s)
  else if s.admits a ctx true then ((s.sbUpset hit).sbVote hit 2 a).sbAtomicAt a op size x y
  else (scCONTEXT_REJECT, [], s)

/-- The scrubber takes a block (R137): a corrected code word is written back, an uncorrectable one left. -/
def State.sbScrubBlock (s : State) (a : Nat) (hit : Upset) : State :=
  let b := a / 64 * 64
  let s := s.sbUpset hit
  if s.sbAbsent b ∨ s.sbFenced b ∨ !s.sbValid b then s
  else
    (List.range 8).foldl (fun s i =>
      let (r, s) := s.sbReadWord 3 (b + 8 * i)
      if r.1 = 1 then s.sbStore (b + 8 * i) r.2 else s) (s.sbVote hit 3 b)

/-- The bank of an address is fenced (R141). -/
def State.sbFence (s : State) (a src : Nat) : State :=
  let d := sbDie a
  let b := s.sbPhys a
  let s := (s.setFld (R.SBF_BANK d b) F.SBF_BANK_STATE 3).bump (R.SBF_STATUS d) F.SBF_STATUS_FENCED
  ((s.sbRecord 3 src a 0).raise (193 + 2 * d)).noteLoss dkBANK d b

/-- Clearing the valid bits of the partitions of a mask in a die (R125). -/
def State.sbClear (s : State) (d mask : Nat) : State :=
  { s with buffer := { s.buffer with
      valid := s.buffer.valid.clear fun b => sbDie b == d && bit mask ((b - bufferBase) % 0x30000000 / 2 ^ 26) } }

/-- Every valid bit of the buffer is cleared (R129). -/
def State.sbClearAll (s : State) : State := { s with buffer := { s.buffer with valid := [] } }

/-- What the buffer's registers read that they do not hold: the logical bank that a physical bank serves (R121), once
the defect merge has placed the banks. -/
def State.sbLogical (s : State) (d b : Nat) : Nat :=
  match s.buffer.bankOf.find? fun e => e.1 / 4096 == d && e.2 == b with
  | some e => e.1 % 4096
  | none => if b < 4096 then b else 0

end Sys2Proof.Machine
end

