-- ==== Sys2Proof/Machine/Stack.lean ====
section
/-!
DEFINITION. The stack controllers (06_stack_controllers): placement, the outer code, row tags, reads, writes and
read-modify-write, refresh, capacity, fill, scrub, fencing, counting and records.
-/
namespace Sys2Proof.Machine

/-- h(n) of R59 for a chunk. -/
def interleaveHash (c n : Nat) : Nat := (c + c / 2 ^ 4 + c / 2 ^ 8 + c / 2 ^ 12 + c / 2 ^ 16) % n

/-- The stack that holds a byte of stack memory (R59). -/
def State.stackOf (s : State) (a : Nat) : Nat :=
  let f := a / 2 ^ 31
  let k := f / 30
  let c := a % 2 ^ 31 / 2 ^ 11
  match s.fld (R.ADT_OWN_FRAME f) F.ADT_OWN_FRAME_INTERLEAVE with
  | 1 => 3 * (k / 3) + (k % 3 + interleaveHash c 3) % 3
  | 2 => (k + interleaveHash c 24) % 24
  | _ => k

/-- The block in its stack of a byte of stack memory (R148), with the stack: 2^34·stack + blk. -/
def State.stackKey (s : State) (a : Nat) : Nat :=
  2 ^ 34 * s.stackOf a + a / 2 ^ 31 % 30 * 2 ^ 25 + a % 2 ^ 31 / 64

/-- The placed pseudo-channels of a stack, ascending (R148). -/
def State.placedPcs (s : State) (m : Nat) : List Nat := bitsOf 64 (s.reg (R.STK_PC_MASK m)).toNat

/-- Where a block lies in its stack (R148). -/
structure RowPlace where
  m : Nat
  g : Nat
  j : Nat
  pc : Nat
  bank : Nat
  row : Nat
  deriving DecidableEq, Repr

/-- The place of a row group's block (R148). -/
def State.rowPlace (s : State) (m g j : Nat) : RowPlace :=
  let pcs := s.placedPcs m
  let n := max 1 pcs.length
  ⟨m, g, j, pcs.getD (g % n) 0, g / n % 64, g / n / 64⟩

/-- The place of a block by its key. -/
def State.blockPlace (s : State) (key : Nat) : RowPlace :=
  s.rowPlace (key / 2 ^ 34) (key % 2 ^ 34 / 15) (key % 2 ^ 34 % 15)

/-- The key of the row group of a place. -/
def RowPlace.groupKey (p : RowPlace) : Nat := 2 ^ 34 * p.m + p.g

/-- A pseudo-channel's number among all. -/
def RowPlace.bankKey (p : RowPlace) : Nat := 4096 * p.m + 64 * p.pc + p.bank

/-- Multiplication by x in GF(2^8) under x^8 + x^4 + x^3 + x^2 + 1 (R152). -/
def gfDouble (a : Nat) : Nat := if 128 ≤ a then (2 * a) ^^^ 0x11D else 2 * a

/-- Multiplication in GF(2^8). -/
def gfMul (a b : Nat) : Nat :=
  ((List.range 8).foldl (fun (acc : Nat × Nat) i =>
    (if bit b i then acc.1 ^^^ acc.2 else acc.1, gfDouble acc.2)) (0, a)).1

/-- α to a power. -/
def gfPow (n : Nat) : Nat := Nat.repeat gfDouble (n % 255) 1

/-- The power of x that a symbol stands at in its code word (R152): symbol 0 is sent first. -/
def symbolPower (i : Nat) : Nat := 67 - i

/-- What flipping bits of a symbol does to the four syndromes, packed with S0 lowest. -/
def stkSyndromeOf (i e : Nat) : Nat :=
  (List.range 4).foldr (fun k acc => gfMul e (gfPow (k * symbolPower i)) + 256 * acc) 0

/-- The symbol and the bits that a syndrome is consistent with (R153): none when uncorrectable. -/
def stkLocate (n : Nat) : Option (Nat × Nat) :=
  if n % 256 = 0 then none
  else ((List.range 68).find? fun i => stkSyndromeOf i (n % 256) == n).map fun i => (i, n % 256)

/-- The stored syndromes of a block. -/
def State.stkSyndrome (s : State) (key : Nat) : Nat := Tab.get (fun _ => 0) s.stackState.syndrome key

/-- The state with those syndromes. -/
def State.setStkSyndrome (s : State) (key n : Nat) : State :=
  { s with stackState := { s.stackState with syndrome := Tab.set (fun _ => 0) s.stackState.syndrome key n } }

/-- Bits of a stored symbol are inverted. -/
def State.stkFlip (s : State) (key i e : Nat) : State :=
  let s := s.setStkSyndrome key (s.stkSyndrome key ^^^ stkSyndromeOf i e)
  if i < 64 then
    let b := Tab.get ramDefault s.dram (64 * key + i) ^^^ BitVec.ofNat 8 e
    { s with dram := Tab.set ramDefault s.dram (64 * key + i) b }
  else s

/-- An address in stack memory. -/
def inStack (a : Nat) : Bool := decide (a < 0x16800000000)

/-- Stored symbols and tags are upset before an access, and on-die reports are counted (R151). -/
def State.stkUpset (s : State) (hit : DramUpset) (m : Nat) : State :=
  let s := hit.symbols.foldl (fun s e =>
    if inStack e.1.toNat then s.stkFlip (s.stackKey e.1.toNat) e.2.1.val e.2.2.toNat else s) s
  let s := hit.tags.foldl (fun s e =>
    if inStack e.1.toNat then
      let k := (s.blockPlace (s.stackKey e.1.toNat)).groupKey
      { s with stackState := { s.stackState with
          tag := Tab.set (fun _ => 0) s.stackState.tag k (Tab.get (fun _ => 0) s.stackState.tag k ^^^ e.2.toNat) } }
    else s) s
  if hit.inner = 0 then s else s.bump (R.STK_ERR_CNT2 m) F.STK_ERR_CNT2_INNER hit.inner

/-- The record FIFO of a controller (R170). -/
def State.stkRecords (s : State) (m : Nat) : List (Nat × Nat) := Tab.get (fun _ => []) s.stackState.records m

/-- The record registers of a controller show the oldest record. -/
def State.stkShow (s : State) (m : Nat) : State :=
  let r := R.STK_ERR_REC_ADDR m
  let ov := if s.flag r F.STK_ERR_REC_ADDR_OVERFLOW then 2 ^ 62 else 0
  match s.stkRecords m with
  | [] => (s.setReg r (BitVec.ofNat 64 ov)).setReg (R.STK_ERR_REC_INFO m) 0
  | e :: _ => (s.setReg r (BitVec.ofNat 64 (2 ^ 63 + ov + e.1))).setReg (R.STK_ERR_REC_INFO m) (BitVec.ofNat 64 e.2)

/-- The state with a controller's records replaced. -/
def State.setStkRecords (s : State) (m : Nat) (l : List (Nat × Nat)) : State :=
  State.stkShow { s with stackState := { s.stackState with records := Tab.set (fun _ => []) s.stackState.records m l } } m

/-- A record is made; one that finds the FIFO full is discarded (R170). -/
def State.stkRecord (s : State) (typ src : Nat) (p : RowPlace) (j sym : Nat) : State :=
  let l := s.stkRecords p.m
  if l.length < 16 then
    s.setStkRecords p.m (l ++
      [(typ * 2 ^ 59 + src * 2 ^ 56 + p.pc * 2 ^ 50 + p.bank * 2 ^ 44 + p.row * 2 ^ 30 + j * 2 ^ 26,
        sym * 2 ^ 56 + s.beatNow)])
  else s.setFld (R.STK_ERR_REC_ADDR p.m) F.STK_ERR_REC_ADDR_OVERFLOW 1

/-- CAP of R163. -/
def State.stkCap (s : State) (m : Nat) : Nat :=
  let st := R.STK_STATUS m
  let base := if s.flag st F.STK_STATUS_REFRESH then 1700000 else 1850000
  let live := s.fld st F.STK_STATUS_PLACED - s.fld st F.STK_STATUS_FENCED
  let raw := live * 2 ^ 30
  let period := s.fld (R.STK_SCRUB_CTL m) F.STK_SCRUB_CTL_PERIOD * 3600
  let num := 2 * raw * (86400 - period)
  let den := period * 86400 * 10 ^ 6
  base * live / 64 - (num + den - 1) / den

/-- The controller recomputes CAP (R163); a change raises 99 + 4m and starts a recomputation of R347. -/
def State.stkRecap (s : State) (m : Nat) : State :=
  let v := s.stkCap m
  if v = s.fld (R.STK_CAP m) F.STK_CAP_CAP then s
  else ((s.setFld (R.STK_CAP m) F.STK_CAP_CAP v).raise (99 + 4 * m)).rglStart

/-- A pseudo-channel is fenced (R167). -/
def State.pcFenced (s : State) (m pc : Nat) : Bool := s.fld (R.STK_PC m pc) F.STK_PC_STATE == 2

/-- A pseudo-channel is fenced, recorded and entered as a defect (R168). -/
def State.stkFence (s : State) (p : RowPlace) (src : Nat) : State :=
  let s := (s.setFld (R.STK_PC p.m p.pc) F.STK_PC_STATE 2).bump (R.STK_STATUS p.m) F.STK_STATUS_FENCED
  (((s.stkRecord 3 src p 15 0xFF).raise (97 + 4 * p.m)).noteLoss dkPSEUDO_CHANNEL p.m p.pc).stkRecap p.m

/-- The open row of a bank. -/
def State.openRow (s : State) (p : RowPlace) : Option OpenRow := Tab.get (fun _ => none) s.stackState.openRows p.bankKey

/-- The state with a bank's open row replaced. -/
def State.setOpenRow (s : State) (p : RowPlace) (r : Option OpenRow) : State :=
  { s with stackState := { s.stackState with openRows := Tab.set (fun _ => none) s.stackState.openRows p.bankKey r } }

/-- An activation of a bank is counted (R162): one that passes the threshold is answered by a refresh-management
command, after which the count starts again. -/
def State.countActivation (s : State) (p : RowPlace) : State :=
  let n := Tab.get (fun _ => 0) s.stackState.activations p.bankKey + 1
  let t := Tab.get (fun _ => 0) s.stackState.rfm p.m
  let put := fun (s : State) (n : Nat) =>
    ({ s with stackState := { s.stackState with activations := Tab.set (fun _ => 0) s.stackState.activations p.bankKey n } } : State)
  if t ≠ 0 ∧ t < n then (put s 0).emit (.refresh p.m p.pc p.bank true) else put s n

/-- A row is activated: its check sectors are read and its row tag checked (R154, R156). -/
def State.activate (s : State) (p : RowPlace) (src : Nat) : State :=
  let bad := decide (Tab.get (fun _ => 0) s.stackState.tag p.groupKey ≠ 0)
  let s := (s.countActivation p).setOpenRow p (some ⟨p.row, bad, false, false⟩)
  if bad then ((s.bump (R.STK_ERR_CNT p.m) F.STK_ERR_CNT_TAG).stkRecord 2 src p 15 0xFF).raise (97 + 4 * p.m) else s

/-- The row of an access is open, activated if it was not (R156); a command that succeeds ends a run of parity
failures (R167). -/
def State.openFor (s : State) (p : RowPlace) (src : Nat) : State :=
  let k := 64 * p.m + p.pc
  let s : State := { s with stackState := { s.stackState with failures := Tab.drop s.stackState.failures k } }
  match s.openRow p with
  | some r => if r.row = p.row then s else s.activate p src
  | none => s.activate p src

/-- The tag of the open row failed, and every access to the row fails (R154). -/
def State.rowBad (s : State) (p : RowPlace) : Bool :=
  match s.openRow p with
  | some r => r.bad
  | none => false

/-- A check sector of the open row has changed (R156). -/
def State.dirty (s : State) (p : RowPlace) : State :=
  match s.openRow p with
  | some r => s.setOpenRow p (some (if p.j ≤ 7 then { r with dirty30 := true } else { r with dirty31 := true }))
  | none => s

/-- What the outer code makes of a stored block (R153): 0 no error, 1 corrected, 2 uncorrectable; the data and the
corrected symbol. -/
def State.stkDecode (s : State) (key : Nat) : Nat × List Byte × Nat :=
  let n := s.stkSyndrome key
  let raw := readCells ramDefault s.dram (64 * key) 64
  if n = 0 then (0, raw, 0)
  else
    match stkLocate n with
    | some (i, e) => (1, raw.modify i fun b => b ^^^ BitVec.ofNat 8 e, i)
    | none => (2, raw, 0)

/-- A decoded block is counted and recorded, and its event raised (R169, R170, R171). -/
def State.stkCount (s : State) (kind src : Nat) (p : RowPlace) (sym : Nat) : State :=
  match kind with
  | 1 =>
    let before := s.fld (R.STK_ERR_CNT p.m) F.STK_ERR_CNT_CE
    let s := ((s.bump (R.STK_ERR_CNT p.m) F.STK_ERR_CNT_CE).bump (R.STK_PC p.m p.pc) F.STK_PC_CE).stkRecord 0 src p p.j
      sym
    let n := s.fld (R.STK_ERR_CNT p.m) F.STK_ERR_CNT_CE
    let t := s.fld (R.STK_ERR_CTL p.m) F.STK_ERR_CTL_CE_THRESH
    if t ≠ 0 ∧ n ≠ before ∧ n % t = 0 then s.raise (96 + 4 * p.m) else s
  | 2 =>
    (((s.bump (R.STK_ERR_CNT p.m) F.STK_ERR_CNT_UE).bump (R.STK_PC p.m p.pc) F.STK_PC_UE).stkRecord 1 src p p.j
      0xFF).raise (97 + 4 * p.m)
  | _ => s

/-- A block is read from the stack (R153, R154, R155, R167): its status and its 64 bytes. -/
def State.stkReadBlock (s : State) (key src : Nat) : Nat × List Byte × State :=
  let p := s.blockPlace key
  if s.pcFenced p.m p.pc then (scTIMEOUT, List.replicate 64 0#8, s)
  else
    let s := s.openFor p src
    if s.rowBad p then
      let (bs, s) := s.freeBytes 64
      (scDATA_ERROR, bs, s)
    else
      let (kind, data, sym) := s.stkDecode key
      let s := s.stkCount kind src p sym
      if kind = 2 then
        let (bs, s) := s.freeBytes 64
        (scDATA_ERROR, bs, s)
      else (scDONE, data, s)

/-- A block is stored with fresh check symbols, under an armed injection (R156, R172). -/
def State.stkStore (s : State) (key : Nat) (data : List Byte) : State :=
  let p := s.blockPlace key
  let v := s.reg (R.STK_INJECT p.m)
  let armed := F.STK_INJECT_ARM.isSet v && F.STK_INJECT_PC.of v == p.pc && F.STK_INJECT_BANK.of v == p.bank &&
    F.STK_INJECT_ROW.of v == p.row && F.STK_INJECT_BLOCK.of v == p.j
  let a := F.STK_INJECT_SYM_A.of v
  let b := F.STK_INJECT_SYM_B.of v
  let s := State.setStkSyndrome { s with dram := writeCells ramDefault s.dram (64 * key) data } key 0
  let s := s.dirty p
  if armed then
    let s := if F.STK_INJECT_EN_A.isSet v then s.stkFlip key a 0xFF else s
    let s := if F.STK_INJECT_EN_B.isSet v ∧ ¬ (F.STK_INJECT_EN_A.isSet v ∧ a = b) then s.stkFlip key b 0xFF else s
    s.setFld (R.STK_INJECT p.m) F.STK_INJECT_ARM 0
  else s

/-- A block is written, whole or by read-modify-write (R157, R158, R159): its status. -/
def State.stkWriteBlock (s : State) (key cls : Nat) (data : List (Option Byte)) : Nat × State :=
  let p := s.blockPlace key
  if s.pcFenced p.m p.pc then (scTIMEOUT, s)
  else if data.all Option.isSome then
    let s := (s.rglCharge p.m cls 64).openFor p 4
    if s.rowBad p then (scDATA_ERROR, s) else (scDONE, s.stkStore key (data.map fun b => b.getD 0#8))
  else
    let (c, old, s) := (s.rglCharge p.m cls 384).stkReadBlock key 1
    if c = scDONE then (scDONE, s.stkStore key (mergeBytes old data)) else (c, s)

/-- The part of a read behind the owner check (R155): every block from an address on, charged (R342). -/
def State.stkReadData (s : State) (a len cls : Nat) : Nat × List Byte × State :=
  (unitsOf 64 a len).foldl (fun (acc : Nat × List Byte × State) b =>
    let s := acc.2.2
    let key := s.stackKey b
    let p := s.blockPlace key
    let s := if s.pcFenced p.m p.pc then s else s.rglCharge p.m cls 64
    let (c, bs, s) := s.stkReadBlock key 0
    let lo := max a b
    (worse acc.1 c, acc.2.1 ++ (bs.drop (lo - b)).take (min (a + len) (b + 64) - lo), s)) (scDONE, [], s)

/-- An absent frame (R60). -/
def State.frameAbsent (s : State) (a : Nat) : Bool := s.flag (R.ADT_OWN_FRAME (a / 2 ^ 31)) F.ADT_OWN_FRAME_ABSENT

/-- A read under a context, or one that R64 exempts (none). -/
def State.stkRead (s : State) (a len : Nat) (ctx : Option Nat) (cls : Nat) (hit : DramUpset) :
    Nat × List Byte × State :=
  let go := fun (s : State) =>
    let (c, bs, s) := (s.stkUpset hit (s.stackOf a)).stkReadData a len cls
    (c, if c = scDONE ∨ c = scDATA_ERROR then bs else [], s)
  match ctx with
  | some x => if s.frameAbsent a ∨ !s.admits a x false then (scCONTEXT_REJECT, [], s) else go s
  | none =>
    if s.frameAbsent a then
      let (bs, s) := s.freeBytes len
      (scDATA_ERROR, bs, s)
    else go s

/-- A write of some bytes of its blocks, behind the owner check (R159). -/
def State.stkWriteData (s : State) (a : Nat) (data : List (Option Byte)) (cls : Nat) : Nat × State :=
  (splitUnits 64 a data).foldl (fun (acc : Nat × State) u =>
    let (c, s) := acc.2.stkWriteBlock (acc.2.stackKey u.1) cls u.2
    (worse acc.1 c, s)) (scDONE, s)

/-- A write at a controller (R157, R158). -/
def State.stkWrite (s : State) (a : Nat) (data : List (Option Byte)) (ctx cls : Nat) (hit : DramUpset) : Nat × State :=
  if s.frameAbsent a ∨ !s.admits a ctx true then (scCONTEXT_REJECT, s)
  else (s.stkUpset hit (s.stackOf a)).stkWriteData a data cls

/-- A bank's row is precharged: held check sectors that changed are written back (R156). -/
def State.stkPrecharge (s : State) (m pc bank : Nat) : State := s.setOpenRow ⟨m, 0, 0, pc, bank, 0⟩ none

/-- A refresh of a bank closes its row (R161). -/
def State.stkRefresh (s : State) (m pc bank : Nat) : State :=
  if s.pcFenced m pc then s else (s.stkPrecharge m pc bank).emit (.refresh m pc bank false)

/-- A temperature reading (R161): double refresh begins above 85 °C and ends after ten readings at or below 82 °C. -/
def State.stkTemp (s : State) (m t : Nat) : State :=
  let r := R.STK_STATUS m
  let s := s.setFld r F.STK_STATUS_TEMP t
  let cool := if t ≤ 82 then Tab.get (fun _ => 0) s.stackState.cool m + 1 else 0
  let keep := fun (s : State) (n : Nat) =>
    ({ s with stackState := { s.stackState with cool := Tab.set (fun _ => 0) s.stackState.cool m (min n 10) } } : State)
  if s.flag r F.STK_STATUS_REFRESH then
    if 10 ≤ cool then (((keep s 0).setFld r F.STK_STATUS_REFRESH 0).raise (98 + 4 * m)).stkRecap m else keep s cool
  else if 85 < t then (((keep s 0).setFld r F.STK_STATUS_REFRESH 1).raise (98 + 4 * m)).stkRecap m
  else keep s 0

/-- The row group of a row (R148). -/
def State.groupOf (s : State) (m pc bank row : Nat) : Option Nat :=
  let pcs := s.placedPcs m
  (pcs.idxOf? pc).map fun i => (row * 64 + bank) * pcs.length + i

/-- The patrol reads a row (R165): its tag is checked and each correctable block written back. -/
def State.stkScrubRow (s : State) (m pc bank row : Nat) (hit : DramUpset) : State :=
  let s := s.stkUpset hit m
  match s.groupOf m pc bank row with
  | none => s
  | some g =>
    if s.pcFenced m pc then s
    else
      let p := s.rowPlace m g 0
      let s := (s.stkPrecharge m pc bank).openFor p 2
      let s := if s.rowBad p then s else
        (List.range 15).foldl (fun s j =>
          let key := 2 ^ 34 * m + 15 * g + j
          let p := s.rowPlace m g j
          let (kind, data, sym) := s.stkDecode key
          let s := s.stkCount kind 2 p sym
          if kind = 1 then s.stkStore key data else s) s
      s.stkPrecharge m pc bank

/-- The hardware fill of a stack (R164): zeros, valid check symbols and right tags, rows closed. -/
def State.stkFill (s : State) (m : Nat) : State :=
  let mine := fun (unit k : Nat) => k / unit == m
  { s with
    dram := Tab.clear s.dram (mine (2 ^ 40))
    stackState := { s.stackState with
      syndrome := s.stackState.syndrome.clear (mine (2 ^ 34)), tag := s.stackState.tag.clear (mine (2 ^ 34)),
      openRows := s.stackState.openRows.clear (mine 4096) } }

/-- A parity error on a command of an access (R167): retried three times, and fenced at the fourth. -/
def State.stkParity (s : State) (a src : Nat) : Bool × State :=
  let p := s.blockPlace (s.stackKey a)
  let k := 64 * p.m + p.pc
  let n := Tab.get (fun _ => 0) s.stackState.failures k + 1
  let put := fun (s : State) (n : Nat) =>
    ({ s with stackState := { s.stackState with failures := Tab.set (fun _ => 0) s.stackState.failures k n } } : State)
  if s.pcFenced p.m p.pc then (false, s)
  else if 4 ≤ n then (true, (put s 0).stkFence p src)
  else (false, (put s n).bump (R.STK_ERR_CNT2 p.m) F.STK_ERR_CNT2_RETRY)

end Sys2Proof.Machine
end

