-- ==== Sys2Proof/Machine/Msc.lean ====
section
/-!
DEFINITION. The memory-side cache (07_memory_side_cache): lookup, the merging buffer, miss registers, replacement, the
stride prefetcher, disabling, enabling and invalidation. A line is named by its stack line number (R174), and its
blocks by the block keys 2·line and 2·line + 1 of its stack.
-/
namespace Sys2Proof.Machine

/-- A slice that holds nothing. -/
def SliceState.empty : SliceState := ⟨[], [], [], [], [], [], false, false, none⟩

/-- The slice of a stack. -/
def State.slice (s : State) (m : Nat) : SliceState := Tab.get (fun _ => SliceState.empty) s.slices m

/-- MR_BUSY, MB_USED, PF_ENTRIES and DRAINED follow the slice. -/
def State.mscShow (s : State) (m : Nat) : State :=
  let x := s.slice m
  let r := R.MSC_STATUS m
  let d := s.fld (R.MSC_CTL m) F.MSC_CTL_EN == 0 && x.merging.isEmpty && x.misses.isEmpty
  (((s.setFld r F.MSC_STATUS_MR_BUSY x.misses.length).setFld r F.MSC_STATUS_MB_USED x.merging.length).setFld r
    F.MSC_STATUS_PF_ENTRIES x.streams.length).setFld r F.MSC_STATUS_DRAINED (if d then 1 else 0)

/-- The state with a slice replaced. -/
def State.setSlice (s : State) (m : Nat) (x : SliceState) : State :=
  State.mscShow { s with slices := Tab.set (fun _ => SliceState.empty) s.slices m x } m

/-- The slice looks up its arrays: enabled, and no disable in progress (R192). -/
def State.mscOn (s : State) (m : Nat) : Bool := s.flag (R.MSC_CTL m) F.MSC_CTL_EN && !(s.slice m).disabling

/-- The line of a byte of stack memory (R174). -/
def lineOf (a : Nat) : Nat := a / 2 ^ 31 % 30 * 2 ^ 24 + a % 2 ^ 31 / 128

/-- Set and tag of a line (R174). -/
def setOf (l : Nat) : Nat := (l ^^^ (l / 2 ^ 12) ^^^ (l / 2 ^ 24)) % 4096
def tagOf (l : Nat) : Nat := l / 2 ^ 12

/-- The block keys of a line. -/
def lineBlock (m l b : Nat) : Nat := 2 ^ 34 * m + 2 * l + b

/-- What a way of a set holds. -/
def SliceState.way (x : SliceState) (set w : Nat) : Option CacheLine := Tab.get (fun _ => none) x.lines (16 * set + w)

/-- The slice with a way replaced. -/
def SliceState.setWay (x : SliceState) (set w : Nat) (c : Option CacheLine) : SliceState :=
  { x with lines := Tab.set (fun _ => none) x.lines (16 * set + w) c }

/-- The way that holds a line. -/
def SliceState.hit (x : SliceState) (l : Nat) : Option Nat :=
  (List.range 16).find? fun w => match x.way (setOf l) w with | some c => c.tag == tagOf l | none => false

/-- A line's blocks lie on a fenced pseudo-channel (R198). -/
def State.lineFenced (s : State) (m l lo hi : Nat) : Bool :=
  let fenced := fun b => let p := s.blockPlace (lineBlock m l b); s.pcFenced p.m p.pc
  (decide (lo < 64) && fenced 0) || (decide (64 < hi) && fenced 1)

/-- Array parity errors are counted (R175, R199). -/
def State.mscParity (s : State) (m k : Nat) : State :=
  if k = 0 then s
  else
    let before := s.fld (R.MSC_CNT_MISC m) F.MSC_CNT_MISC_PARITY
    let s := s.bump (R.MSC_CNT_MISC m) F.MSC_CNT_MISC_PARITY k
    if before / 256 < s.fld (R.MSC_CNT_MISC m) F.MSC_CNT_MISC_PARITY / 256 then s.raise (208 + 2 * m) else s

/-- A lookup checks the tags of its set (R175): ways of the mask whose parity fails are invalidated. -/
def State.mscTags (s : State) (m l : Nat) (mask : Nat) : State :=
  let x := s.slice m
  let bad := (bitsOf 16 mask).filter fun w => (x.way (setOf l) w).isSome
  if bad.isEmpty then s
  else (s.setSlice m (bad.foldl (fun x w => x.setWay (setOf l) w none) x)).mscParity m bad.length

/-- Bytes of a line under the entries of the merging buffer, oldest first (R177). -/
def SliceState.overlay (x : SliceState) (l : Nat) (data : List Byte) : List Byte :=
  x.merging.foldl (fun d e => if e.line = l then mergeBytes d e.bytes else d) data

/-- One step of the replacement LFSR (R186). -/
def lfsrStep (n : Nat) : Nat :=
  let f := (n / 2 ^ 15 + n / 2 ^ 13 + n / 2 ^ 12 + n / 2 ^ 10) % 2
  n * 2 % 2 ^ 16 + f

/-- The ways of a set that pending miss registers reserve. -/
def SliceState.reserved (x : SliceState) (set : Nat) : List Nat :=
  x.misses.filterMap fun r => if setOf r.line = set then r.way else none

/-- The victim of an allocating miss (R187), which is invalidated at once; none when all ways are reserved. -/
def State.mscVictim (s : State) (m l : Nat) : Option Nat × State :=
  let x := s.slice m
  let set := setOf l
  let held := x.reserved set
  match (List.range 16).find? fun w => (x.way set w).isNone && !held.contains w with
  | some w => (some w, s)
  | none =>
    let n := lfsrStep (s.fld (R.MSC_LFSR m) F.MSC_LFSR_STATE)
    let s := s.setFld (R.MSC_LFSR m) F.MSC_LFSR_STATE n
    match ((List.range 16).map fun i => (n % 16 + i) % 16).find? fun w => !held.contains w with
    | some w => (some w, s.setSlice m ((s.slice m).setWay set w none))
    | none => (none, s)

/-- The pending miss register of a line, by its place. -/
def SliceState.pendingOf (x : SliceState) (l : Nat) : Option Nat := x.misses.findIdx? fun r => r.line == l

/-- A read that waits on a fill. -/
structure MscRead where
  a : Nat
  len : Nat
  ctx : Nat
  cls : Nat
  hint : Nat
  stream : Nat
  id : Nat
  deriving DecidableEq, Repr

/-- The read as a miss register keeps it. -/
def MscRead.wait (q : MscRead) : PendingRead := ⟨q.id, q.stream, q.a, q.len, q.ctx, q.cls, q.hint⟩

/-- A primary miss allocates a register (R183). -/
def State.mscAllocate (s : State) (m l : Nat) (q : MscRead) (prefetch : Bool) : State :=
  let (way, s) := if q.hint = 2 then (none, s) else s.mscVictim m l
  let x := s.slice m
  s.setSlice m { x with misses := x.misses ++
    [⟨l, way, prefetch, false, way.isSome, q.a, q.cls, if prefetch then [] else [q.wait], List.replicate 128 none⟩] }

/-- Whether a prefetch of a line may be issued (R190). -/
def State.mscMayPrefetch (s : State) (m l l' a : Nat) (d : Int) : Bool :=
  let x := s.slice m
  let free := 256 - x.misses.length
  let held := (x.misses.filter fun r => r.prefetch).length
  let c := R.MSC_PF_CTL m
  let a' := ((a / 128 * 128 : Nat) : Int) + d * 128
  (x.hit l').isNone && (x.pendingOf l').isNone && l' / 2 ^ 24 == l / 2 ^ 24 && decide (0 ≤ a') &&
    decide (0 < free ∧ s.fld c F.MSC_PF_CTL_MIN_FREE ≤ free) && decide (held < s.fld c F.MSC_PF_CTL_MAX_MR) &&
    (s.fld (R.ADT_OWN_FRAME (a / 2 ^ 31)) F.ADT_OWN_FRAME_INTERLEAVE == 0 ||
      a'.toNat / 2 ^ 11 == a / 2 ^ 11)

/-- The prefetches of one training: up to two of the lowest k not yet issued, with the mask of those issued (R190,
R191). -/
def State.mscPrefetch (s : State) (m l : Nat) (q : MscRead) (stride : Int) : List Nat → Nat → Nat → Nat × State
  | [], _, issued => (issued, s)
  | k :: ks, left, issued =>
    if left = 0 then (issued, s)
    else
      let d := (k : Int) * stride
      let l' := ((l : Int) + d).toNat
      if decide (0 ≤ (l : Int) + d) && s.mscMayPrefetch m l l' q.a d then
        let a' := (((q.a / 128 * 128 : Nat) : Int) + d * 128).toNat
        let s := s.bump (R.MSC_CNT_PF m) F.MSC_CNT_PF_ISSUED
        let s := if s.admits a' q.ctx false then s.mscAllocate m l' { q with a := a', len := 0, hint := 0 } true
          else s.bump (R.MSC_CNT_PF m) F.MSC_CNT_PF_REJECTED
        State.mscPrefetch s m l q stride ks (left - 1) (setBit issued k)
      else State.mscPrefetch s m l q stride ks left issued

/-- What a training makes of a stream's entry (R189). -/
def StreamEntry.train (e : StreamEntry) (l : Nat) : StreamEntry :=
  let d := (l : Int) - e.last
  if d = 0 then e
  else if 64 < d.natAbs then { e with last := l, stride := 0, confirmations := 0, steady := false, issued := 0 }
  else if d = e.stride then
    if e.steady then { e with last := l, issued := e.issued / 2 }
    else { e with last := l, confirmations := e.confirmations + 1, steady := decide (2 ≤ e.confirmations + 1), issued := 0 }
  else { e with last := l, stride := d, confirmations := 0, steady := false, issued := 0 }

/-- A demand read trains the prefetcher (R189 to R191). -/
def State.mscTrain (s : State) (m l : Nat) (q : MscRead) : State :=
  if q.hint ≠ 0 then s
  else
    let x := s.slice m
    match x.streams.find? fun e => e.stream == q.stream with
    | none => s.setSlice m { x with streams := (⟨q.stream, l, 0, 0, false, 0⟩ :: x.streams).take 64 }
    | some e =>
      let e' := e.train l
      let rest := x.streams.filter fun e => e.stream != q.stream
      let s := s.setSlice m { x with streams := e' :: rest }
      if e'.steady && decide (l ≠ e.last) && s.flag (R.MSC_CTL m) F.MSC_CTL_PF_EN then
        let ks := (List.range (s.fld (R.MSC_PF_CTL m) F.MSC_PF_CTL_DEPTH + 1)).filter fun k => k ≠ 0 && !bit e'.issued k
        let (issued, s) := s.mscPrefetch m l q e'.stride ks 2 e'.issued
        s.setSlice m { s.slice m with streams := { e' with issued := issued } :: (s.slice m).streams.tail }
      else s

/-- A handed entry's blocks go to the controller (R182), and the entry frees. -/
def State.mbAccept (s : State) (m i : Nat) : State :=
  let x := s.slice m
  match x.merging[i]? with
  | none => s
  | some e =>
    let put := fun (s : State) (b : Nat) =>
      let data := (e.bytes.drop (64 * b)).take 64
      if data.all Option.isNone then s else (s.stkWriteBlock (lineBlock m e.line b) e.cls data).2
    let s := put (put s 0) 1
    s.setSlice m { s.slice m with merging := (s.slice m).merging.eraseIdx i }

/-- Every entry of a line goes to the controller, oldest first. -/
def State.mbDrain (s : State) (m l : Nat) : Nat → State
  | 0 => s
  | n + 1 =>
    match (s.slice m).merging.findIdx? fun e => e.line == l with
    | some i => State.mbDrain (s.mbAccept m i) m l n
    | none => s

/-- Bytes of a line that a write enters in the merging buffer (R181): into the open entry, else a new one. -/
def SliceState.merge (x : SliceState) (l cls : Nat) (bytes : List (Option Byte)) : SliceState :=
  match x.merging.findIdx? fun e => e.line == l && e.isOpen with
  | some i => { x with merging := x.merging.modify i fun e =>
      { e with bytes := List.zipWith (fun o n => if n.isSome then n else o) e.bytes bytes } }
  | none => { x with merging := x.merging ++ [⟨l, cls, bytes, true⟩] }

/-- A write is accepted (R180, R184): the array's copy is updated unless a disable is in progress (R192), and a pending
register records the bytes. -/
def State.mscAccept (s : State) (m l cls : Nat) (bytes : List (Option Byte)) : State :=
  let x := s.slice m
  let x : SliceState := match (if s.mscOn m then x.hit l else none) with
    | some w => x.setWay (setOf l) w ((x.way (setOf l) w).map fun c => { c with data := mergeBytes c.data bytes })
    | none => x
  let x : SliceState := { x with misses := x.misses.map fun r =>
    if r.line = l then { r with written := List.zipWith (fun o n => if n.isSome then n else o) r.written bytes } else r }
  s.setSlice m (x.merge l cls bytes)

/-- The bytes of a line that do not lie on fenced pseudo-channels (R198). -/
def State.liveBytes (s : State) (m l : Nat) (bytes : List (Option Byte)) : List (Option Byte) :=
  let part := fun b =>
    let p := s.blockPlace (lineBlock m l b)
    let bs := (bytes.drop (64 * b)).take 64
    if s.pcFenced p.m p.pc then bs.map fun _ => none else bs
  part 0 ++ part 1

/-- The reads of a fill: both blocks, charged to the register's class (R183, R342). -/
def State.mscFetch (s : State) (m l cls : Nat) : Nat × Nat × List Byte × State :=
  let get := fun (s : State) (b : Nat) =>
    let key := lineBlock m l b
    let p := s.blockPlace key
    (if s.pcFenced p.m p.pc then s else s.rglCharge p.m cls 64).stkReadBlock key 0
  let (c0, d0, s) := get s 0
  let (c1, d1, s) := get s 1
  (c0, c1, d0 ++ d1, s)

/-- The status of a read of bytes [lo, hi) of a line whose blocks came with these statuses (R185). -/
def lineStatus (c0 c1 lo hi : Nat) : Nat :=
  worse (if lo < 64 then c0 else scDONE) (if 64 < hi then c1 else scDONE)

/-- A register's fill (R183 to R185): its line's statuses and bytes, with the line installed where it may be. -/
def State.mscFill (s : State) (m i : Nat) : Nat × Nat × List Byte × State :=
  match (s.slice m).misses[i]? with
  | none => (scDONE, scDONE, [], s)
  | some r =>
    let (c0, c1, data, s) := s.mscFetch m r.line r.cls
    let data := mergeBytes data r.written
    let ok := c0 = scDONE ∧ c1 = scDONE
    let s := if ok then s else s.bump (R.MSC_CNT_MISC m) F.MSC_CNT_MISC_FILL_ERR
    let x : SliceState := { s.slice m with misses := (s.slice m).misses.eraseIdx i }
    let x : SliceState := match r.way with
      | some w => if ok ∧ r.install then x.setWay (setOf r.line) w (some ⟨tagOf r.line, data, r.prefetch⟩) else x
      | none => x
    (c0, c1, data, s.setSlice m x)

/-- The answers of a fill to the reads it merged (R183, R185). -/
def State.mscAnswer (s : State) (m c0 c1 : Nat) (data : List Byte) (rs : List PendingRead) : State :=
  rs.foldl (fun s q =>
    let lo := q.addr % 128
    let c := lineStatus c0 c1 lo (lo + q.len)
    s.emit (.answer (.slice m q.id) c (if c = scTIMEOUT then [] else (data.drop lo).take q.len))) s

/-- What a lookup makes of a read (R177, R188): a hit's bytes, or none and a miss to be taken up. -/
def State.mscLookup (s : State) (m l : Nat) (q : MscRead) (tagErr : Nat) (dataErr : Bool) : Option (List Byte) × State :=
  let s := s.mscTags m l tagErr
  let x := s.slice m
  match x.hit l with
  | none => (none, s)
  | some w =>
    match x.way (setOf l) w with
    | none => (none, s)
    | some c =>
      if dataErr then (none, (s.setSlice m (x.setWay (setOf l) w none)).mscParity m 1)
      else
        let s := if c.prefetched then s.bump (R.MSC_CNT_PF m) F.MSC_CNT_PF_USEFUL else s
        let x := x.setWay (setOf l) w (some { c with prefetched := false })
        let s := (s.setSlice m x).bump (R.MSC_CNT_RD m) F.MSC_CNT_RD_HIT
        (some (((x.overlay l c.data).drop (q.a % 128)).take q.len), s)

/-- A read merges into the pending register of its line (R184, R191). -/
def State.mscMerge (s : State) (m i : Nat) (q : MscRead) : State :=
  let x := s.slice m
  let s := match x.misses[i]? with
    | some r => if r.prefetch then s.bump (R.MSC_CNT_PF m) F.MSC_CNT_PF_USEFUL else s
    | none => s
  (s.setSlice m { x with misses := x.misses.modify i fun r => { r with prefetch := false, reads := r.reads ++ [q.wait] } }).bump
    (R.MSC_CNT_MISC m) F.MSC_CNT_MISC_MERGED

/-- The bytes of a read that the slice passes to its controller, under the merging buffer's bytes (R177, R192). -/
def State.mscPass (s : State) (m l : Nat) (q : MscRead) : Nat × List Byte × State :=
  let (c, bs, s) := s.stkReadData q.a q.len q.cls
  let lo := q.a % 128
  let line := List.replicate lo 0#8 ++ bs ++ List.replicate (128 - lo - bs.length) 0#8
  (c, if c = scDONE ∨ c = scDATA_ERROR then (((s.slice m).overlay l line).drop lo).take bs.length else [], s)

/-- The bytes of a write placed in its line. -/
def lineBytes (a : Nat) (data : List (Option Byte)) : List (Option Byte) :=
  let lo := a % 128
  List.replicate lo none ++ data ++ List.replicate (128 - lo - data.length) none

/-- A held request keeps the slice from accepting others (R181, R184): a write for want of a merging-buffer entry, a read
for want of a register. -/
def SliceState.blocks (x : SliceState) : Instr → Bool
  | .mscWrite a _ _ _ _ _ _ =>
    x.merging.length == 64 && !(x.merging.any fun e => e.line == lineOf a.toNat && e.isOpen)
  | .mscRead a _ _ _ _ _ _ _ _ => x.misses.length == 256 && (x.pendingOf (lineOf a.toNat)).isNone
  | _ => false

/-- The slice accepts no further request: one that it holds blocks it, or its replay queue is full (R181, R184). -/
def SliceState.blocked (x : SliceState) : Bool := x.replay.length == 32 || x.inputs.any x.blocks

/-- A requester's write of a line is held until its own read of the line has been answered (R177). -/
def SliceState.ownReadPending (x : SliceState) (l stream : Nat) : Bool :=
  x.misses.any (fun r => r.line == l && r.reads.any fun q => q.req == stream) ||
    x.replay.any fun q => lineOf q.addr == l && q.req == stream

/-- A held request of a requester and a line stands before a later one of the two (R100). -/
def SliceState.heldBefore (x : SliceState) (l stream : Nat) : Bool :=
  x.inputs.any fun i => match i with
    | .mscWrite a _ _ _ r _ _ => lineOf a.toNat == l && r == stream
    | .mscRead a _ _ _ _ r _ _ _ => lineOf a.toNat == l && r == stream
    | _ => false

/-- A request joins those held at the slice's input. -/
def State.mscHold (s : State) (m : Nat) (i : Instr) : State :=
  s.setSlice m { s.slice m with inputs := (s.slice m).inputs ++ [i] }

/-- A read that misses takes up a register or merges (R183, R184); `none` when the slice can take it nowhere yet. -/
def State.mscMiss (s : State) (m l : Nat) (q : MscRead) : Option State :=
  let x := s.slice m
  match x.pendingOf l with
  | some i =>
    match x.misses[i]? with
    | some r =>
      if r.reads.length < 16 then some ((s.bump (R.MSC_CNT_RD m) F.MSC_CNT_RD_MISS).mscMerge m i q) else none
    | none => none
  | none =>
    if x.misses.length < 256 then some ((s.bump (R.MSC_CNT_RD m) F.MSC_CNT_RD_MISS).mscAllocate m l q false) else none

/-- A read that finds the merge slots of its line full waits in the replay queue (R184); one that finds no register free
is held at the input. -/
def State.mscWait (s : State) (m l : Nat) (q : MscRead) (i : Instr) : State :=
  let x := s.slice m
  if (x.pendingOf l).isSome then (s.setSlice m { x with replay := x.replay ++ [q.wait] }).mscTrain m l q
  else s.mscHold m i

/-- A read at a slice (R177, R178, R183). -/
def State.mscReadAt (s : State) (m : Nat) (q : MscRead) (tagErr : Nat) (dataErr : Bool) (i : Instr) : State :=
  let l := lineOf q.a
  let lo := q.a % 128
  let answer := fun (r : Nat × List Byte × State) => r.2.2.emit (.answer (.slice m q.id) r.1 r.2.1)
  if s.frameAbsent q.a ∨ !s.admits q.a q.ctx false then answer (scCONTEXT_REJECT, [], s)
  else if !s.mscOn m || s.lineFenced m l lo (lo + q.len) then answer (s.mscPass m l q)
  else
    match s.mscLookup m l q tagErr dataErr with
    | (some bs, s) => (answer (scDONE, bs, s)).mscTrain m l q
    | (none, s) =>
      match s.mscMiss m l q with
      | some s => s.mscTrain m l q
      | none => s.mscWait m l q i

/-- A write at a slice (R180, R181, R198). -/
def State.mscWriteAt (s : State) (m a : Nat) (data : List (Option Byte)) (ctx cls stream id tagErr : Nat) (i : Instr) :
    State :=
  let l := lineOf a
  let live := s.liveBytes m l (lineBytes a data)
  let c := if live = lineBytes a data then scDONE else scTIMEOUT
  let answer := fun (r : Nat × State) => r.2.emit (.answer (.slice m id) r.1 [])
  if s.frameAbsent a ∨ !s.admits a ctx true then answer (scCONTEXT_REJECT, s)
  else if !s.flag (R.MSC_CTL m) F.MSC_CTL_EN then answer (s.stkWriteData a data cls)
  else if live.all Option.isNone then answer (c, s)
  else
    let x := s.slice m
    if x.ownReadPending l stream then s.mscHold m i
    else if x.merging.length = 64 && !(x.merging.any fun e => e.line == l && e.isOpen) then s.mscHold m i
    else
      let s := if s.mscOn m then s.mscTags m l tagErr else s
      answer (c, s.mscAccept m l cls live)

/-- A request at its slice: held behind one that blocks the input, or behind its own requester's (R100, R181). -/
def State.mscRequest (s : State) (i : Instr) : State :=
  match i with
  | .mscRead a len ctx cls hint stream id tagErr dataErr =>
    let m := s.stackOf a.toNat
    let x := s.slice m
    if x.blocked || x.heldBefore (lineOf a.toNat) stream then s.mscHold m i
    else s.mscReadAt m ⟨a.toNat, len, ctx.toNat, cls.val, hint.val, stream, id⟩ tagErr.toNat dataErr i
  | .mscWrite a data ctx cls stream id tagErr =>
    let m := s.stackOf a.toNat
    let x := s.slice m
    if x.blocked || x.heldBefore (lineOf a.toNat) stream then s.mscHold m i
    else s.mscWriteAt m a.toNat data ctx.toNat cls.val stream id tagErr.toNat i
  | _ => s

/-- A read of the replay queue looks up again (R184); it has trained its stream. -/
def State.mscReplay (s : State) (m : Nat) (p : PendingRead) : State :=
  let q : MscRead := ⟨p.addr, p.len, p.ctx, p.cls, p.hint, p.req, p.id⟩
  let l := lineOf q.a
  let lo := q.a % 128
  let answer := fun (r : Nat × List Byte × State) => r.2.2.emit (.answer (.slice m q.id) r.1 r.2.1)
  if !s.mscOn m || s.lineFenced m l lo (lo + q.len) then answer (s.mscPass m l q)
  else
    match s.mscLookup m l q 0 false with
    | (some bs, s) => answer (scDONE, bs, s)
    | (none, s) => (s.mscMiss m l q).getD (s.setSlice m { s.slice m with replay := (s.slice m).replay ++ [p] })

/-- The requests that wait at a slice are looked at again, in arrival order, after a register or an entry has freed. -/
def State.mscRetry (s : State) (m : Nat) : State :=
  let x := s.slice m
  if x.inputs.isEmpty && x.replay.isEmpty then s
  else
    let s := s.setSlice m { x with inputs := [], replay := [] }
    x.inputs.foldl State.mscRequest (x.replay.foldl (fun s p => s.mscReplay m p) s)

/-- A read performed at once, for a unit whose access is one step of the model: its line is filled, other reads that
the fill serves are answered, and its own bytes returned. `chk`: the owner check applies (R64). -/
def State.mscReadNow (s : State) (q : MscRead) (chk : Bool) : Nat × List Byte × State :=
  let m := s.stackOf q.a
  let l := lineOf q.a
  let lo := q.a % 128
  if s.frameAbsent q.a then
    if chk then (scCONTEXT_REJECT, [], s)
    else
      let (bs, s) := s.freeBytes q.len
      (scDATA_ERROR, bs, s)
  else if chk && !s.admits q.a q.ctx false then (scCONTEXT_REJECT, [], s)
  else if !s.mscOn m || s.lineFenced m l lo (lo + q.len) then s.mscPass m l q
  else
    match s.mscLookup m l q 0 false with
    | (some bs, s) => (scDONE, bs, s.mscTrain m l q)
    | (none, s) =>
      let s := s.bump (R.MSC_CNT_RD m) F.MSC_CNT_RD_MISS
      let s := match (s.slice m).pendingOf l with
        | some i => s.mscMerge m i q
        | none => s.mscAllocate m l q false
      let s := (s.mscTrain m l q).mbDrain m l 64
      match (s.slice m).pendingOf l with
      | none => (scDONE, [], s)
      | some i =>
        let others := match (s.slice m).misses[i]? with
          | some r => r.reads.filter fun x => x != q.wait
          | none => []
        let (c0, c1, data, s) := s.mscFill m i
        let s := s.mscAnswer m c0 c1 data others
        let c := lineStatus c0 c1 lo (lo + q.len)
        (c, if c = scTIMEOUT then [] else (data.drop lo).take q.len, s.mscRetry m)

/-- A write performed at once: the oldest entry goes to the controller first when the merging buffer is full (R181). The
bytes that lie on fenced pseudo-channels are not written (R198). -/
def State.mscWriteNow (s : State) (a : Nat) (data : List (Option Byte)) (ctx cls : Nat) : Nat × State :=
  let m := s.stackOf a
  let l := lineOf a
  let live := s.liveBytes m l (lineBytes a data)
  let c := if live = lineBytes a data then scDONE else scTIMEOUT
  if s.frameAbsent a ∨ !s.admits a ctx true then (scCONTEXT_REJECT, s)
  else if !s.flag (R.MSC_CTL m) F.MSC_CTL_EN then s.stkWriteData a data cls
  else if live.all Option.isNone then (c, s)
  else
    let x := s.slice m
    let s := if x.merging.length = 64 && !(x.merging.any fun e => e.line == l && e.isOpen) then s.mbAccept m 0 else s
    (c, s.mscAccept m l cls live)

/-- An entry may be handed to the controller (R181). -/
def State.mbMayHand (s : State) (m i : Nat) (aged : Bool) : Bool :=
  let x := s.slice m
  match x.merging[i]? with
  | none => false
  | some e =>
    e.isOpen && (e.bytes.all Option.isSome || aged || x.disabling ||
      ((x.merging.take i).all (fun f => !f.isOpen) && decide (s.fld (R.MSC_MB_CTL m) F.MSC_MB_CTL_HIGH_WATER ≤ x.merging.length)) ||
      x.misses.any fun r => r.line == e.line && !r.issued)

/-- An entry is handed (R181). -/
def State.mbHandAt (s : State) (m i : Nat) (aged : Bool) : State :=
  let x := s.slice m
  if s.mbMayHand m i aged then
    s.setSlice m { x with merging := x.merging.modify i fun e => { e with isOpen := false } }
  else s

/-- A handed entry's blocks are accepted by the controller, after those of its line that were handed before, and it frees
(R182). -/
def State.mbFreeAt (s : State) (m i : Nat) (hit : DramUpset) : State :=
  match (s.slice m).merging[i]? with
  | some e =>
    if e.isOpen || ((s.slice m).merging.take i).any fun f => f.line == e.line then s
    else ((s.stkUpset hit m).mbAccept m i).mscRetry m
  | none => s

/-- A register hands the open entries of its line, and issues its read once none is left (R183). -/
def State.mrIssueAt (s : State) (m i : Nat) : State :=
  let x := s.slice m
  match x.misses[i]? with
  | none => s
  | some r =>
    if r.issued then s
    else if x.merging.any fun e => e.line == r.line then
      s.setSlice m { x with merging := x.merging.map fun e => if e.line = r.line then { e with isOpen := false } else e }
    else s.setSlice m { x with misses := x.misses.modify i fun r => { r with issued := true } }

/-- An issued register's blocks return (R183). -/
def State.mrFillAt (s : State) (m i : Nat) (hit : DramUpset) : State :=
  match (s.slice m).misses[i]? with
  | none => s
  | some r =>
    if r.issued then
      let (c0, c1, data, s) := (s.stkUpset hit m).mscFill m i
      (s.mscAnswer m c0 c1 data r.reads).mscRetry m
    else s

/-- EN of a slice is written (R192, R195, R196). -/
def State.mscEnableWrite (s : State) (m : Nat) (on : Bool) : State :=
  let x := s.slice m
  let r := R.MSC_CTL m
  if s.flag (R.MSC_STATUS m) F.MSC_STATUS_FAULTY then s
  else if on then
    if x.disabling then s.setSlice m { x with enableAfter := true }
    else if s.flag r F.MSC_CTL_EN then s
    else
      let s := if s.flag (R.MSC_STATUS m) F.MSC_STATUS_STALE then
        s.bump (R.MSC_CNT_MISC m) F.MSC_CNT_MISC_STALE_EN else s
      (s.setFld r F.MSC_CTL_EN 1).mscShow m
  else if s.flag r F.MSC_CTL_EN then
    s.setSlice m { x with disabling := true, enableAfter := false, misses := x.misses.map fun r => { r with install := false } }
  else s

/-- A disable completes once the merging buffer is empty and every register FREE (R192); an enable written meanwhile
takes effect (R196). -/
def State.mscDisabled (s : State) (m : Nat) : State :=
  let x := s.slice m
  if x.disabling && x.merging.isEmpty && x.misses.isEmpty then
    let s := (s.setFld (R.MSC_CTL m) F.MSC_CTL_EN 0).setFld (R.MSC_STATUS m) F.MSC_STATUS_STALE 1
    let s := (s.setSlice m { x with disabling := false, enableAfter := false }).raise (209 + 2 * m)
    if x.enableAfter then s.mscEnableWrite m true else s
  else s

/-- An invalidation starts (R194). -/
def State.mscInvalidateStart (s : State) (m : Nat) : State :=
  if s.flag (R.MSC_STATUS m) F.MSC_STATUS_INV_BUSY then s
  else (s.setSlice m { s.slice m with sweep := some 0 }).setFld (R.MSC_STATUS m) F.MSC_STATUS_INV_BUSY 1

/-- One fabric cycle of an invalidation: one set (R194). -/
def State.mscSweepCycle (s : State) (m : Nat) : State :=
  let x := s.slice m
  match x.sweep with
  | some k => s.setSlice m { x with lines := Tab.clear x.lines fun j => j / 16 == k, sweep := some (min 4096 (k + 1)) }
  | none => s

/-- An invalidation completes (R194): the sets it has not reached are invalidated. -/
def State.mscInvalidated (s : State) (m : Nat) : State :=
  let x := s.slice m
  match x.sweep with
  | some k =>
    let s := s.setSlice m { x with lines := Tab.clear x.lines (fun j => decide (k ≤ j / 16)), sweep := none }
    ((s.setFld (R.MSC_STATUS m) F.MSC_STATUS_INV_BUSY 0).setFld (R.MSC_STATUS m) F.MSC_STATUS_STALE 0).raise (209 + 2 * m)
  | none => s

/-- The controller has fenced a pseudo-channel (R198): merging-buffer bytes destined for it are discarded. -/
def State.mscFenced (s : State) (m : Nat) : State :=
  let x := s.slice m
  let keep := fun (e : MergeEntry) =>
    let part := fun b =>
      let bs := (e.bytes.drop (64 * b)).take 64
      let p := s.blockPlace (lineBlock m e.line b)
      if s.pcFenced p.m p.pc then bs.map fun _ => none else bs
    { e with bytes := part 0 ++ part 1 }
  let lost := (x.merging.filter fun e => keep e != e).length
  if lost = 0 then s
  else
    let merging := (x.merging.map keep).filter fun e => e.bytes.any Option.isSome
    (((s.setSlice m { x with merging := merging }).bump (R.MSC_CNT_MISC m) F.MSC_CNT_MISC_MB_LOST lost).raise (209 + 2 *
      m)).mscRetry m

end Sys2Proof.Machine
end

