-- ==== Sys2Proof/Machine/Fabric.lean ====
section
/-!
DEFINITION. Accesses of this module's own memory: what a local address names (R54), and reads, writes and atomics of
stack and buffer memory by a requester, each block behind the owner check of R62.
-/
namespace Sys2Proof.Machine

/-- What a local address names (R54). -/
inductive Region where
  | stack
  | buffer
  | register
  | host
  | reserved
  deriving DecidableEq, Repr

/-- The local map (R54). -/
def regionOf (a : Nat) : Region :=
  if a < 0x16800000000 then .stack
  else if bufferBase ≤ a ∧ a < 0x1C180000000 then .buffer
  else if regBase ≤ a ∧ a < 0x1E010000000 then .register
  else if hostBase ≤ a ∧ a < 2 ^ 41 then .host
  else .reserved

/-- The requester of an access: its context, class and cache hint, and the stream that trains the prefetcher (R189). -/
structure Access where
  ctx : Nat
  cls : Nat
  hint : Nat
  stream : Nat
  deriving DecidableEq, Repr

/-- An upset of nothing. -/
def Upset.none : Upset := ⟨[], []⟩

/-- A run of bytes cut at multiples of `size`: address and length of each part. -/
def cutRun (size a len : Nat) : List (Nat × Nat) :=
  (unitsOf size a len).map fun u => (max a u, min (a + len) (u + size) - max a u)

/-- A read of this module's stack or buffer memory (R177, R128): its status and bytes. A read that ends with another
status than DONE or DATA_ERROR returns no bytes. `chk`: the owner check applies (R64). -/
def State.memRead (s : State) (q : Access) (a len : Nat) (chk : Bool) : Nat × List Byte × State :=
  if len = 0 then (scDONE, [], s)
  else
    match regionOf a with
    | .buffer =>
      if chk then s.sbRead a len q.ctx Upset.none
      else s.sbReadData 0 a len
    | .stack =>
      let (c, bs, s) := (cutRun 128 a len).foldl (fun (acc : Nat × List Byte × State) u =>
        let (c, bs, s) := acc.2.2.mscReadNow ⟨u.1, u.2, q.ctx, q.cls, q.hint, q.stream, 0⟩ chk
        (worse acc.1 c, acc.2.1 ++ bs, s)) (scDONE, [], s)
      (c, if c = scDONE ∨ c = scDATA_ERROR then bs else [], s)
    | _ => (scDESCRIPTOR_ERROR, [], s)

/-- A write of this module's stack or buffer memory; a byte that is none is not written. -/
def State.memWrite (s : State) (q : Access) (a : Nat) (data : List (Option Byte)) : Nat × State :=
  match regionOf a with
  | .buffer => if data.all Option.isNone then (scDONE, s) else s.sbWrite a data q.ctx Upset.none
  | .stack =>
    (splitUnits 128 a data).foldl (fun (acc : Nat × State) u =>
      let lead := u.2.takeWhile Option.isNone
      let body := ((u.2.drop lead.length).reverse.dropWhile Option.isNone).reverse
      let (c, s) := acc.2.mscWriteNow (u.1 + lead.length) body q.ctx q.cls
      (worse acc.1 c, s)) (scDONE, s)
  | _ => (scDESCRIPTOR_ERROR, s)

/-- An atomic of this module's memory (R133): only the shared buffer performs them. -/
def State.memAtomic (s : State) (q : Access) (a op size x y : Nat) : Nat × List Byte × State :=
  s.sbAtomic a op size x y q.ctx Upset.none

/-- The frame or the partition of a local address. -/
def unitOf (a : Nat) : Nat :=
  match regionOf a with
  | .stack => a / 2 ^ 31
  | .buffer => 1000 + (a - bufferBase) / 2 ^ 26
  | .register => 2000
  | .host => 2001
  | .reserved => 2002

/-- A run of bytes that stays within one frame, one partition, register space or the host window (R385). -/
def runInside (a len : Nat) : Bool :=
  regionOf a != .reserved && decide (a + len ≤ 2 ^ 41) && (len == 0 || unitOf a == unitOf (a + len - 1))

end Sys2Proof.Machine
end

