-- ==== Sys2Proof/Machine/Adt.lean ====
section
/-!
DEFINITION. The admission translators (03_addressing_contexts): owner entries, the walk of R74 over cached and read
tables, fault records, and range invalidations.
-/
namespace Sys2Proof.Machine

/-- The offsets of the owner entries. -/
def ownerOffset : OwnerTarget → Nat
  | .frame f => R.ADT_OWN_FRAME f.val
  | .part p => R.ADT_OWN_PART p.val

/-- An owner entry changes; the checkers use the old one until they have applied the change (R65). -/
def State.setOwner (s : State) (off : Nat) (w : Word) : State :=
  let s : State := if s.adt.stale.any fun e => e.1 == off then s else
    { s with adt := { s.adt with stale := Tab.put s.adt.stale off (s.reg off) } }
  (s.setReg off w).setFld R.ADT_OWN_STATUS F.ADT_OWN_STATUS_PENDING 1

/-- Every checker has applied the changes made so far (R65). -/
def State.ownersApplied (s : State) : State :=
  State.setFld { s with adt := { s.adt with stale := [] } } R.ADT_OWN_STATUS F.ADT_OWN_STATUS_PENDING 0

/-- The states of a context (R67). -/
def cxFREE := 0
def cxACTIVE := 1
def cxRETIRING := 2
def cxRETIRED := 3

/-- The state of a context (R67). -/
def State.ctxState (s : State) (c : Nat) : Nat := s.fld (R.ADT_CTX_STATUS c) F.ADT_CTX_STATUS_STATE

/-- The cache of a die's translator. -/
def State.cache (s : State) (d : Nat) : TranslatorCache := Tab.get (fun _ => ⟨[], []⟩) s.adt.caches d

/-- The state with that cache replaced. -/
def State.setCache (s : State) (d : Nat) (x : TranslatorCache) : State :=
  { s with adt := { s.adt with caches := Tab.set (fun _ => ⟨[], []⟩) s.adt.caches d x } }

/-- The admissions under way at a die, oldest first. -/
def State.admissions (s : State) (d : Nat) : List Admission := Tab.get (fun _ => []) s.adt.work d

/-- The state with those replaced. -/
def State.setAdmissions (s : State) (d : Nat) (l : List Admission) : State :=
  { s with adt := { s.adt with work := Tab.set (fun _ => []) s.adt.work d l } }

/-- An admission reaches its translator (R72). -/
def State.submit (s : State) (d : Nat) (w : Admission) : State := s.setAdmissions d (s.admissions d ++ [w])

/-- The admission afresh, with nothing read (R82). -/
def Admission.afresh (w : Admission) : Admission := { w with segs := none, found := [], reading := none, late := false }

/-- A segment of a set is valid (R69): words 0, 1 and 2, word 3 having been checked as it was read. -/
def segValid (g : Nat × Nat × Nat) : Bool :=
  let vbase := g.1 % 2 ^ 57
  let limit := g.2.1 % 2 ^ 26
  bit g.1 63 && g.1 / 2 ^ 57 % 32 == 0 && decide (limit ≠ 0) && g.2.1 / 2 ^ 26 == 0 && vbase % 2 ^ 31 == 0 &&
    decide (vbase + limit * 2 ^ 31 ≤ 2 ^ 57) && g.2.2 / 2 ^ 41 == 0 && g.2.2 % 64 == 0

/-- The segments of 512 bytes of the context table (R68); a set whose word 3 is not 0 is kept as an invalid one. -/
def parseSegs (bs : List Byte) : List (Nat × Nat × Nat) :=
  (List.range 16).map fun i =>
    let w := fun k => Word.ofBytes ((bs.drop (32 * i + 8 * k)).take 8)
    if w 3 = 0 then (w 0, w 1, w 2) else (0, 0, 0)

/-- The lowest valid segment that holds a page (R69): its number and the page's place in it. -/
def segFor (segs : List (Nat × Nat × Nat)) (page : Nat) : Option (Nat × (Nat × Nat × Nat)) :=
  (segs.zipIdx.find? fun e =>
    let vb := e.1.1 % 2 ^ 57 / 2 ^ 31
    segValid e.1 && decide (vb ≤ page ∧ page < vb + e.1.2.1 % 2 ^ 26)).map fun e => (e.2, e.1)

/-- A present page entry that breaks R70. -/
def entryMalformed (e : Nat) : Bool :=
  e / 2 ^ 47 % 2 ^ 9 != 0 || e % 2 ^ 31 != 0 || decide (720 ≤ e / 2 ^ 31 % 1024)

/-- Reasons of R81. -/
def frNOT_PRESENT := 0
def frWRITE_PROTECT := 1
def frNO_SEGMENT := 2
def frMALFORMED := 3

/-- How a walk stands. -/
inductive Walk where
  /-- It waits for a table read: 0 the segment set, 1 + page a page entry. -/
  | read (n : Nat)
  /-- A page faults (R74). -/
  | fault (reason page : Nat)
  /-- Every page of every operand is translated. -/
  | found
  deriving DecidableEq, Repr

/-- One page of the walk (R74), with the segments and pages known: none when it is translated. -/
def walkPage (segs : List (Nat × Nat × Nat)) (found : List PageFound) (page : Nat) (writes : Bool) : Option Walk :=
  match segFor segs page with
  | none => some (.fault frNO_SEGMENT page)
  | some (_, g) =>
    match found.find? fun f => f.page == page with
    | none => some (.read (1 + page))
    | some f =>
      if !bit f.entry 63 then some (.fault frNOT_PRESENT page)
      else if entryMalformed f.entry then some (.fault frMALFORMED page)
      else if writes && (!bit f.entry 62 || !bit g.1 62) then some (.fault frWRITE_PROTECT page)
      else none

/-- The pages of an operand. -/
def opPages (op : Nat × Nat × Bool) : List (Nat × Bool) :=
  (List.range (op.2.1 + 1 - op.1)).map fun i => (op.1 + i, op.2.2)

/-- How an admission's walk stands with what it has read (R74). -/
def Admission.walk (w : Admission) : Walk :=
  if w.ops.isEmpty then .found
  else
    match w.segs with
    | none => .read 0
    | some segs => ((w.ops.flatMap opPages).findSome? fun p => walkPage segs w.found p.1 p.2).getD .found

/-- A cache lookup for what a walk needs (R75): found entries become most recently used. -/
def State.cacheLookup (s : State) (d : Nat) (w : Admission) (n : Nat) : Option (Admission × State) :=
  let c := s.cache d
  if n = 0 then
    match c.sets.find? fun e => e.1 == w.ctx with
    | some e => some ({ w with segs := some e.2 }, s.setCache d { c with sets := e :: c.sets.filter fun x => x.1 != w.ctx })
    | none => none
  else
    match segFor (w.segs.getD []) (n - 1) with
    | none => none
    | some (i, g) =>
      match c.pages.find? fun e => e.ctx == w.ctx && e.seg == i && e.page == n - 1 with
      | some e => some ({ w with found := ⟨n - 1, e.entry, bit g.1 62⟩ :: w.found },
          s.setCache d { c with pages := e :: c.pages.filter fun x => x != e })
      | none => none

/-- Pages that a walk may look at, so that it ends. -/
def walkFuel (w : Admission) : Nat := 2 + (w.ops.map fun o => o.2.1 + 1 - o.1).sum

/-- The walk proceeds through the cache up to a table read, a fault or its end. -/
def State.walkCached (s : State) (d : Nat) : Nat → Admission → Walk × Admission × State
  | 0, w => (w.walk, w, s)
  | n + 1, w =>
    match w.walk with
    | .read k =>
      match s.cacheLookup d w k with
      | some (w, s) => State.walkCached s d n w
      | none => (.read k, w, s)
    | r => (r, w, s)

/-- Where a table read of an admission goes (R68, R70). -/
def State.tableAddr (s : State) (w : Admission) (n : Nat) : Nat × Nat :=
  if n = 0 then (s.fld R.ADT_CTX_TABLE F.ADT_CTX_TABLE_BASE * 4096 + 512 * w.ctx, 512)
  else
    match segFor (w.segs.getD []) (n - 1) with
    | some (_, g) => (g.2.2 + 8 * (n - 1 - g.1 % 2 ^ 57 / 2 ^ 31), 8)
    | none => (0, 8)

/-- What a table read brings (R75): the caches hold the least recently used no longer, and never a page entry that is
not present or malformed; what an admission under old entries reads is not cached (R87). -/
def State.tableFill (s : State) (d : Nat) (w : Admission) (n : Nat) (bs : List Byte) : Admission × State :=
  let c := s.cache d
  if n = 0 then
    let segs := parseSegs bs
    ({ w with segs := some segs, reading := none },
      if w.late then s else s.setCache d { c with sets := ((w.ctx, segs) :: c.sets).take 64 })
  else
    let e := Word.ofBytes bs
    match segFor (w.segs.getD []) (n - 1) with
    | none => ({ w with reading := none }, s)
    | some (i, g) =>
      let s := if bit e 63 && !entryMalformed e && !w.late then
        s.setCache d { c with pages := (⟨w.ctx, i, n - 1, e⟩ :: c.pages).take 4096 } else s
      ({ w with found := ⟨n - 1, e, bit g.1 62⟩ :: w.found, reading := none }, s)

/-- How an admission ends. -/
inductive Admitted where
  /-- It waits for a table read. -/
  | waits
  /-- Every page is translated: the pages with the module and frame of each (R73). -/
  | released (shadow : List (Nat × Nat × Nat))
  /-- It ends with a status (R67, R588). -/
  | ended (status : Nat)
  /-- A page faults (R74). -/
  | faulted (reason page : Nat)
  deriving DecidableEq, Repr

/-- The shadow of a walk (R73). -/
def Admission.shadow (w : Admission) : List (Nat × Nat × Nat) :=
  w.found.map fun f => (f.page, f.entry / 2 ^ 41 % 64, f.entry / 2 ^ 31 % 1024)

/-- The oldest admission of a die goes on from what it has read; one that has ended leaves the translator. -/
def State.admitGo (s : State) (d : Nat) (w : Admission) (rest : List Admission) : Admitted × Admission × State :=
  let (r, w, s) := s.walkCached d (walkFuel w) w
  match r with
  | .read n => (.waits, w, s.setAdmissions d ({ w with reading := some n } :: rest))
  | .fault reason page => (.faulted reason page, w, s.setAdmissions d rest)
  | .found => (.released w.shadow, w, s.setAdmissions d rest)

/-- ADMIT of R74: the context is checked and the walk begins. -/
def State.admitStart (s : State) (d : Nat) : Option (Admitted × Admission × State) :=
  match s.admissions d with
  | [] => none
  | w :: rest =>
    if w.reading.isSome then none
    else
      let s := s.bump R.ADT_CNT F.ADT_CNT_ADMISSIONS
      if s.ctxState w.ctx ≠ cxACTIVE then some (.ended scCONTEXT_REJECT, w, s.setAdmissions d rest)
      else some (s.admitGo d w rest)

/-- The table read of a die's oldest admission returns (R588). Table reads are not checked against the owner tables
(R64), carry the class of the requester (R339), and allocate no line. -/
def State.admitRead (s : State) (d : Nat) : Option (Admitted × Admission × State) :=
  match s.admissions d with
  | [] => none
  | w :: rest =>
    match w.reading with
    | none => none
    | some n =>
      let (a, len) := s.tableAddr w n
      let (c, bs, s) := s.memRead ⟨0, w.cls, 2, 400000 + d⟩ a len false
      if c ≠ scDONE then some (.ended c, w, s.setAdmissions d rest)
      else
        let (w, s) := s.tableFill d w n bs
        some (s.admitGo d w rest)

/-- A FAULT_ID that no outstanding fault has, from a number on (R81). -/
def freshId (used : List Nat) : Nat → Nat → Nat
  | 0, n => n % 65536
  | k + 1, n => if used.contains (n % 65536) then freshId used k (n + 1) else n % 65536

/-- A fault record (R81). -/
def faultRecord (w : Admission) (id reason page beat : Nat) : List Byte :=
  let (typ, unit, queue, index) := w.ident
  Word.bytes 8 (page * 2 ^ 31) ++
    Word.bytes 8 (id * 2 ^ 48 + w.ctx * 2 ^ 36 + reason * 2 ^ 32 + typ * 2 ^ 28 + unit * 2 ^ 20 + queue * 2 ^ 16) ++
    Word.bytes 8 beat ++ Word.bytes 8 index

/-- The fault FIFO of a die. -/
def State.faultFifo (s : State) (d : Nat) : List FaultEntry := Tab.get (fun _ => []) s.adt.fifos d

/-- A record enters its die's FIFO, or waits for room; the die's level source is asserted when it was empty (R80). -/
def State.pushFault (s : State) (d : Nat) (e : FaultEntry) : State :=
  let l := s.faultFifo d
  if l.length < 64 then
    let s : State := { s with adt := { s.adt with fifos := Tab.set (fun _ => []) s.adt.fifos d (l ++ [e]) } }
    if l.isEmpty then s.raise (736 + d) else s
  else { s with adt := { s.adt with overflow := s.adt.overflow ++ [(d, e)] } }

/-- A requester faults (R77 to R80): in suspend mode it is switched out and its fault is outstanding, and the answer is
true; in fail mode nothing is recorded. -/
def State.recordFault (s : State) (d : Nat) (w : Admission) (reason page : Nat) : Bool × State :=
  let s := s.bump R.ADT_CNT F.ADT_CNT_FAULTS
  if s.flag (R.ADT_CTX_STATUS w.ctx) F.ADT_CTX_STATUS_FAULT_MODE then (false, s)
  else
    let id := freshId (s.adt.faults.map FaultEntry.id) 65536 s.adt.nextId
    let e : FaultEntry := ⟨id, w.afresh, faultRecord w id reason page s.beatNow⟩
    let s : State := { s with adt := { s.adt with faults := s.adt.faults ++ [e], nextId := (id + 1) % 65536 } }
    let r := R.ADT_CTX_STATUS w.ctx
    (true, (s.setFld r F.ADT_CTX_STATUS_SUSPENDED (s.fld r F.ADT_CTX_STATUS_SUSPENDED + 1)).pushFault d e)

/-- An outstanding fault ends (R82). -/
def State.endFault (s : State) (e : FaultEntry) : State :=
  let r := R.ADT_CTX_STATUS e.work.ctx
  State.setFld { s with adt := { s.adt with faults := s.adt.faults.erase e } } r F.ADT_CTX_STATUS_SUSPENDED
    (s.fld r F.ADT_CTX_STATUS_SUSPENDED - 1)

/-- The oldest record of a die leaves its FIFO; one that waited for room enters; an empty FIFO ends its source. -/
def State.popFault (s : State) (d : Nat) : State :=
  let l := (s.faultFifo d).tail
  let next := s.adt.overflow.find? fun e => e.1 == d
  let l := match next with | some e => l ++ [e.2] | none => l
  let waiting := match next with | some e => s.adt.overflow.erase e | none => s.adt.overflow
  let s : State := { s with adt := { s.adt with fifos := Tab.set (fun _ => []) s.adt.fifos d l, overflow := waiting } }
  if l.isEmpty then s.lower (736 + d) else s

/-- The address of the next slot of the host fault ring. -/
def State.faultSlot (s : State) : Nat :=
  let size := 2 ^ s.fld R.ADT_FAULT_RING F.ADT_FAULT_RING_SIZE
  s.fld R.ADT_FAULT_RING F.ADT_FAULT_RING_BASE * 32 + 32 * (s.fld R.ADT_FAULT_HEAD F.ADT_FAULT_HEAD_HEAD % size)

/-- The host fault ring has space (R80). -/
def State.faultSpace (s : State) : Bool :=
  let z := s.fld R.ADT_FAULT_RING F.ADT_FAULT_RING_SIZE
  let used := (s.fld R.ADT_FAULT_HEAD F.ADT_FAULT_HEAD_HEAD + 65536 - s.fld R.ADT_FAULT_TAIL F.ADT_FAULT_TAIL_TAIL) % 65536
  decide (z ≠ 0) && decide (used < 2 ^ z)

/-- A pod address that this module serves from its own memory (R55). -/
def State.isLocal (s : State) (pa : Nat) : Bool := pa / 2 ^ 41 == s.ownId

/-- SCH's write of the oldest record of a die goes out, under context 0 (R80). -/
def State.faultWrite (s : State) (d : Nat) : State :=
  match s.faultFifo d with
  | [] => s
  | e :: _ =>
    let pa := s.faultSlot
    let put := fun (s : State) (r : RecordWrite) => ({ s with adt := { s.adt with writing := some (d, r) } } : State)
    if s.isLocal pa && regionOf (pa % 2 ^ 41) != .host then
      let (c, s) := s.memWrite ⟨0, s.fwClass, 0, 300011⟩ (pa % 2 ^ 41) (allBytes e.record)
      put s (.answered c)
    else
      State.sendRequest (put s .out) { Husk.zero with
        typ := Husk.WR, dest := pa / 2 ^ 41, cls := s.fwClass, len := 32, rid := Config.packageRid.toNat,
        addr := pa % 2 ^ 41, payload := e.record } (.faultRecord d)

/-- The next die of the round-robin that has a record (R80). -/
def State.nextFaultDie (s : State) : Option Nat :=
  ((List.range 8).map fun i => (s.adt.turn + 1 + i) % 8).find? fun d => !(s.faultFifo d).isEmpty

/-- A translation of a context's page is covered by an invalidation (R84). -/
def Invalidation.covers (v : Invalidation) (ctx page : Nat) : Bool :=
  v.ctx == ctx && (v.all || decide (v.page ≤ page ∧ page < v.page + v.pages))

/-- The cached entries that a command covers are dropped at every translator (R75, R85). -/
def State.dropCached (s : State) (v : Invalidation) : State :=
  (List.range 8).foldl (fun s d =>
    let c := s.cache d
    s.setCache d ⟨if v.all || decide (0 < v.pages) then c.sets.filter fun e => e.1 != v.ctx else c.sets,
      c.pages.filter fun e => !v.covers e.ctx e.page⟩) s

/-- Admissions of its context under way finish with the old entries (R87). -/
def State.markLate (s : State) (v : Invalidation) : State :=
  { s with adt := { s.adt with work := s.adt.work.map fun e =>
      (e.1, e.2.map fun w => { w with
        late := w.late || (w.reading.isSome && w.ctx == v.ctx && (v.all || decide (0 < v.pages))) }) } }

/-- A command touches nothing (R84). -/
def Invalidation.empty (v : Invalidation) : Bool := !v.all && v.pages == 0

/-- The number of queued commands, as QUEUED shows it. -/
def State.showQueued (s : State) : State :=
  s.setFld R.ADT_INV_STATUS F.ADT_INV_STATUS_QUEUED (s.adt.invals.filter fun v => v.seq.isSome).length

/-- The command at the head completes (R85, R90). -/
def State.invalDone (s : State) (v : Invalidation) (rest : List Invalidation) : State :=
  let s := State.showQueued { s with adt := { s.adt with invals := rest } }
  match v.seq with
  | some q => ((s.setFld R.ADT_INV_STATUS F.ADT_INV_STATUS_DONE_SEQ q).bump R.ADT_CNT F.ADT_CNT_INVALS).raise 744
  | none => s

/-- Commands at the head that touch nothing complete at once (R84). -/
def State.invalPump (s : State) : Nat → State
  | 0 => s
  | n + 1 =>
    match s.adt.invals with
    | v :: rest => if v.empty && !v.running then State.invalPump (s.invalDone v rest) n else s
    | [] => s

/-- A range invalidation is enqueued (R84). -/
def State.invalEnqueue (s : State) (v : Word) : State :=
  let st := R.ADT_INV_STATUS
  if 16 ≤ s.fld st F.ADT_INV_STATUS_QUEUED then s.setFld st F.ADT_INV_STATUS_OVERFLOW 1
  else
    let seq := (s.fld st F.ADT_INV_STATUS_ISSUED_SEQ + 1) % 65536
    let x : Invalidation := ⟨F.ADT_INV_ARG1_CTX.of v, F.ADT_INV_ARG1_ALL.isSet v,
      s.fld R.ADT_INV_ARG0 F.ADT_INV_ARG0_PAGE, F.ADT_INV_ARG1_PAGES.of v, some seq, [], false⟩
    let s : State := { s with adt := { s.adt with invals := s.adt.invals ++ [x] } }
    ((s.setFld st F.ADT_INV_STATUS_ISSUED_SEQ seq).showQueued).invalPump 17

/-- The command at the head starts (R85): the translators drop what it covers, and the units that hold a covered
translation are to acknowledge. -/
def State.invalRun (s : State) (holders : Invalidation → List Nat) : State :=
  match s.adt.invals with
  | [] => s
  | v :: rest =>
    if v.running then s
    else
      let s := (s.dropCached v).markLate v
      let us := holders v
      if us.isEmpty then (s.invalDone v rest).invalPump 17
      else { s with adt := { s.adt with invals := { v with running := true, waiting := us } :: rest } }

/-- A unit acknowledges the running command (R86). -/
def State.invalAck (s : State) (u : Nat) : State :=
  match s.adt.invals with
  | v :: rest =>
    if v.running then
      let w := v.waiting.filter fun x => x != u
      if w.isEmpty then (s.invalDone v rest).invalPump 17
      else { s with adt := { s.adt with invals := { v with waiting := w } :: rest } }
    else s
  | [] => s

/-- ACTIVATE (R92): accepted from FREE and RETIRED; context 0 is always ACTIVE (R67). -/
def State.ctxActivate (s : State) (c : Nat) : State :=
  if c ≠ 0 ∧ (s.ctxState c = cxFREE ∨ s.ctxState c = cxRETIRED) then
    (s.setFld (R.ADT_CTX_STATUS c) F.ADT_CTX_STATUS_STATE cxACTIVE).dropCached ⟨c, true, 0, 0, none, [], false⟩
  else s

/-- The owner entries of a context (R90). -/
def State.ownedBy (s : State) (c : Nat) : List Nat :=
  (s.regs.filter fun e =>
    (R.ADT_OWN_FRAME 0 ≤ e.1 && e.1 < R.ADT_OWN_PART 96) && F.ADT_OWN_PART_OWNER.of e.2 == c).map Prod.fst

/-- The next step of a RETIRE whose invalidation is over (R90): its owner entries are cleared, and once every checker
has applied that the context is RETIRED. -/
def State.retireStep (s : State) (c : Nat) : State :=
  if s.ctxState c ≠ cxRETIRING ∨ (s.adt.invals.any fun v => v.seq.isNone && v.ctx == c) then s
  else
    let l := s.ownedBy c
    if !l.isEmpty then
      l.foldl (fun s off => s.setOwner off
        (Reg.withBits (Reg.withBits (s.reg off) 17 16 0) 11 0 0)) s
    else if s.flag R.ADT_OWN_STATUS F.ADT_OWN_STATUS_PENDING then s
    else (s.setFld (R.ADT_CTX_STATUS c) F.ADT_CTX_STATUS_STATE cxRETIRED).raise 746

end Sys2Proof.Machine
end

