-- ==== Sys2Proof/Machine/Tok.lean ====
section
/-!
DEFINITION. The token scoreboards (R247 to R249) and the two token commands of DSP_TOK_CMD (R263).
-/
namespace Sys2Proof.Machine

/-- A wait on token (i, g) of die d is satisfied (R247). -/
def State.tokPresent (s : State) (d i g : Nat) : Bool :=
  s.fld (R.DSP_TOK d i) F.DSP_TOK_GEN == g && s.flag (R.DSP_TOK d i) F.DSP_TOK_PRESENT

/-- A token entry takes a generation and a PRESENT bit. -/
def State.setTok (s : State) (d i g p : Nat) : State :=
  (s.setFld (R.DSP_TOK d i) F.DSP_TOK_GEN g).setFld (R.DSP_TOK d i) F.DSP_TOK_PRESENT p

/-- A post of token (i, g) to the scoreboard of die d (R248). -/
def State.tokPost (s : State) (d i g : Nat) : State :=
  let r := R.DSP_TOK d i
  let gen := s.fld r F.DSP_TOK_GEN
  let c := R.DSP_TOK_CNT d
  if gen = g then
    if s.flag r F.DSP_TOK_PRESENT then s.bump c F.DSP_TOK_CNT_DUP
    else (s.setFld r F.DSP_TOK_PRESENT 1).bump c F.DSP_TOK_CNT_POSTS
  else if gen = (g + 15) % 16 then (s.setTok d i g 1).bump c F.DSP_TOK_CNT_POSTS
  else (s.bump c F.DSP_TOK_CNT_STALE).raise (545 + 8 * d)

/-- A write of DSP_TOK_POST (R249). -/
def State.tokPostWrite (s : State) (d : Nat) (v : Word) : State :=
  s.tokPost d (F.DSP_TOK_POST_INDEX.of v) (F.DSP_TOK_POST_GEN.of v)

/-- DSP_TOK_CMD with CMD CLEAR (R263). -/
def State.tokClear (s : State) (d : Nat) (v : Word) : State :=
  if F.DSP_TOK_CMD_CMD.of v = 1 then s.setFld (R.DSP_TOK d (F.DSP_TOK_CMD_INDEX.of v)) F.DSP_TOK_PRESENT 0 else s

/-- DSP_TOK_CMD with CMD SET (R263). -/
def State.tokSet (s : State) (d : Nat) (v : Word) : State :=
  if F.DSP_TOK_CMD_CMD.of v = 2 then
    s.setTok d (F.DSP_TOK_CMD_INDEX.of v) (F.DSP_TOK_CMD_GEN.of v) (F.DSP_TOK_CMD_PRESENT.of v)
  else s

end Sys2Proof.Machine
end

