-- ==== Sys2Proof/Machine/Queue.lean ====
section
/-!
DEFINITION. What data-mover queues and job rings share (R203 to R208, R221, R222, R227, R228, R244): their registers and
counts, the doorbell, enabling, fetches, and the records that are written in ring order. Queues and rings are numbered
together: queue q of mover g is 16·g + q, job ring r of die d is 4,096 + 32·d + r.
-/
namespace Sys2Proof.Machine

/-- The number of a mover's queue. -/
def queueKey (g q : Nat) : Nat := 16 * g + q

/-- The number of a die's job ring. -/
def jobKey (d r : Nat) : Nat := 4096 + 32 * d + r

/-- Whether a number is that of a job ring. -/
def isJob (k : Nat) : Bool := decide (4096 ≤ k)

/-- The mover of a queue, and the die of a queue or ring. -/
def moverOf (k : Nat) : Nat := k / 16
def dieOf (k : Nat) : Nat := if isJob k then (k - 4096) / 32 else k / 512

/-- The registers of a queue or ring (R232, R263). -/
def qRING (k : Nat) : Nat :=
  if isJob k then R.DSP_JR_RING (dieOf k) ((k - 4096) % 32) else R.DMV_Q_RING (k / 16) (k % 16)
def qCPL (k : Nat) : Nat := qRING k + 0x8
def qCFG (k : Nat) : Nat := qRING k + 0x10
def qTAIL (k : Nat) : Nat := qRING k + 0x18
def qHEAD (k : Nat) : Nat := qRING k + 0x20
def qCTL (k : Nat) : Nat := qRING k + 0x28
def qSTATUS (k : Nat) : Nat := qRING k + 0x30

/-- The states of R227. -/
def qsDISABLED := 0
def qsRUNNING := 1
def qsSUSPENDED := 2
def qsERROR := 3
def qsLOST := 4

/-- The reasons of an ERROR (R232). -/
def qrFETCH_REJECT := 1
def qrRECORD_FAIL := 2
def qrTAIL_RANGE := 3
def qrRING_ADDR := 4

/-- A queue that nothing has used. -/
def RingState.idle : RingState := ⟨0, none, false, [], false, none, false⟩

/-- What a queue or ring holds beside its registers. -/
def State.ring (s : State) (k : Nat) : RingState := Tab.get (fun _ => RingState.idle) s.movers.rings k

/-- The state with that replaced. -/
def State.setRing (s : State) (k : Nat) (x : RingState) : State :=
  { s with movers := { s.movers with rings := Tab.set (fun _ => RingState.idle) s.movers.rings k x } }

/-- The state of a queue or ring. -/
def State.qState (s : State) (k : Nat) : Nat := s.fld (qSTATUS k) F.DMV_Q_STATUS_STATE

/-- The state with that changed. -/
def State.setQState (s : State) (k st : Nat) : State := s.setFld (qSTATUS k) F.DMV_Q_STATUS_STATE st

/-- SIZE, context, class and the three counts. -/
def State.qSize (s : State) (k : Nat) : Nat := s.fld (qRING k) F.DMV_Q_RING_SIZE
def State.qCtx (s : State) (k : Nat) : Nat := s.fld (qCFG k) F.DMV_Q_CFG_CTX
def State.qClass (s : State) (k : Nat) : Nat := s.fld (qCFG k) F.DMV_Q_CFG_CLASS
def State.qTail (s : State) (k : Nat) : Nat := s.fld (qTAIL k) F.DMV_Q_TAIL_TAIL
def State.qStarted (s : State) (k : Nat) : Nat := s.fld (qHEAD k) F.DMV_Q_HEAD_STARTED
def State.qDone (s : State) (k : Nat) : Nat := s.fld (qHEAD k) F.DMV_Q_HEAD_DONE

/-- The slot of an item's number (R204). -/
def State.qSlot (s : State) (k number : Nat) : Nat := number % 2 ^ s.qSize k

/-- The next number, modulo 2^32. -/
def nextNumber (n : Nat) : Nat := (n + 1) % 2 ^ 32

/-- The mover that runs a queue (R229). -/
def State.runsOn (s : State) (k : Nat) : Nat := s.fld (qSTATUS k) F.DMV_Q_STATUS_RUNS_ON

/-- The source that a queue's or ring's troubles raise (R231, R261). -/
def ringSource (k : Nat) : Nat := if isJob k then 544 + 8 * dieOf k else 256 + moverOf k

/-- A queue or ring enters ERROR (R208). -/
def State.qError (s : State) (k reason : Nat) : State :=
  ((s.setQState k qsERROR).setFld (qSTATUS k) F.DMV_Q_STATUS_REASON reason).raise (ringSource k)

/-- The requester of a queue's own accesses (R202). -/
def State.qAccess (s : State) (k hint : Nat) : Access := ⟨s.qCtx k, s.qClass k, hint, k⟩

/-- The requester identity of a queue, or of the job that an engine runs for a ring (R381). -/
def queueRid (k : Nat) : Nat := 2048 * (k / 512) + k % 512

/-- The identity under which a queue's or ring's fetches and records go out; for a ring it is the package's own. -/
def ringRid (k : Nat) : Nat := if isJob k then Config.packageRid.toNat else queueRid k

/-- The pod address of an item, and of a record. -/
def State.itemAddr (s : State) (k number : Nat) : Nat :=
  if isJob k then s.fld (qRING k) F.DSP_JR_RING_BASE * 128 + 128 * s.qSlot k number
  else s.fld (qRING k) F.DMV_Q_RING_BASE * 64 + 64 * s.qSlot k number
def State.recordAddr (s : State) (k number : Nat) : Nat := s.fld (qCPL k) F.DMV_Q_CPL_BASE * 32 + 32 * s.qSlot k number

/-- The bytes of an item. -/
def itemBytes (k : Nat) : Nat := if isJob k then 128 else 64

/-- A pod address that the fabric of this module serves, and not over Thegief. -/
def State.inHouse (s : State) (pa : Nat) : Bool := s.isLocal pa && regionOf (pa % 2 ^ 41) != .host

/-- Whether a ring of so many bytes may lie at a pod address (R203): in this module's own shared buffer, where none of
it is absent (R506), or in the host window of the host-bridge module. -/
def State.ringAllowed (s : State) (pa bytes : Nat) : Bool :=
  let a := pa % 2 ^ 41
  if s.isLocal pa && regionOf a == .buffer then
    regionOf (a + bytes - 1) == .buffer && !s.sbAbsent a && !s.sbAbsent (a + bytes - 1)
  else regionOf a == .host && s.bridge == some (pa / 2 ^ 41) && decide (a + bytes ≤ 2 ^ 41)

/-- Both rings of a queue stand where R203 allows. -/
def State.ringsAllowed (s : State) (k : Nat) : Bool :=
  s.ringAllowed (s.itemAddr k 0) (itemBytes k * 2 ^ s.qSize k) && s.ringAllowed (s.recordAddr k 0) (32 * 2 ^ s.qSize k)

/-- DSP_STATUS.FIFO shows the doorbells that the dispatcher's FIFO holds back (R244). -/
def State.showFifo (s : State) (k : Nat) : State :=
  if isJob k then
    let d := dieOf k
    s.setFld (R.DSP_STATUS d) F.DSP_STATUS_FIFO
      ((List.range 32).filter fun r => s.qState (jobKey d r) == qsRUNNING &&
        (s.ring (jobKey d r)).known != s.qTail (jobKey d r)).length
  else s

/-- The record of an item (R221, R222, R253). -/
def State.recordBytes (s : State) (k : Nat) (r : RecordDue) : List Byte :=
  let phase := 1 - r.number / 2 ^ s.qSize k % 2
  Word.bytes 8 (phase * 2 ^ 63 + r.status * 2 ^ 48 + s.qSlot k r.number * 2 ^ 32 + r.user % 2 ^ 32) ++
    Word.bytes 8 r.detail ++ Word.bytes 8 (r.flags * 2 ^ 56 + r.bytes % 2 ^ 56) ++
    Word.bytes 8 (r.unit * 2 ^ 56 + s.beatNow)

/-- The due record of a number leaves the list. -/
def State.dropDue (s : State) (k number : Nat) : State :=
  s.setRing k { s.ring k with due := (s.ring k).due.filter (fun r => r.number != number), writing := false }

/-- DONE advances past a record. -/
def State.doneNext (s : State) (k : Nat) : State :=
  s.setFld (qHEAD k) F.DMV_Q_HEAD_DONE (nextNumber (s.qDone k))

/-- A record written by a mover counts as DONE or as FAILED (R232). -/
def State.countRecord (s : State) (k : Nat) (r : RecordDue) : State :=
  if isJob k then s
  else s.bump (R.DMV_CNT_DESC r.unit) (if r.status = scDONE then F.DMV_CNT_DESC_DONE else F.DMV_CNT_DESC_FAILED)

/-- An ABORTED record counts in the quiesce under way (R454, R561). -/
def State.countAborted (s : State) (r : RecordDue) : State :=
  match s.fw.quiesce with
  | some (m, n, w) =>
    if r.status = scABORTED then { s with fw := { s.fw with quiesce := some (m, n + 1, w) } } else s
  | none => s

/-- A record is visible: DONE advances, the tokens of a job that is DONE are posted (R254), and the queue signals its
host vector (R224). -/
def State.recordVisible (s : State) (k : Nat) (r : RecordDue) : State :=
  let s := (((s.dropDue k r.number).doneNext k).countRecord k r).countAborted r
  let s := if r.status = scDONE then r.posts.foldl (fun s p => s.tokPost p.1 p.2.1 p.2.2) s else s
  if r.irq || (s.flag (qCFG k) F.DMV_Q_CFG_IRQ_ERR && decide (r.status ≠ scDONE)) then
    s.hvTrigger (s.fld (qCFG k) F.DMV_Q_CFG_VECTOR)
  else s

/-- A record write fails: the queue enters ERROR (R208); under a reset the record is lost (R562). -/
def State.recordFailed (s : State) (k : Nat) (r : RecordDue) : State :=
  if (s.ring k).resetting then (s.dropDue k r.number).doneNext k
  else (s.setRing k { s.ring k with writing := false }).qError k qrRECORD_FAIL

/-- Whether the record that comes next may be written. -/
def State.recordReady (s : State) (k : Nat) : Option RecordDue :=
  let x := s.ring k
  if x.writing || (s.qState k == qsERROR && s.fld (qSTATUS k) F.DMV_Q_STATUS_REASON == qrRECORD_FAIL && !x.resetting)
  then none
  else x.due.find? fun r => r.number == s.qDone k

/-- The records that are due are written in ring order (R104), the host's over Thegief one at a time. -/
def State.recordPump : Nat → State → Nat → State
  | 0, s, _ => s
  | n + 1, s, k =>
    match s.recordReady k with
    | none => s
    | some r =>
      let pa := s.recordAddr k r.number
      let bs := s.recordBytes k r
      if s.inHouse pa then
        let (c, s) := s.memWrite (s.qAccess k 0) (pa % 2 ^ 41) (allBytes bs)
        State.recordPump n (if c = scDONE then s.recordVisible k r else s.recordFailed k r) k
      else
        (s.setRing k { s.ring k with writing := true }).sendRequest { Husk.zero with
          typ := Husk.WR, dest := pa / 2 ^ 41, cls := s.qClass k, len := 32, rid := ringRid k, addr := pa % 2 ^ 41,
          ctx := s.qCtx k, payload := bs } (.record k)

/-- A reset whose drain has ended (R228, R258): the counts equal TAIL, EN and RESET read 0, and the queue is
DISABLED, but for a LOST one. -/
def State.resetFinish (s : State) (k : Nat) : State :=
  let x := s.ring k
  if x.resetting && s.qStarted k == s.qDone k && x.due.isEmpty && !x.writing && !x.fetching then
    let t := s.qTail k
    let s := s.setRing k { RingState.idle with known := t }
    let s := ((s.setFld (qHEAD k) F.DMV_Q_HEAD_STARTED t).setFld (qHEAD k) F.DMV_Q_HEAD_DONE t).setReg (qCTL k) 0
    (if s.qState k = qsLOST then s
      else (s.setQState k qsDISABLED).setFld (qSTATUS k) F.DMV_Q_STATUS_REASON 0).showFifo k
  else s

/-- The due records are written as far as they may be. -/
def State.records (s : State) (k : Nat) : State := (s.recordPump ((s.ring k).due.length + 1) k).resetFinish k

/-- A record becomes due (R221). -/
def State.recordDue (s : State) (k : Nat) (r : RecordDue) : State :=
  (s.setRing k { s.ring k with due := (s.ring k).due ++ [r] }).records k

/-- The response to a record write that went over Thegief. -/
def State.recordAnswer (s : State) (k status : Nat) : State :=
  match (s.ring k).due.find? fun r => r.number == s.qDone k with
  | some r => (if status = scDONE then s.recordVisible k r else s.recordFailed k r).records k
  | none => s

/-- STARTED advances. -/
def State.startNext (s : State) (k : Nat) : State :=
  s.setFld (qHEAD k) F.DMV_Q_HEAD_STARTED (nextNumber (s.qStarted k))

/-- A record for an item that was never fetched, or whose fetch failed: USER as given, DETAIL 0. -/
def RecordDue.bare (number status user unit : Nat) : RecordDue := ⟨number, status, user, 0, 0, 0, unit, false, []⟩

/-- The unit that a bare record of a queue or ring names. -/
def State.bareUnit (s : State) (k : Nat) : Nat := if isJob k then 0xFF else s.runsOn k

/-- The TAIL that a queue may start up to: what the doorbell FIFO has handed on, or the TAIL at which a quiesce stops
it (R454). -/
def State.startLimit (s : State) (k : Nat) : Nat := ((s.ring k).limit).getD (s.ring k).known

/-- A queue or ring that may fetch its next item (R207). -/
def State.mayFetch (s : State) (k : Nat) : Bool :=
  s.topState == stREADY && s.qState k == qsRUNNING && !(s.ring k).resetting && (s.ring k).fetched.isNone &&
    !(s.ring k).fetching && s.qStarted k != s.startLimit k

/-- The words of a fetched item. -/
def wordsOf (bs : List Byte) : List Nat :=
  (List.range (bs.length / 8)).map fun i => Word.ofBytes ((bs.drop (8 * i)).take 8)

/-- A fetch has returned (R208). -/
def State.fetchAnswer (s : State) (k status : Nat) (bs : List Byte) : State :=
  let s := s.setRing k { s.ring k with fetching := false }
  if (s.ring k).resetting then s.resetFinish k
  else if s.qState k ≠ qsRUNNING then s
  else if status = scDONE then s.setRing k { s.ring k with fetched := some (wordsOf bs) }
  else if status = scCONTEXT_REJECT then s.qError k qrFETCH_REJECT
  else (s.startNext k).recordDue k (RecordDue.bare (s.qStarted k) status 0 (s.bareUnit k))

/-- The bytes read by a mover count (R232). -/
def State.countRead (s : State) (g n : Nat) : State := s.bump (R.DMV_CNT_RD g) F.DMV_CNT_RD_BYTES n

/-- A queue or ring fetches its next item under its own context (R203). -/
def State.fetchItem (s : State) (k : Nat) : State :=
  let pa := s.itemAddr k (s.qStarted k)
  let n := itemBytes k
  let s := if isJob k then s else s.countRead (s.runsOn k) n
  if s.inHouse pa then
    let (c, bs, s) := s.memRead (s.qAccess k 0) (pa % 2 ^ 41) n true
    s.fetchAnswer k c bs
  else
    (s.setRing k { s.ring k with fetching := true }).sendRequest { Husk.zero with
      typ := Husk.RD, dest := pa / 2 ^ 41, cls := s.qClass k, len := n, rid := ringRid k, addr := pa % 2 ^ 41,
      ctx := s.qCtx k } (.fetch k)

/-- The USER of an item that no mover will fetch, for its UNIT_LOST record (R229): it stands in the ring. The spec does
not say that a ring in the host window is read for it, nor what a read that fails gives: then it is not known. -/
def State.lostUser (s : State) (k : Nat) : Nat × State :=
  let pa := s.itemAddr k (s.qStarted k)
  if s.inHouse pa then
    let (c, bs, s) := s.memRead (s.qAccess k 0) (pa % 2 ^ 41) (itemBytes k) true
    if c = scDONE then (Word.ofBytes (bs.take 4), s) else s.freeNat (2 ^ 32)
  else s.freeNat (2 ^ 32)

/-- UNIT_LOST records for every item of a LOST queue up to a TAIL (R229). -/
def State.lostRecords : Nat → State → Nat → Nat → State
  | 0, s, _, _ => s
  | n + 1, s, k, unit =>
    if s.qStarted k = s.qTail k then s
    else
      let (u, s) := s.lostUser k
      let number := s.qStarted k
      State.lostRecords n ((s.startNext k).recordDue k (RecordDue.bare number scUNIT_LOST u unit)) k unit

/-- How many items stand between DONE and a TAIL (R205). -/
def State.qBacklog (s : State) (k tail : Nat) : Nat := (tail + 2 ^ 32 - s.qDone k) % 2 ^ 32

/-- A write of TAIL, the doorbell (R205, R206, R244). -/
def State.doorbell (s : State) (k : Nat) (v : Word) : State :=
  let t := F.DMV_Q_TAIL_TAIL.of v
  if t = s.qTail k then s
  else
    let past := decide (2 ^ s.qSize k < s.qBacklog k t)
    let s := s.setFld (qTAIL k) F.DMV_Q_TAIL_TAIL t
    let st := s.qState k
    if st = qsRUNNING ∨ st = qsSUSPENDED then
      if past then s.qError k qrTAIL_RANGE
      else (if s.schRestarts then s else s.setRing k { s.ring k with known := t }).showFifo k
    else if st = qsLOST ∧ ¬ isJob k ∧ s.fld (R.DMV_STATUS (moverOf k)) F.DMV_STATUS_STATE = 1 ∧ ¬ past then
      s.lostRecords (2 ^ s.qSize k) k (moverOf k)
    else s

/-- A write of 1 to EN (R208, R232, R506): discarded in ERROR, in LOST and with SIZE 0. -/
def State.qEnable (s : State) (k : Nat) : State :=
  let st := s.qState k
  if s.flag (qCTL k) F.DMV_Q_CTL_EN || st == qsERROR || st == qsLOST || s.qSize k == 0 || (s.ring k).resetting then s
  else
    let s := s.setFld (qCTL k) F.DMV_Q_CTL_EN 1
    if s.ringsAllowed k then (s.setQState k qsRUNNING).setRing k { s.ring k with known := s.qTail k }
    else s.qError k qrRING_ADDR

/-- A write of 0 to EN (R232): no new starts; the descriptors in progress complete normally. -/
def State.qDisable (s : State) (k : Nat) : State :=
  let st := s.qState k
  let s := s.setFld (qCTL k) F.DMV_Q_CTL_EN 0
  if st = qsRUNNING then (s.setQState k qsDISABLED).setRing k { s.ring k with fetched := none } else s

end Sys2Proof.Machine
end

