-- ==== Sys2Proof/Machine/Desc.lean ====
section
/-!
DEFINITION. Data-mover descriptors (R209 to R220): their fields, the checks of R211, the bounding ranges of R219, and
the runs of bytes that they move, in element order.
-/
namespace Sys2Proof.Machine

/-- A field of a descriptor's or job's words. -/
def wordField (ws : List Nat) (w hi lo : Nat) : Nat := Word.slice (ws.getD w 0) hi lo

/-- The types of R209. -/
def dtLINEAR := 1
def dtTILE2D := 2
def dtTILE3D := 3
def dtGATHER := 4
def dtSCATTER := 5
def dtMULTICAST := 6
def dtBARRIER := 7

/-- The fields of word 0 (R209). -/
def dType (ws : List Nat) : Nat := wordField ws 0 63 60
def dFence (ws : List Nat) : Nat := wordField ws 0 59 57
def dOrdered (ws : List Nat) : Bool := wordField ws 0 56 56 == 1
def dIrq (ws : List Nat) : Bool := wordField ws 0 55 55 == 1
def dRed (ws : List Nat) : Bool := wordField ws 0 54 54 == 1
def dHint (ws : List Nat) : Nat := wordField ws 0 53 52
def dAop (ws : List Nat) : Nat := wordField ws 0 51 48
def dAsz (ws : List Nat) : Nat := wordField ws 0 47 47
def dUser (ws : List Nat) : Nat := wordField ws 0 31 0

/-- The element size of a reduction. -/
def dElem (ws : List Nat) : Nat := if dAsz ws = 0 then 4 else 8

/-- The operand words (R210). -/
def dSrc (ws : List Nat) : Nat := ws.getD 2 0
def dDst (ws : List Nat) : Nat := ws.getD 3 0
def dLength (ws : List Nat) : Nat := wordField ws 1 35 0
def dWidth (ws : List Nat) : Nat := wordField ws 1 31 0
def dRows (ws : List Nat) : Nat := wordField ws 1 47 32
def dPlanes (ws : List Nat) : Nat := if dType ws = dtTILE3D then wordField ws 1 63 48 else 1
def dIndexBytes (ws : List Nat) : Nat := if wordField ws 1 57 56 = 1 then 8 else 4
def dElemBytes (ws : List Nat) : Nat := wordField ws 1 55 32
def dCount (ws : List Nat) : Nat := wordField ws 1 31 0
def dIdx (ws : List Nat) : Nat := ws.getD 4 0
def dExtent (ws : List Nat) : Nat := wordField ws 5 47 0
def dScale (ws : List Nat) : Nat := wordField ws 6 31 0
def dGroup (ws : List Nat) : Nat := if dType ws = dtMULTICAST then wordField ws 1 63 56 else wordField ws 1 55 48
def dMask (ws : List Nat) : Word := BitVec.ofNat 64 (ws.getD 4 0)
def dMc (ws : List Nat) : Bool := wordField ws 1 63 63 == 1
def dModule (ws : List Nat) : Nat := wordField ws 1 46 41
def dNtype (ws : List Nat) : Nat := wordField ws 5 63 62

/-- A word read as a two's-complement number. -/
def wordInt (n : Nat) : Int := if n < 2 ^ 63 then n else (n : Int) - 2 ^ 64

/-- The four strides: rows and planes of the source, rows and planes of the destination. -/
def dStrides (ws : List Nat) : Int × Int × Int × Int :=
  let w := fun i => wordInt (ws.getD i 0)
  if dType ws = dtTILE3D then (w 4, w 6, w 5, w 7) else (w 4, 0, w 5, 0)

/-- The bits of words 1 to 7 that a type uses (R210). -/
def dUsed (typ : Nat) : List Nat :=
  let all := 2 ^ 64 - 1
  match typ with
  | 1 => [2 ^ 36 - 1, all, all, 0, 0, 0, 0]
  | 2 => [2 ^ 48 - 1, all, all, all, all, 0, 0]
  | 3 => [all, all, all, all, all, all, all]
  | 4 | 5 => [2 ^ 58 - 1, all, all, all, 2 ^ 48 - 1, 2 ^ 32 - 1, 0]
  | 6 => [0xFF00000FFFFFFFFF, all, all, all, 0, 0, 0]
  | 7 => [0x80FF7E0000000000, 0, 0, all, 0xC00000070000FFFF, all, all]
  | _ => []

/-- One operand of a descriptor: its word, its bounding range as offsets from the base (empty when the second is below
the first), and whether it is written (R219). -/
structure Operand where
  word : Nat
  lo : Int
  hi : Int
  writes : Bool
  deriving DecidableEq, Repr

/-- The lowest and highest byte of a tile, from its base (R219). -/
def tileSpan (rows planes width : Nat) (rs ps : Int) : Int × Int :=
  if rows = 0 ∨ planes = 0 ∨ width = 0 then (0, -1)
  else
    let r := rs * ((rows - 1 : Nat) : Int)
    let p := ps * ((planes - 1 : Nat) : Int)
    (min 0 r + min 0 p, max 0 r + max 0 p + ((width - 1 : Nat) : Int))

/-- The operands with their bounding ranges, in the order of R219. -/
def dOperands (ws : List Nat) : List Operand :=
  let run := fun (w n : Nat) (wr : Bool) => (⟨w, 0, (n : Int) - 1, wr⟩ : Operand)
  match dType ws with
  | 1 | 6 => [run (dSrc ws) (dLength ws) false, run (dDst ws) (dLength ws) true]
  | 2 | 3 =>
    let (ss, sp, ds, dp) := dStrides ws
    let s := tileSpan (dRows ws) (dPlanes ws) (dWidth ws) ss sp
    let d := tileSpan (dRows ws) (dPlanes ws) (dWidth ws) ds dp
    [⟨dSrc ws, s.1, s.2, false⟩, ⟨dDst ws, d.1, d.2, true⟩]
  | 4 | 5 =>
    let c := dCount ws
    let list := c * dElemBytes ws
    let side := if c = 0 then 0 else dExtent ws
    let g := dType ws = dtGATHER
    [run (dIdx ws) (c * dIndexBytes ws) false, run (dSrc ws) (if g then side else list) false,
      run (dDst ws) (if g then list else side) true]
  | _ => []

/-- A virtual operand address, and its address. -/
def opVirtual (w : Nat) : Bool := bit w 63
def opAddr (w : Nat) : Nat := w % 2 ^ 57

/-- A physical pod address that a context may name (R71). The host window is reserved on a module that is not the
accepted host bridge; another module's is routed, and its target judges it (R53). -/
def State.physAllowed (s : State) (ctx : Nat) (pa : Int) : Bool :=
  decide (0 ≤ pa ∧ pa < 2 ^ 47) &&
    match regionOf (pa.toNat % 2 ^ 41) with
    | .buffer => true
    | .host => pa.toNat / 2 ^ 41 != s.ownId || s.bridge == some s.ownId
    | .stack => ctx == 0
    | _ => false

/-- An operand that keeps R71 and R53 over its whole bounding range. -/
def State.operandAllowed (s : State) (ctx : Nat) (o : Operand) : Bool :=
  if opVirtual o.word then
    o.word / 2 ^ 57 % 64 == 0 &&
      (decide (o.hi < o.lo) || decide (0 ≤ (opAddr o.word : Int) + o.lo ∧ (opAddr o.word : Int) + o.hi < 2 ^ 57))
  else
    let b : Int := (o.word : Int)
    s.physAllowed ctx b &&
      (decide (o.hi < o.lo) || (s.physAllowed ctx (b + o.lo) && s.physAllowed ctx (b + o.hi) &&
        (b + o.lo) / 2 ^ 41 == (b + o.hi) / 2 ^ 41 &&
        regionOf ((b + o.lo).toNat % 2 ^ 41) == regionOf ((b + o.hi).toNat % 2 ^ 41)))

/-- The first and last page of a virtual operand, none when it is physical or empty (R73). -/
def Operand.pages (o : Operand) : Option (Nat × Nat × Bool) :=
  if opVirtual o.word && decide (o.lo ≤ o.hi) then
    let a : Int := (opAddr o.word : Int)
    some ((a + o.lo).toNat / 2 ^ 31, (a + o.hi).toNat / 2 ^ 31, o.writes)
  else none

/-- The reasons of R223. -/
def drRESERVED_VALUE := 1
def drRESERVED_FIELD := 2
def drOPERAND_ADDR := 3
def drZERO_DIM := 4
def drZERO_MASK := 5
def drSHADOW := 6
def drOUT_OF_EXTENT := 7
def drGROUP := 8
def drRED_RULE := 9

/-- A group that is configured and holds every module of a mask (R225). -/
def State.groupHolds (s : State) (g : Nat) (mask : Word) : Bool :=
  let m := s.reg (R.TGL_MC_DEF g)
  m != 0 && (mask &&& ~~~ m) == 0

/-- The types that have strides, an indexed side and a group. -/
def isTile (t : Nat) : Bool := t == dtTILE2D || t == dtTILE3D
def isIndexed (t : Nat) : Bool := t == dtGATHER || t == dtSCATTER

/-- Whether the rules of R218 hold for a reduction. -/
def redKept (ws : List Nat) : Bool :=
  let t := dType ws
  let d := dDst ws
  let n := dElem ws
  let (_, _, ds, dp) := dStrides ws
  (t == dtLINEAR || isTile t || t == dtSCATTER) && dAop ws != 2 && decide (d < 2 ^ 47) &&
    regionOf (d % 2 ^ 41) == .buffer && d % n == 0 &&
    (if t = dtLINEAR then dLength ws % n == 0
      else if isTile t then
        dWidth ws % n == 0 && (dRows ws ≤ 1 || ds % (n : Int) == 0) && (dPlanes ws ≤ 1 || dp % (n : Int) == 0)
      else dElemBytes ws % n == 0)

/-- The checks that a descriptor fails, each with its reason (R211, R220). -/
def State.descFailures (s : State) (ctx : Nat) (ws : List Nat) : List Nat :=
  let t := dType ws
  let red := dRed ws
  let (ss, sp, ds, dp) := dStrides ws
  let big := fun (x : Int) => decide (2 ^ 47 ≤ x ∨ x ≤ - 2 ^ 47)
  let ops := dOperands ws
  let checks : List (Nat × Bool) := [
    (drRESERVED_VALUE, decide (4 < dFence ws) || dHint ws == 3 || (red && (dAop ws == 0 || decide (11 < dAop ws))) ||
      (isIndexed t && decide (1 < wordField ws 1 57 56)) || (t == dtBARRIER && decide (1 < dNtype ws)) ||
      (isTile t && (big ss || big sp || big ds || big dp))),
    (drRESERVED_FIELD, wordField ws 0 46 32 != 0 || (!red && (dAop ws != 0 || dAsz ws != 0)) ||
      ((dUsed t).zipIdx.any fun u => (ws.getD (u.2 + 1) 0) &&& (2 ^ 64 - 1 - u.1) != 0)),
    (drOPERAND_ADDR, ops.any (fun o => !s.operandAllowed ctx o) || (t == dtMULTICAST && opVirtual (dDst ws)) ||
      (red && opVirtual (dDst ws)) ||
      (t == dtBARRIER && dNtype ws == 1 && (ws.getD 6 0 % 8 != 0 || decide (2 ^ 41 ≤ ws.getD 6 0) ||
        regionOf (ws.getD 6 0) != .buffer))),
    (drZERO_DIM, (isTile t && (dWidth ws == 0 || dRows ws == 0 || dPlanes ws == 0)) ||
      (isIndexed t && (dElemBytes ws == 0 || dScale ws == 0))),
    (drZERO_MASK, (t == dtMULTICAST || (t == dtBARRIER && dMc ws)) && dMask ws == 0),
    (drSHADOW, ops.any fun o => match o.pages with | some (a, b, _) => decide (a + 16 ≤ b) | none => false),
    (drOUT_OF_EXTENT, isIndexed t && dExtent ws == 0 && dCount ws != 0),
    (drGROUP, (t == dtMULTICAST || (t == dtBARRIER && dMc ws)) && !s.groupHolds (dGroup ws) (dMask ws)),
    (drRED_RULE, red && !redKept ws)]
  (checks.filter Prod.snd).map Prod.fst

/-- The lowest-numbered reason among the checks that a descriptor fails (R211). -/
def State.descCheck (s : State) (ctx : Nat) (ws : List Nat) : Option Nat :=
  if dType ws = 0 ∨ 8 ≤ dType ws then some drRESERVED_VALUE else (s.descFailures ctx ws).head?

/-- The longest run that one access carries: 16 KiB, or 16,368 bytes for a multicast (R380). -/
def moveLimit (ws : List Nat) : Nat := if dType ws = dtMULTICAST then 16368 else 16384

/-- The bytes of a run's next piece: it stays within a partition or frame on both sides, and holds whole elements of a
reduction. -/
def pieceLen (ws : List Nat) (m : Move) : Nat :=
  let edge := fun a => 0x4000000 - a % 0x4000000
  let n := min (min m.len (moveLimit ws)) (min (edge m.src) (edge m.dst))
  if dRed ws then min m.len (max (dElem ws) (n / dElem ws * dElem ws)) else n

/-- A run cut into pieces. -/
def cutMove (ws : List Nat) : Nat → Move → List Move
  | 0, m => [m]
  | n + 1, m =>
    if m.len = 0 then []
    else
      let k := pieceLen ws m
      ⟨m.src, m.dst, k⟩ :: cutMove ws n ⟨m.src + k, m.dst + k, m.len - k⟩

/-- Runs cut into pieces, in order. -/
def cutMoves (ws : List Nat) (l : List Move) : List Move := l.flatMap fun m => cutMove ws (m.len / 4096 + 8) m

/-- An operand word moved by an offset. -/
def opPlus (w : Nat) (off : Int) : Nat := ((w : Int) + off).toNat

/-- The runs of a LINEAR, tile or MULTICAST descriptor in element order (R212, R213, R216). -/
def dRuns (ws : List Nat) : List Move :=
  if dType ws = dtLINEAR ∨ dType ws = dtMULTICAST then [⟨dSrc ws, dDst ws, dLength ws⟩]
  else if isTile (dType ws) then
    let (ss, sp, ds, dp) := dStrides ws
    (List.range (dPlanes ws)).flatMap fun p =>
      (List.range (dRows ws)).map fun r =>
        ⟨opPlus (dSrc ws) (Int.ofNat r * ss + Int.ofNat p * sp),
          opPlus (dDst ws) (Int.ofNat r * ds + Int.ofNat p * dp), dWidth ws⟩
  else []

/-- The index list of a gather or scatter, as runs to read (R214). -/
def dIndexRuns (ws : List Nat) : List Move :=
  if isIndexed (dType ws) then [⟨dIdx ws, 0, dCount ws * dIndexBytes ws⟩] else []

/-- The index of element i, from the index bytes read; none where their read failed. -/
def indexAt (ws : List Nat) (index : List (Option Byte)) (i : Nat) : Option Nat :=
  let bs := (index.drop (i * dIndexBytes ws)).take (dIndexBytes ws)
  if bs.all Option.isSome then some (Word.ofBytes (bs.map fun b => b.getD 0)) else none

/-- An element whose index is out of extent (R214). -/
def outOfExtent (ws : List Nat) (ix : Nat) : Bool := decide (dExtent ws < ix * dScale ws + dElemBytes ws)

/-- The elements of a gather or scatter that are moved (R214); one whose index could not be read is not. -/
def dElements (ws : List Nat) (index : List (Option Byte)) : List Move :=
  (List.range (dCount ws)).filterMap fun i =>
    match indexAt ws index i with
    | none => none
    | some ix =>
      if outOfExtent ws ix then none
      else
        let off := ix * dScale ws
        let pos := i * dElemBytes ws
        some (if dType ws = dtGATHER then ⟨dSrc ws + off, dDst ws + pos, dElemBytes ws⟩
          else ⟨dSrc ws + pos, dDst ws + off, dElemBytes ws⟩)

/-- The position of the first element out of extent. -/
def firstOut (ws : List Nat) (index : List (Option Byte)) : Option Nat :=
  (List.range (dCount ws)).find? fun i => match indexAt ws index i with | some ix => outOfExtent ws ix | none => false

/-- Two runs of addresses meet. -/
def runsMeet (a b : Nat × Nat) : Bool := decide (a.1 < b.1 + b.2 ∧ b.1 < a.1 + a.2)

/-- The pod address of an operand address under a shadow (R71, R73). -/
def translate (shadow : List (Nat × Nat × Nat)) (w : Nat) : Nat :=
  if opVirtual w then
    match shadow.find? fun e => e.1 == opAddr w / 2 ^ 31 with
    | some (_, m, f) => m * 2 ^ 41 + f * 2 ^ 31 + opAddr w % 2 ^ 31
    | none => 2 ^ 47
  else w % 2 ^ 48

/-- The pod-physical runs of an operand's bounding range. -/
def Operand.runs (o : Operand) (shadow : List (Nat × Nat × Nat)) : List (Nat × Nat) :=
  if o.hi < o.lo then []
  else if opVirtual o.word then
    (cutRun (2 ^ 31) (((opAddr o.word : Int) + o.lo).toNat) (o.hi - o.lo + 1).toNat).map fun r =>
      (translate shadow (2 ^ 63 + r.1), r.2)
  else [(((o.word : Int) + o.lo).toNat, (o.hi - o.lo + 1).toNat)]

/-- Whether the source and destination ranges of a descriptor overlap (R215). -/
def dOverlap (ws : List Nat) (shadow : List (Nat × Nat × Nat)) : Bool :=
  let ops := if isIndexed (dType ws) then (dOperands ws).drop 1 else dOperands ws
  (ops.filter fun o => !o.writes).any fun a => (ops.filter fun o => o.writes).any fun b =>
    (a.runs shadow).any fun x => (b.runs shadow).any fun y => runsMeet x y

end Sys2Proof.Machine
end

