-- ==== Sys2Proof/Machine/Dmv.lean ====
section
/-!
DEFINITION. Data movers (08_data_movers): starting a descriptor, moving its runs, multicast and barriers, completion,
queue reset, and the loss of a mover.
-/
namespace Sys2Proof.Machine

/-- The descriptors of a queue in progress, oldest first. -/
def State.transfers (s : State) (k : Nat) : List Transfer := Tab.get (fun _ => []) s.movers.transfers k

/-- The state with those replaced; IN_FLIGHT follows. -/
def State.setTransfers (s : State) (k : Nat) (l : List Transfer) : State :=
  State.setFld { s with movers := { s.movers with transfers := Tab.set (fun _ => []) s.movers.transfers k l } }
    (qSTATUS k) F.DMV_Q_STATUS_IN_FLIGHT l.length

/-- A descriptor in progress. -/
def State.transfer (s : State) (k number : Nat) : Option Transfer := (s.transfers k).find? fun t => t.number == number

/-- The state with one descriptor in progress replaced. -/
def State.setTransfer (s : State) (k : Nat) (t : Transfer) : State :=
  s.setTransfers k ((s.transfers k).map fun x => if x.number = t.number then t else x)

/-- The descriptors in progress at a mover. -/
def State.inProgress (s : State) (g : Nat) : List Transfer :=
  (s.movers.transfers.flatMap Prod.snd).filter fun t => t.unit == g

/-- The FLAGS bit of a status (R223). -/
def flagOf (c : Nat) : Nat :=
  if c = scDATA_ERROR then 1 else if c = scTIMEOUT then 2 else if c = scCONTEXT_REJECT then 4
  else if c = scLINK_DOWN then 8 else 0

/-- A condition is met (R13, R223). An access that the fabric answers with DESCRIPTOR_ERROR names OPERAND_ADDR. -/
def Transfer.note (t : Transfer) (c : Nat) : Transfer :=
  { t with status := worse t.status c, flags := t.flags ||| flagOf c,
           detail := if c = scDESCRIPTOR_ERROR then drOPERAND_ADDR else t.detail }

/-- Nothing of a descriptor is out. -/
def Transfer.drained (t : Transfer) : Bool := t.reading.isNone && t.writes == 0

/-- Every access of a descriptor has ended. -/
def Transfer.ended (t : Transfer) : Bool := t.admitted && t.todo.isEmpty && t.drained && !t.indexing

/-- A descriptor issues no further access. -/
def Transfer.stop (t : Transfer) : Transfer := { t with todo := [], indexing := false, held := false }

/-- A husk of a queue's (R381). -/
def State.queueHusk (s : State) (k typ pa len opx : Nat) (payload : List Byte) : Husk :=
  { Husk.zero with
    typ := typ, dest := pa / 2 ^ 41 % 64, cls := s.qClass k, len := len, rid := queueRid k, addr := pa % 2 ^ 41,
    ctx := s.qCtx k, opx := opx, payload := payload }

/-- Runs of consecutive bytes that are given: the offset and the bytes of each. -/
def givenRuns : Nat → List (Option Byte) → List (Nat × List Byte)
  | _, [] => []
  | n, none :: bs => givenRuns (n + 1) bs
  | n, some b :: bs =>
    match givenRuns (n + 1) bs with
    | (m, r) :: rest => if m = n + 1 then (n, b :: r) :: rest else (n, [b]) :: (m, r) :: rest
    | [] => [(n, [b])]

/-- A read of a local run, block by block: bytes of a block whose read failed are none (R115, R564). -/
def State.moverRead (s : State) (k : Nat) (t : Transfer) (w len : Nat) : List (Option Byte) × Transfer × State :=
  (cutRun 64 w len).foldl (fun (acc : List (Option Byte) × Transfer × State) u =>
    let (c, bs, s) := acc.2.2.memRead (s.qAccess k (dHint t.words)) (translate t.shadow u.1 % 2 ^ 41) u.2 true
    let ok := c == scDONE || c == scDATA_ERROR
    (acc.1 ++ (if ok then allBytes bs else List.replicate u.2 none), acc.2.1.note c, s.countRead t.unit u.2))
    ([], t, s)

/-- The bytes written by a mover count (R232). -/
def State.countWrite (s : State) (g n : Nat) : State := s.bump (R.DMV_CNT_WR g) F.DMV_CNT_WR_BYTES n

/-- A write of local bytes, block by block. -/
def State.moverWrite (s : State) (k : Nat) (t : Transfer) (pa : Nat) (data : List (Option Byte)) : Transfer × State :=
  (splitUnits 64 (pa % 2 ^ 41) data).foldl (fun (acc : Transfer × State) u =>
    let n := (u.2.filter Option.isSome).length
    let (c, s) := acc.2.memWrite (s.qAccess k 0) u.1 u.2
    let t := acc.1.note c
    ({ t with bytes := if c = scDONE then t.bytes + n else t.bytes }, s.countWrite t.unit n)) (t, s)

/-- A run of destination bytes as posted atomics, one an element (R218). An element with a byte that could not be read
is not combined. -/
def State.moverReduce (s : State) (k : Nat) (t : Transfer) (pa : Nat) (data : List (Option Byte)) : Transfer × State :=
  let n := dElem t.words
  (List.range (data.length / n)).foldl (fun (acc : Transfer × State) i =>
    let e := (data.drop (n * i)).take n
    let a := pa + n * i
    if e.all Option.isSome then
      let bs := e.map fun b => b.getD 0
      if acc.2.isLocal a then
        let (c, _, s) := acc.2.memAtomic (s.qAccess k 0) (a % 2 ^ 41) (dAop t.words) n (Word.ofBytes bs) 0
        let t := acc.1.note c
        ({ t with bytes := if c = scDONE then t.bytes + n else t.bytes }, s.countWrite t.unit n)
      else
        ({ acc.1 with writes := acc.1.writes + 1 },
          (acc.2.countWrite acc.1.unit n).sendRequest (s.queueHusk k Husk.AT a n (dAop t.words) bs)
            (.mover k t.number (2 * n + 1)))
    else acc) (t, s)

/-- The targets of a multicast that have failed, and the causes (R226). -/
def Transfer.failTargets (t : Transfer) (mask : Nat) (flags : Nat) : Transfer :=
  let t := { t with failed := t.failed ||| mask, flags := t.flags ||| flags }
  let t := if bit flags 0 then { t with status := worse t.status scDATA_ERROR } else t
  if mask = 0 then t else { t with status := worse t.status scMULTICAST_INCOMPLETE }

/-- The targets of a descriptor's MASK still held. -/
def Transfer.live (t : Transfer) : Word := dMask t.words &&& ~~~ BitVec.ofNat 64 t.failed

/-- The module's own copy of a multicast (R225, R395), which fails on any status but DONE and DATA_ERROR. -/
def State.moverOwnCopy (s : State) (k : Nat) (t : Transfer) (bs : List Byte) (m : Move) : Transfer × State :=
  let (c, s) := (cutRun 64 (m.dst % 2 ^ 41) bs.length).foldl (fun (acc : Nat × State) u =>
    let part := (bs.drop (u.1 - m.dst % 2 ^ 41)).take u.2
    let (c, s) := acc.2.memWrite (s.qAccess k 0) u.1 (allBytes part)
    (worse acc.1 c, s.countWrite t.unit u.2)) (scDONE, s)
  (t.failTargets (if c = scDONE ∨ c = scDATA_ERROR then 0 else s.ownBit.toNat) (flagOf c), s)

/-- A chunk of a multicast goes to every target still held (R225). -/
def State.moverCast (s : State) (k : Nat) (t : Transfer) (m : Move) (bs : List Byte) : Transfer × State :=
  let own := (t.live &&& s.ownBit) != 0
  let (t, s) := if own then s.moverOwnCopy k t bs m else (t, s)
  let far := t.live &&& ~~~ s.ownBit
  if far = 0 then ({ t with bytes := if t.live = 0 then t.bytes else t.bytes + bs.length }, s)
  else
    let h := { s.queueHusk k Husk.MCW (m.dst % 2 ^ 41) (16 + bs.length) 0 (mcPrefix far (dGroup t.words) ++ bs) with
      dest := 0 }
    ({ t with writes := t.writes + 1 },
      (s.countWrite t.unit bs.length).placeMulticast h (.mover k t.number (2 * bs.length + 2)))

/-- The bytes of a run are stored at its destination; where the ranges overlap, undefined bytes (R215). -/
def State.moverStore (s : State) (k : Nat) (t : Transfer) (m : Move) (data : List (Option Byte)) : Transfer × State :=
  let (data, s) :=
    if t.overlap then
      let (free, s) := s.freeBytes data.length
      (List.zipWith (fun (d : Option Byte) f => d.map fun _ => f) data free, s)
    else (data, s)
  let pa := translate t.shadow m.dst
  if dType t.words = dtMULTICAST then
    (givenRuns 0 data).foldl (fun (acc : Transfer × State) r =>
      acc.2.moverCast k acc.1 ⟨0, m.dst + r.1, r.2.length⟩ r.2) (t, s)
  else if dRed t.words then s.moverReduce k t pa data
  else if s.inHouse pa then s.moverWrite k t pa data
  else
    (givenRuns 0 data).foldl (fun (acc : Transfer × State) r =>
      ({ acc.1 with writes := acc.1.writes + 1 },
        (acc.2.countWrite acc.1.unit r.2.length).sendRequest
          (s.queueHusk k Husk.WR (pa + r.1) r.2.length 0 r.2) (.mover k t.number (2 * r.2.length + 1)))) (t, s)

/-- Runs are moved in order, up to a read that goes over Thegief. -/
def State.moverRun (k : Nat) : List Move → Transfer → State → Transfer × State
  | [], t, s => ({ t with todo := [] }, s)
  | m :: rest, t, s =>
    let pa := translate t.shadow m.src
    if s.inHouse pa then
      let (data, t, s) := s.moverRead k t m.src m.len
      let (t, s) := if t.indexing then ({ t with index := t.index ++ data }, s) else s.moverStore k t m data
      State.moverRun k rest t s
    else
      ({ t with todo := rest, reading := some m },
        (s.countRead t.unit m.len).sendRequest (s.queueHusk k Husk.RD pa m.len (dHint t.words) [])
          (.mover k t.number 0))

/-- The index list has been read: the elements follow, and one out of extent is noted (R214). -/
def Transfer.elements (t : Transfer) : Transfer :=
  let t := { t with indexing := false, todo := cutMoves t.words (dElements t.words t.index) }
  match firstOut t.words t.index with
  | some i => { t with
      status := worse t.status scDESCRIPTOR_ERROR, detail := i * 2 ^ 32 + drOUT_OF_EXTENT }
  | none => t

/-- A descriptor goes on with what it has to move, unless it is held for an invalidation. -/
def State.moverGo (s : State) (k : Nat) (t : Transfer) : State :=
  if t.held || !t.admitted || t.reading.isSome then s.setTransfer k t
  else
    let (t, s) := State.moverRun k t.todo t s
    if t.indexing && t.reading.isNone then
      let t := t.elements
      let (t, s) := State.moverRun k t.todo t s
      s.setTransfer k t
    else s.setTransfer k t

/-- The notification of a barrier at this module (R116, R217): a token post, or a write of the shared buffer under the
barrier's context. -/
def State.notify (s : State) (ntype addr value ctx cls : Nat) : Nat × State :=
  if ntype = 0 then (scDONE, s.tokPost (value / 2 ^ 16 % 8) (value / 2 ^ 4 % 2 ^ 12) (value % 16))
  else s.memWrite ⟨ctx, cls, 0, 0⟩ addr (allBytes (Word.bytes 8 value))

/-- What a barrier's husk carries (R386): NVALUE, or the token in its place. -/
def barrierValue (ws : List Nat) : Nat :=
  if dNtype ws = 0 then wordField ws 5 34 32 * 2 ^ 16 + wordField ws 5 15 0 else ws.getD 7 0

/-- NADDR of a barrier, 0 for a token post. -/
def barrierAddr (ws : List Nat) : Nat := if dNtype ws = 0 then 0 else ws.getD 6 0

/-- A barrier goes to its module or to its group (R116, R217). -/
def State.barrierGo (s : State) (k : Nat) (t : Transfer) : State :=
  let ws := t.words
  let body := Word.bytes 8 (barrierValue ws) ++ List.replicate 8 0#8
  let here := fun (s : State) => s.notify (dNtype ws) (barrierAddr ws) (barrierValue ws) (s.qCtx k) (s.qClass k)
  if dMc ws then
    let (t, s) :=
      if (dMask ws &&& s.ownBit) != 0 then
        let (c, s) := here s
        (t.failTargets (if c = scDONE ∨ c = scDATA_ERROR then 0 else s.ownBit.toNat) (flagOf c), s)
      else (t, s)
    let far := dMask ws &&& ~~~ s.ownBit
    if far = 0 then s.setTransfer k t
    else
      (s.setTransfer k { t with writes := 1 }).placeMulticast
        { s.queueHusk k Husk.MBAR (barrierAddr ws) 32 (dNtype ws) (mcPrefix far (dGroup ws) ++ body) with dest := 0 }
        (.mover k t.number 2)
  else if dModule ws = s.ownId then
    let (c, s) := here s
    s.setTransfer k (t.note c)
  else
    (s.setTransfer k { t with writes := 1 }).sendRequest
      (s.queueHusk k Husk.BAR (dModule ws * 2 ^ 41 + barrierAddr ws) 16 (dNtype ws) body) (.mover k t.number 1)

/-- A response for a descriptor in progress: a read's data, a write's acknowledgement, or the answers of a multicast's
targets. -/
def State.moverAnswer (s : State) (k number part status : Nat) (bs : List Byte) : State :=
  match s.transfer k number with
  | none => s
  | some t =>
    if part = 0 then
      match t.reading with
      | none => s
      | some m =>
        let ok := status == scDONE || status == scDATA_ERROR
        let data := if ok then allBytes bs else List.replicate m.len none
        let t := { t.note status with reading := none }
        if s.fld (R.DMV_STATUS t.unit) F.DMV_STATUS_STATE = 1 ∨ (s.ring k).resetting then s.setTransfer k t
        else
          let (t, s) := if t.indexing then ({ t with index := t.index ++ data }, s) else s.moverStore k t m data
          (s.setTransfer k t).moverGo k t
    else
      let t := { t with writes := t.writes - 1 }
      if part % 2 = 1 then
        let t := t.note status
        s.setTransfer k { t with bytes := if status = scDONE then t.bytes + part / 2 else t.bytes }
      else
        let t := t.failTargets (Word.ofBytes (bs.take 8)) (Word.ofBytes (bs.drop 8))
        s.setTransfer k { t with bytes := if t.live = 0 then t.bytes else t.bytes + (part - 2) / 2 }

/-- A queue's writes that a fence waits for (R105). -/
def State.writesWaiting (s : State) (k : Nat) : Bool :=
  s.fenceWaits fun w => match w with | .mover j _ part => j == k && part != 0 | _ => false

/-- A FENCE field's condition over the earlier descriptors of the queue (R105, R108). -/
def State.fenceKept (s : State) (k fence : Nat) : Bool :=
  let l := s.transfers k
  let reads := l.all fun t => t.admitted && t.todo.isEmpty && t.reading.isNone && !t.indexing
  match fence with
  | 0 => true
  | 1 => reads
  | 2 | 3 => reads && !s.writesWaiting k
  | _ => l.all Transfer.ended

/-- The fence that a descriptor applies: a barrier's is at least FENCE.W (R116). -/
def startFence (ws : List Nat) : Nat := if dType ws = dtBARRIER then max 2 (dFence ws) else dFence ws

/-- A fetched descriptor may start (R104, R109, R201, R207). -/
def State.mayStart (s : State) (k : Nat) (ws : List Nat) : Bool :=
  let g := s.runsOn k
  s.topState == stREADY && s.qState k == qsRUNNING && !(s.ring k).resetting &&
    s.fld (R.DMV_STATUS g) F.DMV_STATUS_STATE == 0 && (s.transfers k).all Transfer.admitted &&
    decide ((s.transfers k).length < 4) && decide ((s.inProgress g).length < 16) &&
    (!dOrdered ws || s.qDone k == s.qStarted k) && s.fenceKept k (startFence ws)

/-- The record of a descriptor that has ended (R221, R223). -/
def Transfer.record (t : Transfer) : RecordDue :=
  let detail := if t.status = scDESCRIPTOR_ERROR then t.detail
    else if t.status = scMULTICAST_INCOMPLETE then t.failed else 0
  ⟨t.number, t.status, dUser t.words, detail, t.flags, t.bytes, t.unit, dIrq t.words, []⟩

/-- A queue's oldest fetched descriptor starts: it is checked in full (R211) and goes to admission (R72). -/
def State.descStart (s : State) (k : Nat) : State :=
  match (s.ring k).fetched with
  | none => s
  | some ws =>
    if s.mayStart k ws then
      let number := s.qStarted k
      let s := (s.setRing k { s.ring k with fetched := none }).startNext k
      let moved := if s.flag (qSTATUS k) F.DMV_Q_STATUS_ATTACHED then 16 else 0
      let t : Transfer := ⟨number, ws, scDONE, moved, 0, 0, s.runsOn k, isIndexed (dType ws),
        cutMoves ws (if isIndexed (dType ws) then dIndexRuns ws else dRuns ws), [], none, 0, [], false, false, false, 0⟩
      match s.descCheck (s.qCtx k) ws with
      | some reason => s.recordDue k { t.record with status := scDESCRIPTOR_ERROR, detail := reason }
      | none =>
        (s.setTransfers k (s.transfers k ++ [t])).submit (dieOf k)
          ⟨.queue k number, s.qCtx k, s.qClass k, (dOperands ws).filterMap Operand.pages,
            (0, moverOf k, k % 16, s.qSlot k number), none, [], none, false⟩
    else s

/-- The admission of a descriptor has ended (R74, R77 to R79). -/
def State.moverAdmitted (s : State) (k number : Nat) (a : Admitted) (w : Admission) : State :=
  match s.transfer k number with
  | none => s
  | some t =>
    match a with
    | .waits => s
    | .released shadow =>
      let t := { t with admitted := true, shadow := shadow, held := false, overlap := dOverlap t.words shadow }
      let s := s.setTransfer k t
      if dType t.words = dtBARRIER then s.barrierGo k t else s.moverGo k t
    | .ended c => s.setTransfer k { (t.note c).stop with admitted := true }
    | .faulted reason page =>
      let (out, s) := s.recordFault (dieOf k) w reason page
      if out then (if s.qState k = qsRUNNING then s.setQState k qsSUSPENDED else s)
      else s.setTransfer k { t.stop with admitted := true, status := worse t.status scPAGE_FAULT }

/-- A descriptor that was switched out is admitted afresh, or aborted (R82). -/
def State.moverResume (s : State) (k number : Nat) (w : Admission) (abort : Bool) : State :=
  match s.transfer k number with
  | none => s
  | some t =>
    let s := if s.qState k = qsSUSPENDED then
      s.setQState k (if s.flag (qCTL k) F.DMV_Q_CTL_EN then qsRUNNING else qsDISABLED) else s
    if abort then s.setTransfer k { t.stop with admitted := true, status := worse t.status scABORTED }
    else s.submit (dieOf k) w

/-- The oldest descriptor of a queue whose accesses have all ended completes (R104, R221). -/
def State.descComplete (s : State) (k : Nat) : State :=
  match (s.transfers k).find? Transfer.ended with
  | some t =>
    if (s.ring k).resetting || s.fld (R.DMV_STATUS t.unit) F.DMV_STATUS_STATE == 1 then s
    else (s.setTransfers k ((s.transfers k).filter fun x => x.number != t.number)).recordDue k t.record
  | none => s

/-- The queues that a mover runs: its own, and those attached to it (R229). -/
def State.queuesOf (s : State) (g : Nat) : List Nat :=
  let own := (List.range 16).map (queueKey g)
  let all := if s.fld (R.DMV_STATUS g) F.DMV_STATUS_ATTACHED = 0 then own
    else own ++ ((List.range 512).map fun i => 512 * (g / 32) + i).filter fun k => k / 16 != g
  all.filter fun k => s.runsOn k == g

/-- The queue that a mover's round-robin gives (R207): those of class 15 first, then the next after the one served
last. -/
def State.pickQueue (s : State) (g : Nat) : Option Nat :=
  let l := (s.queuesOf g).filter s.mayFetch
  let high := l.filter fun k => s.qClass k == 15
  let l := if high.isEmpty then l else high
  let last := Tab.get (fun _ => 4095) s.movers.last g
  l.foldl (fun best k =>
    match best with
    | none => some k
    | some b => if (k + 4096 - last - 1) % 4096 < (b + 4096 - last - 1) % 4096 then some k else best) none

/-- A mover fetches a descriptor (R207). -/
def State.moverFetch (s : State) (g : Nat) : State :=
  match s.pickQueue g with
  | some k =>
    State.fetchItem { s with movers := { s.movers with last := Tab.set (fun _ => 4095) s.movers.last g k } } k
  | none => s

/-- The faults of a queue or ring end (R228, R258), and its admissions leave the translator. -/
def State.dropWork (s : State) (d : Nat) (p : Faulter → Bool) : State :=
  let s := (s.adt.faults.filter fun e => p e.work.who).foldl State.endFault s
  s.setAdmissions d ((s.admissions d).filter fun w => !p w.who)

/-- Work of a queue. -/
def ofQueue (k : Nat) : Faulter → Bool
  | .queue j _ => j == k
  | _ => false

/-- A queue reset begins (R228): nothing starts, what is in progress issues nothing further, and its faults end. -/
def State.queueReset (s : State) (k : Nat) : State :=
  if s.qState k = qsLOST ∧ (s.transfers k).isEmpty then s.setFld (qCTL k) F.DMV_Q_CTL_RESET 0
  else
    let s := s.setFld (qCTL k) F.DMV_Q_CTL_RESET 1
    let s := s.dropWork (dieOf k) (ofQueue k)
    let l := (s.transfers k).map fun t => { t.stop with admitted := true, status := worse t.status scABORTED }
    let s := s.setTransfers k l
    s.setRing k { s.ring k with
      resetting := true, fetched := none,
      due := (s.ring k).due.map fun r => { r with status := worse r.status scABORTED } }

/-- The drain of a queue reset has ended: the records of what was started are written (R228, R561). -/
def State.queueResetDone (s : State) (k : Nat) : State :=
  if (s.ring k).resetting && (s.transfers k).all Transfer.drained then
    let l := s.transfers k
    let s := s.setTransfers k []
    let s := s.setRing k { s.ring k with due := (s.ring k).due ++ l.map Transfer.record }
    s.records k
  else s

/-- A descriptor of a queue that is switched out: its fault is outstanding (R79). -/
def State.switchedOut (s : State) (k n : Nat) : Bool := s.adt.faults.any fun e => decide (e.work.who = .queue k n)

/-- The descriptors of a queue in progress at a lost mover end with UNIT_LOST, and their admissions leave the translator;
those that are switched out stay so (R229, R559). -/
def State.fenceOff (s : State) (g k : Nat) : State :=
  let mine := fun (t : Transfer) => t.unit == g && !s.switchedOut k t.number
  let gone := ((s.transfers k).filter mine).map Transfer.number
  let l := (s.transfers k).map fun t =>
    if mine t then { t.stop with admitted := true, status := worse t.status scUNIT_LOST } else t
  (s.setAdmissions (dieOf k) ((s.admissions (dieOf k)).filter fun w =>
    !(gone.any fun n => decide (w.who = .queue k n)))).setTransfers k l

/-- A mover is lost (R229): it is fenced off, and its source and its defect entry tell of it. -/
def State.moverLost (s : State) (g : Nat) : State :=
  let r := R.DMV_STATUS g
  if s.fld r F.DMV_STATUS_STATE = 0 then
    let s := (s.setFld r F.DMV_STATUS_STATE 1).raise (256 + g)
    let s := s.noteLoss dkDATA_MOVER (g / 32) (s.fld r F.DMV_STATUS_PHYS)
    (s.movers.transfers.map Prod.fst).foldl (fun s k => s.fenceOff g k) s
  else s

/-- The sibling that takes a queue of a lost mover: the next active one of the die, counting upward and wrapping, that
serves fewer than 16 attached queues (R229, R230, R560). -/
def State.sibling (s : State) (g : Nat) : Option Nat :=
  ((List.range 31).map fun i => g / 32 * 32 + (g % 32 + 1 + i) % 32).find? fun h =>
    s.fld (R.DMV_STATUS h) F.DMV_STATUS_STATE == 0 && decide (s.fld (R.DMV_STATUS h) F.DMV_STATUS_ATTACHED < 16)

/-- A queue moves to a sibling (R229, R559): a descriptor that is switched out stays so on the sibling. -/
def State.migrate (s : State) (k h : Nat) : State :=
  let s := (s.setFld (qSTATUS k) F.DMV_Q_STATUS_ATTACHED 1).setFld (qSTATUS k) F.DMV_Q_STATUS_RUNS_ON h
  let s := s.setFld (R.DMV_STATUS h) F.DMV_STATUS_ATTACHED (s.fld (R.DMV_STATUS h) F.DMV_STATUS_ATTACHED + 1)
  s.setTransfers k ((s.transfers k).map fun t => { t with unit := h, flags := t.flags ||| 16 })

/-- A queue that does not migrate becomes LOST, with a record for everything up to TAIL (R229). -/
def State.queueLost (s : State) (k unit : Nat) : State :=
  let faulted := (s.adt.faults.filter fun e => ofQueue k e.work.who)
  let s := faulted.foldl State.endFault s
  let l := (s.transfers k).map fun t => { t.stop with admitted := true, status := worse t.status scUNIT_LOST }
  let s := (s.setTransfers k []).setQState k qsLOST
  let s := s.setRing k { s.ring k with fetched := none, due := (s.ring k).due ++ l.map Transfer.record }
  let s := s.records k
  let s := if s.qSize k = 0 ∨ (s.ring k).resetting ∨ 2 ^ s.qSize k < s.qBacklog k (s.qTail k) then s
    else s.lostRecords (2 ^ s.qSize k) k unit
  s.setFld (qCTL k) F.DMV_Q_CTL_EN 0

/-- The records of what a queue had in progress at a lost mover are due (R229); a descriptor that is switched out stays. -/
def State.closeOut (s : State) (k : Nat) : State :=
  let l := s.transfers k
  let s := s.setTransfers k (l.filter fun t => s.switchedOut k t.number)
  (s.setRing k { s.ring k with
    due := (s.ring k).due ++ (l.filter fun t => !s.switchedOut k t.number).map Transfer.record }).records k

/-- A queue of a lost mover moves to the sibling that may take it, or becomes LOST (R229); the siblings that have taken
one are collected. -/
def State.rehome (g : Nat) (acc : List Nat × State) (k : Nat) : List Nat × State :=
  let s := acc.2
  match s.sibling g with
  | some h =>
    if s.flag (qCFG k) F.DMV_Q_CFG_MIGRATE && s.qState k != qsLOST then
      (if acc.1.contains h then acc.1 else acc.1 ++ [h], s.migrate k h)
    else (acc.1, (s.queueLost k g).setFld (qSTATUS k) F.DMV_Q_STATUS_ATTACHED 0)
  | none => (acc.1, (s.queueLost k g).setFld (qSTATUS k) F.DMV_Q_STATUS_ATTACHED 0)

/-- Every access of a lost mover has ended (R229, R560): records for what was in progress, then the queues move to
siblings or become LOST. -/
def State.moverDrained (s : State) (g : Nat) : State :=
  let r := R.DMV_STATUS g
  if s.fld r F.DMV_STATUS_STATE = 1 && (s.inProgress g).all Transfer.drained && !(s.queuesOf g).isEmpty then
    let keys := s.queuesOf g
    let s := (keys.foldl State.closeOut s).setFld r F.DMV_STATUS_ATTACHED 0
    let (homes, s) := keys.foldl (State.rehome g) ([], s)
    let s := if keys.any fun k => s.qState k == qsLOST then s.raise (256 + g) else s
    homes.foldl (fun s h => s.raise (256 + h)) s
  else s

/-- A shadow holds a page that an invalidation covers. -/
def shadowCovered (v : Invalidation) (ctx : Nat) (shadow : List (Nat × Nat × Nat)) : Bool :=
  shadow.any fun e => v.covers ctx e.1

/-- A descriptor in progress that holds a translation which an invalidation covers (R86). -/
def State.transferCovered (s : State) (v : Invalidation) (k : Nat) (t : Transfer) : Bool :=
  t.admitted && !t.ended && shadowCovered v (s.qCtx k) t.shadow

/-- An admission that has begun under entries that an invalidation covers (R87). -/
def admissionCovered (v : Invalidation) (w : Admission) : Bool :=
  w.reading.isSome && v.ctx == w.ctx && w.ops.any fun o => (opPages o).any fun p => v.covers w.ctx p.1

/-- The movers that an invalidation waits for (R86). -/
def State.moverHolders (s : State) (v : Invalidation) : List Nat :=
  let running := s.movers.transfers.flatMap fun e =>
    (e.2.filter fun t => s.transferCovered v e.1 t).map Transfer.unit
  let begun := s.adt.work.flatMap fun e => e.2.filterMap fun w =>
    match w.who with
    | .queue k _ => if admissionCovered v w then some (s.runsOn k) else none
    | _ => none
  (running ++ begun).eraseDups

/-- The command at the head of the invalidations, while it runs. -/
def State.invalHead (s : State) : Option Invalidation := s.adt.invals.head?.filter Invalidation.running

/-- A mover's descriptors under covered translations issue no further transfer (R86). -/
def State.moverHold (s : State) (v : Invalidation) (g : Nat) : State :=
  (s.movers.transfers.map Prod.fst).foldl (fun s k =>
    s.setTransfers k ((s.transfers k).map fun t =>
      if t.unit = g && s.transferCovered v k t then { t with held := true } else t)) s

/-- A mover acknowledges once what it had under the covered translations has drained; the rest of each descriptor is
admitted afresh (R86, R558). -/
def State.moverAck (s : State) (g : Nat) : State :=
  match s.invalHead with
  | none => s
  | some v =>
    if !v.waiting.contains g then s
    else
      let s := s.moverHold v g
      let begun := s.adt.work.any fun e => e.2.any fun w =>
        (match w.who with | .queue k _ => s.runsOn k == g && admissionCovered v w | _ => false)
      if begun || (s.inProgress g).any fun t => (t.held || t.status == scUNIT_LOST) && !t.drained then s
      else
        let s := s.invalAck g
        (s.movers.transfers.map Prod.fst).foldl (fun s k =>
          (s.transfers k).foldl (fun s t =>
            if t.unit = g && t.held && shadowCovered v (s.qCtx k) t.shadow then
              (s.setTransfer k { t with admitted := false, held := false, shadow := [] }).submit (dieOf k)
                ⟨.queue k t.number, s.qCtx k, s.qClass k, (dOperands t.words).filterMap Operand.pages,
                  (0, moverOf k, k % 16, s.qSlot k t.number), none, [], none, false⟩
            else s) s) s

/-- A multicast branch at a port has stalled for TGL_MC_TMO: the copies of this module's own multicasts that wait there
are given up (R226). -/
def State.branchTimeout (s : State) (p : Nat) : State :=
  let x := s.port p
  let own := x.fork.filter fun h => h.src == s.ownId
  let s := s.setPort p { x with fork := x.fork.filter fun h => h.src != s.ownId }
  own.foldl (fun s h => s.mcResolve h.tag (mcMask h.payload) true 32) s

end Sys2Proof.Machine
end

