-- ==== Sys2Proof/Machine/Ring.lean ====
section
/-!
DEFINITION. The neighbour ring of the engines (R21, R22, R238 to R243): packets, queues and credit, slots, and the
activation of the slot tables. A port is 2·engine for E and 2·engine + 1 for W.
-/
namespace Sys2Proof.Machine

/-- The engines in ring order, going east (R21). -/
def ringOrder : List Nat := [0, 1, 2, 3, 4, 5, 6, 7, 14, 15, 12, 13, 10, 11, 8, 9]

/-- The neighbour of an engine to the east, and to the west. -/
def eastOf (n : Nat) : Nat := ringOrder.getD ((ringOrder.idxOf n + 1) % 16) 0
def westOf (n : Nat) : Nat := ringOrder.getD ((ringOrder.idxOf n + 15) % 16) 0

/-- The port at the far end of a port's connection. -/
def ringPeer (p : Nat) : Nat := if p % 2 = 0 then 2 * eastOf (p / 2) + 1 else 2 * westOf (p / 2)

/-- The other port of the same engine. -/
def ringAcross (p : Nat) : Nat := if p % 2 = 0 then p + 1 else p - 1

/-- The queue of a stream at a port. -/
def ringQueue (p stream : Nat) : Nat := 16 * p + stream

/-- The fields of a packet's header (R238). -/
def RingPacket.kind (x : RingPacket) : Nat := Reg.bits x.header 63 60
def RingPacket.dest (x : RingPacket) : Nat := Reg.bits x.header 59 56
def RingPacket.src (x : RingPacket) : Nat := Reg.bits x.header 55 52
def RingPacket.stream (x : RingPacket) : Nat := Reg.bits x.header 51 48
def RingPacket.len (x : RingPacket) : Nat := Reg.bits x.header 8 0

/-- KIND values. -/
def rkDATA := 1
def rkTOKEN := 2

/-- A packet by its fields. -/
def RingPacket.make (kind dest src stream : Nat) (payload : List Byte) : RingPacket :=
  ⟨Reg.place 63 60 kind ||| Reg.place 59 56 dest ||| Reg.place 55 52 src ||| Reg.place 51 48 stream |||
    Reg.place 8 0 payload.length, payload⟩

/-- The bytes of a packet on the wire. -/
def RingPacket.wire (x : RingPacket) : Nat := 8 + x.len

/-- A packet without a reserved value (R238). -/
def RingPacket.sound (x : RingPacket) : Bool :=
  (x.kind == rkDATA || (x.kind == rkTOKEN && x.len == 0)) && Reg.bits x.header 47 9 == 0 && decide (x.len ≤ 256) &&
    x.len == x.payload.length

/-- The state with the ring's replaced. -/
def State.setRingNet (s : State) (x : RingNetState) : State := { s with nme := { s.nme with ring := x } }

/-- The lists of the ring. -/
def State.wire (s : State) (p : Nat) : List RingPacket := Tab.get (fun _ => []) s.nme.ring.wires p
def State.received (s : State) (q : Nat) : List (Nat × RingPacket) := Tab.get (fun _ => []) s.nme.ring.received q
def State.forwards (s : State) (q : Nat) : List RingPacket := Tab.get (fun _ => []) s.nme.ring.forward q
def State.ownPackets (s : State) (q : Nat) : List RingPacket := Tab.get (fun _ => []) s.nme.ring.own q

/-- The state with one of them replaced. -/
def State.setWire (s : State) (p : Nat) (l : List RingPacket) : State :=
  s.setRingNet { s.nme.ring with wires := Tab.set (fun _ => []) s.nme.ring.wires p l }
def State.setReceived (s : State) (q : Nat) (l : List (Nat × RingPacket)) : State :=
  s.setRingNet { s.nme.ring with received := Tab.set (fun _ => []) s.nme.ring.received q l }
def State.setForwards (s : State) (q : Nat) (l : List RingPacket) : State :=
  s.setRingNet { s.nme.ring with forward := Tab.set (fun _ => []) s.nme.ring.forward q l }
def State.setOwnPackets (s : State) (q : Nat) (l : List RingPacket) : State :=
  s.setRingNet { s.nme.ring with own := Tab.set (fun _ => []) s.nme.ring.own q l }

/-- Where the credit of a stream at an outgoing port stands: for the neighbour's receive or forward queue. -/
def creditKey (p stream : Nat) (forward : Bool) : Nat := 2 * ringQueue p stream + (if forward then 1 else 0)

/-- A packet that leaves by a port goes on from the neighbour (R239). -/
def goesOn (p : Nat) (x : RingPacket) : Bool := x.dest != ringPeer p / 2

/-- The neighbour's queue has room for a packet (R239). -/
def State.hasCredit (s : State) (p : Nat) (x : RingPacket) : Bool :=
  decide (Tab.get (fun _ => 0) s.nme.ring.used (creditKey p x.stream (goesOn p x)) + x.wire ≤
    (if goesOn p x then 4096 else 16384))

/-- A packet has left a queue of the engine at an incoming port: its credit is on its way back (R239). -/
def State.freeCredit (s : State) (incoming : Nat) (x : RingPacket) : State :=
  let p := ringPeer incoming
  let k := creditKey p x.stream (goesOn p x)
  s.setRingNet { s.nme.ring with
    freed := Tab.set (fun _ => 0) s.nme.ring.freed k (Tab.get (fun _ => 0) s.nme.ring.freed k + x.wire) }

/-- The packet that a slot of a stream sends next: the head of the forward queue, or else of the engine's own packets,
that has credit (R241). `true`: it is forwarded. -/
def State.nextPacket (s : State) (p stream : Nat) : Option (Bool × RingPacket) :=
  match (s.forwards (ringQueue (ringAcross p) stream)).head?.filter (s.hasCredit p) with
  | some x => some (true, x)
  | none => ((s.ownPackets (ringQueue p stream)).head?.filter (s.hasCredit p)).map fun x => (false, x)

/-- A packet leaves by a port. -/
def State.sendPacket (s : State) (p : Nat) (forwarded : Bool) (x : RingPacket) : State :=
  let k := creditKey p x.stream (goesOn p x)
  let s := s.setRingNet { s.nme.ring with
    used := Tab.set (fun _ => 0) s.nme.ring.used k (Tab.get (fun _ => 0) s.nme.ring.used k + x.wire) }
  let s := s.setWire (ringPeer p) (s.wire (ringPeer p) ++ [x])
  if forwarded then
    let q := ringQueue (ringAcross p) x.stream
    (s.setForwards q (s.forwards q).tail).freeCredit (ringAcross p) x
  else
    let q := ringQueue p x.stream
    s.setOwnPackets q (s.ownPackets q).tail

/-- The open slot of a port. -/
def State.slot (s : State) (p : Nat) : Option RingSlot := Tab.get (fun _ => none) s.nme.ring.slots p

/-- The state with that replaced. -/
def State.setSlot (s : State) (p : Nat) (x : Option RingSlot) : State :=
  s.setRingNet { s.nme.ring with slots := Tab.set (fun _ => none) s.nme.ring.slots p x }

/-- An open slot sends packets while the last byte of each leaves before its end (R241); a byte takes 1 ps (R22), and a
fabric cycle is 800 ps. -/
def State.ringPump : Nat → State → Nat → State
  | 0, s, _ => s
  | n + 1, s, p =>
    match s.slot p with
    | none => s
    | some w =>
      match s.nextPacket p w.stream with
      | none => s
      | some (f, x) =>
        let pos := max w.used ((s.now - w.start) * 800)
        if pos + x.wire ≤ w.size then
          State.ringPump n ((s.sendPacket p f x).setSlot p (some { w with used := pos + x.wire })) p
        else s

/-- The packets that a port could send in its open slot. -/
def State.ringFuel (s : State) (p : Nat) : Nat :=
  match s.slot p with
  | some w => (s.forwards (ringQueue (ringAcross p) w.stream)).length + (s.ownPackets (ringQueue p w.stream)).length
  | none => 0

/-- An open slot goes on. -/
def State.ringGo (s : State) (p : Nat) : State := State.ringPump (s.ringFuel p) s p

/-- The states of an engine (R262). -/
def neIDLE := 0
def neRUNNING := 1
def neHELD := 2
def neSPILLING := 3
def neRELOADING := 4
def neLOST := 5
def neVACANT := 6

/-- The state of an engine. -/
def State.engineState (s : State) (n : Nat) : Nat := s.fld (R.NME_STATUS n) F.NME_STATUS_STATE

/-- The state with that changed. -/
def State.setEngineState (s : State) (n st : Nat) : State := s.setFld (R.NME_STATUS n) F.NME_STATUS_STATE st

/-- An engine that takes packets: neither lost nor vacant. -/
def State.takesPackets (s : State) (n : Nat) : Bool := s.engineState n != neLOST && s.engineState n != neVACANT

/-- A packet is discarded and counted, and its credit returned (R238, R259). -/
def State.discardPacket (s : State) (incoming : Nat) (x : RingPacket) : State :=
  (s.bump (R.NME_CNT_RING (incoming / 2)) F.NME_CNT_RING_DISCARD).freeCredit incoming x

/-- The oldest packet on its way to a port arrives (R238, R239). -/
def State.ringArrive (s : State) (n west : Nat) (flips : Word) (spoiled : Bool) : State :=
  let p := 2 * n + west
  match s.wire p with
  | [] => s
  | sent :: rest =>
    let s := s.setWire p rest
    let errs := Tab.get (fun _ => 0) s.nme.ring.errors p
    let bad := spoiled || (bitsOf 64 flips.toNat).length % 2 == 1
    let s := s.setRingNet { s.nme.ring with
      errors := Tab.set (fun _ => 0) s.nme.ring.errors p (if bad then errs + 1 else 0) }
    let x : RingPacket := { sent with header := sent.header ^^^ flips }
    if bad || !x.sound then s.discardPacket p sent
    else if x.dest = n then
      if s.takesPackets n then
        let q := ringQueue p x.stream
        let k := s.nme.ring.arrivals
        State.setReceived (s.setRingNet { s.nme.ring with arrivals := k + 1 }) q (s.received q ++ [(k, x)])
      else s.discardPacket p x
    else
      let q := ringQueue p x.stream
      (s.setForwards q (s.forwards q ++ [x])).ringGo (ringAcross p)

/-- Slots do not start in HOLD (R241). -/
def bsHOLD := 4

/-- The beat logic is in HOLD (R44). -/
def State.inHold (s : State) : Bool := s.fld R.TGL_BEAT_STATUS F.TGL_BEAT_STATUS_STATE == bsHOLD

/-- The slot count in force at an engine (R240). -/
def State.slotCount (s : State) (n : Nat) : Nat := s.fld (R.NME_RING_CFG n) F.NME_RING_CFG_SLOTS

/-- Entry i of the active table of a port (R240). -/
def State.slotEntry (s : State) (n west i : Nat) : Nat :=
  let r := if west = 0 then R.NME_RING_ACTV_E n (i / 8) else R.NME_RING_ACTV_W n (i / 8)
  (s.reg r).toNat / 2 ^ (8 * (i % 8)) % 256

/-- A slot begins (R240, R241). -/
def State.slotStart (s : State) (n west i : Nat) : State :=
  let p := 2 * n + west
  if s.slotCount n ≤ i ∨ s.inHold then s
  else
    let s := s.setRingNet { s.nme.ring with slotNow := Tab.set (fun _ => 0) s.nme.ring.slotNow n (i + 1) }
    let e := s.slotEntry n west i
    if bit e 7 then
      match s.nextPacket p (e % 16) with
      | some _ => (s.setSlot p (some ⟨e % 16, s.now, s.beat.length * 6400 / s.slotCount n, 0⟩)).ringGo p
      | none => (s.setSlot p none).bump (R.NME_CNT_RING n) F.NME_CNT_RING_FORGONE
    else s.setSlot p none

/-- The credit that a neighbour has freed returns (R239). -/
def State.creditReturn (s : State) (n west : Nat) : State :=
  let p := 2 * n + west
  let keys := (List.range 16).flatMap fun st => [creditKey p st false, creditKey p st true]
  let s := keys.foldl (fun (s : State) k =>
    let f := Tab.get (fun _ => 0) s.nme.ring.freed k
    s.setRingNet { s.nme.ring with
      used := Tab.set (fun _ => 0) s.nme.ring.used k (Tab.get (fun _ => 0) s.nme.ring.used k - f),
      freed := Tab.set (fun _ => 0) s.nme.ring.freed k 0 }) s
  s.ringGo p

/-- The engine has slots of its own to send. -/
def State.sendsWait (s : State) (n : Nat) : Bool :=
  (List.range 32).any fun i => !(s.ownPackets (32 * n + i)).isEmpty

/-- Every packet that an engine has sent has been accepted by its neighbour (R307, R331). -/
def State.sendsDone (s : State) (n : Nat) : Bool :=
  !s.sendsWait n && [2 * n, 2 * n + 1].all fun p => (s.wire (ringPeer p)).all fun x => x.src != n

/-- The packets that an engine has still to send are dropped. -/
def State.dropSends (s : State) (n : Nat) : State :=
  (List.range 32).foldl (fun s i => s.setOwnPackets (32 * n + i) []) s

/-- An engine's packet joins its stream at a port. -/
def State.ringSend (s : State) (p : Nat) (x : RingPacket) : State :=
  (s.setOwnPackets (ringQueue p x.stream) (s.ownPackets (ringQueue p x.stream) ++ [x])).ringGo p

/-- The shadow tables and SLOTS_NEXT are armed for a beat (R242). -/
def State.ringArm (s : State) (n slots at' : Nat) : State :=
  ((s.setFld (R.NME_RING_ACT n) F.NME_RING_ACT_SLOTS_NEXT slots).setFld (R.NME_RING_ACT n) F.NME_RING_ACT_AT at').setFld
    (R.NME_RING_ACT n) F.NME_RING_ACT_ARMED 1

/-- The tables of an engine activate (R242). -/
def State.ringActivate (s : State) (n : Nat) : State :=
  let s := (List.range 8).foldl (fun (s : State) j =>
    (s.setReg (R.NME_RING_ACTV_E n j) (s.reg (R.NME_RING_TBL_E n j))).setReg (R.NME_RING_ACTV_W n j)
      (s.reg (R.NME_RING_TBL_W n j))) s
  State.raise ((s.setFld (R.NME_RING_CFG n) F.NME_RING_CFG_SLOTS
    (s.fld (R.NME_RING_ACT n) F.NME_RING_ACT_SLOTS_NEXT)).setFld (R.NME_RING_ACT n) F.NME_RING_ACT_ARMED 0) (513 + 2 * n)

/-- A local edge passes for the ring (R240, R242, R48): the slots of the beat have yet to begin, those of skipped beats
are forgone, and the tables whose beat has come activate. -/
def State.ringEdge (s : State) (skipped : Nat) : State :=
  let s := s.setRingNet { s.nme.ring with slotNow := [], slots := [] }
  (List.range 16).foldl (fun (s : State) n =>
    let valid := fun w => ((List.range (s.slotCount n)).filter fun i => bit (s.slotEntry n w i) 7).length
    let s := if skipped = 0 then s
      else s.bump (R.NME_CNT_RING n) F.NME_CNT_RING_FORGONE (skipped * (valid 0 + valid 1))
    if s.flag (R.NME_RING_ACT n) F.NME_RING_ACT_ARMED && decide (s.fld (R.NME_RING_ACT n) F.NME_RING_ACT_AT ≤ s.beatNow)
    then s.ringActivate n else s) s

end Sys2Proof.Machine
end

