-- ==== Sys2Proof/Machine/Engine.lean ====
section
/-!
DEFINITION. An engine and its job: the program state of R295, the fields of an instruction word (R296 to R298), issue in
program order (R335), and the stop of a job (R338).
-/
namespace Sys2Proof.Machine

/-- The reasons of R253. -/
def jrRESERVED_VALUE := 1
def jrRESERVED_FIELD := 2
def jrOPERAND_ADDR := 3
def jrZERO_DIM := 4
def jrSHADOW := 6
def jrPROGRAM := 0x10
def jrEXTENT := 0x11
def jrGENERATOR := 0x12
def jrINSTRUCTION := 0x13

/-- A generator without a stream, in linear mode (R295). -/
def Generator.unbound : Generator :=
  ⟨false, 0, 0, false, 0, false, true, [], false, [(1, 0), (1, 0), (1, 0), (1, 0)], 1, 0, 0, 0, 0, false, 0, 0, []⟩

/-- An engine that has run nothing: scratch reads as zero. -/
def EngineState.idle : EngineState :=
  ⟨none, false, none, [], 0, [], [], [], [], [], [], [], 0, 0, 96, 0, [], [], 0, none, none, false, false⟩

/-- An engine. -/
def State.engine (s : State) (n : Nat) : EngineState := Tab.get (fun _ => EngineState.idle) s.nme.engines n

/-- The state with an engine replaced. -/
def State.setEngine (s : State) (n : Nat) (e : EngineState) : State :=
  { s with nme := { s.nme with engines := Tab.set (fun _ => EngineState.idle) s.nme.engines n e } }

/-- A scalar register: x0 reads 0 (R295). -/
def EngineState.get (e : EngineState) (i : Nat) : Word := if i = 0 then 0 else Tab.get (fun _ => 0) e.x i

/-- A scalar register takes a value; a write of x0 is discarded (R295). -/
def EngineState.put (e : EngineState) (i : Nat) (v : Word) : EngineState :=
  if i = 0 then e else { e with x := Tab.set (fun _ => 0) e.x i v }

/-- A generator, and the engine with it replaced. -/
def EngineState.gen (e : EngineState) (g : Nat) : Generator := Tab.get (fun _ => Generator.unbound) e.gens g
def EngineState.setGen (e : EngineState) (g : Nat) (x : Generator) : EngineState :=
  { e with gens := Tab.set (fun _ => Generator.unbound) e.gens g x }

/-- The rows in force (R317). -/
def EngineState.rows (e : EngineState) : List Nat := (List.range e.rowCount).map (e.rowBase + ·)

/-- Where a byte of a tile, and a lane of an accumulator, stand; both may lie in a later register of a span. -/
def tileKey (t r b : Nat) : Nat := (96 * (t + b / 1024) + r) * 1024 + b % 1024
def laneKey (a r l : Nat) : Nat := (96 * (a + l / 256) + r) * 256 + l % 256

/-- `n` bytes of a tile row from byte `off`. -/
def EngineState.tileBytes (e : EngineState) (t r off n : Nat) : List Byte :=
  (List.range n).map fun i => Tab.get (fun _ => 0) e.tiles (tileKey t r (off + i))

/-- `n` lanes of an accumulator row. -/
def EngineState.lanes (e : EngineState) (a r n : Nat) : List Nat :=
  (List.range n).map fun l => Tab.get (fun _ => 0) e.accs (laneKey a r l)

/-- The engine with bytes of a tile row replaced, from byte `off` on. -/
def EngineState.setTileBytes (e : EngineState) (t r off : Nat) (bs : List Byte) : EngineState :=
  { e with tiles := bs.zipIdx.foldl (fun m b => Tab.set (fun _ => 0) m (tileKey t r (off + b.2)) b.1) e.tiles }

/-- The engine with lanes of an accumulator row replaced, from lane `off` on. -/
def EngineState.setLanes (e : EngineState) (a r off : Nat) (vs : List Nat) : EngineState :=
  { e with accs := vs.zipIdx.foldl (fun m v => Tab.set (fun _ => 0) m (laneKey a r (off + v.2)) v.1) e.accs }

/-- The format tag of a tile (R315), and a span of tiles with a tag. -/
def EngineState.tag (e : EngineState) (t : Nat) : Nat := Tab.get (fun _ => 0) e.tags t
def EngineState.setTags (e : EngineState) (t span fmt : Nat) : EngineState :=
  { e with tags := (List.range span).foldl (fun m i => Tab.set (fun _ => 0) m (t + i) fmt) e.tags }

/-- The row scale of a tile row (R316). -/
def EngineState.rowScale (e : EngineState) (t r : Nat) : Nat := Tab.get (fun _ => 0) e.scales (96 * t + r)
def EngineState.setRowScale (e : EngineState) (t r v : Nat) : EngineState :=
  { e with scales := Tab.set (fun _ => 0) e.scales (96 * t + r) v }

/-- Arithmetic flags are sticky (R291). -/
def EngineState.flag (e : EngineState) (f : Nat) : EngineState := { e with flags := e.flags ||| f }

/-- The started jobs of a ring, oldest first. -/
def State.jobs (s : State) (k : Nat) : List Job := Tab.get (fun _ => []) s.nme.jobs k

/-- A job in the scoreboard after a fault: at release, or spilled (R255). -/
def Job.inScoreboard (j : Job) : Bool :=
  match j.phase with
  | .faulted | .again | .spilled _ | .waiting _ => true
  | _ => false

/-- The spill slot that a job uses. -/
def Job.slot (j : Job) : Option Nat :=
  match j.phase with
  | .spilling s | .spilled s | .waiting s => some s
  | _ => none

/-- The jobs of a die. -/
def State.jobsOf (s : State) (d : Nat) : List Job := (List.range 32).flatMap fun r => s.jobs (jobKey d r)

/-- DSP_STATUS shows the jobs in the scoreboard after a fault and the spill slots in use; source 546 + 8d tells that
the last slot has been taken (R261). -/
def State.showJobs (s : State) (d : Nat) : State :=
  let l := s.jobsOf d
  let used := (l.filterMap Job.slot).length
  let before := s.fld (R.DSP_STATUS d) F.DSP_STATUS_SPILL_USED
  let s := (s.setFld (R.DSP_STATUS d) F.DSP_STATUS_HELD_JOBS (l.filter Job.inScoreboard).length).setFld (R.DSP_STATUS d)
    F.DSP_STATUS_SPILL_USED used
  if before < used ∧ used = s.fld (R.DSP_SPILL d) F.DSP_SPILL_SLOTS then s.raise (546 + 8 * d) else s

/-- The state with the jobs of a ring replaced. -/
def State.setJobs (s : State) (k : Nat) (l : List Job) : State :=
  State.showJobs { s with nme := { s.nme with jobs := Tab.set (fun _ => []) s.nme.jobs k l } } (dieOf k)

/-- A started job. -/
def State.job (s : State) (k number : Nat) : Option Job := (s.jobs k).find? fun j => j.number == number

/-- The state with one job replaced. -/
def State.setJob (s : State) (k : Nat) (j : Job) : State :=
  s.setJobs k ((s.jobs k).map fun x => if x.number = j.number then j else x)

/-- The job that an engine is reserved for, with its ring. -/
def State.jobAt (s : State) (n : Nat) : Option (Nat × Job) :=
  match (s.engine n).job with
  | some (k, number) => (s.job k number).map fun j => (k, j)
  | none => none

/-- A condition is met by a job (R13, R253). -/
def Job.note (j : Job) (c detail : Nat) : Job :=
  { j with status := worse j.status c, detail := if c = scDESCRIPTOR_ERROR ∧ j.status ≠ c then detail else j.detail }

/-- The job of an engine stops issuing (R338): its accesses drain, and packets it has not sent are dropped. -/
def State.stopJob (s : State) (n c detail : Nat) : State :=
  match s.jobAt n with
  | some (k, j) =>
    let s := s.setEngine n { s.engine n with live := false, taken := none, aim := none }
    (s.dropSends n).setJob k { j.note c detail with phase := .finished }
  | none => s

/-- A job stops for a reason of R253. -/
def State.stopReason (s : State) (n reason : Nat) : State := s.stopJob n scDESCRIPTOR_ERROR reason

/-- An access of an engine has ended with a status (R338): every status but DONE and DATA_ERROR stops the job. -/
def State.engineNote (s : State) (n c : Nat) : State :=
  match s.jobAt n with
  | some (k, j) =>
    let s := s.setJob k { j.note c jrOPERAND_ADDR with flags := j.flags ||| flagOf c }
    if c = scDONE ∨ c = scDATA_ERROR ∨ j.phase = .finished then s else s.stopJob n c jrOPERAND_ADDR
  | none => s

/-- Bytes whose writes were acknowledged (R253). -/
def State.engineWrote (s : State) (n b : Nat) : State :=
  match s.jobAt n with
  | some (k, j) => s.setJob k { j with bytes := j.bytes + b }
  | none => s

/-- A field of an instruction word, a field of one bit, and a two's-complement field. -/
def fieldOf (w hi lo : Nat) : Nat := Word.slice w hi lo
def bitOf (w i : Nat) : Bool := bit w i
def signedField (w hi lo : Nat) : Int := asSigned (hi - lo + 1) (fieldOf w hi lo)

/-- The opcode (R296). -/
def opcode (w : Nat) : Nat := fieldOf w 63 56

/-- The row of the opcode table that a word belongs to: its opcode, and SEL of a GCFG or RING of a token instruction. -/
def rowKey (w : Nat) : Nat × Nat :=
  let op := opcode w
  (op, if op = 0x20 then (if fieldOf w 51 48 < 4 then 0 else fieldOf w 51 48)
    else if op = 0x15 ∨ op = 0x16 then fieldOf w 55 55 else 0)

/-- An opcode of R297, and for GCFG a SEL of R309. -/
def knownOpcode (w : Nat) : Bool :=
  let op := opcode w
  ((1 ≤ op && op ≤ 0xE) || (0x10 ≤ op && op ≤ 0x1A) || (0x20 ≤ op && op ≤ 0x22) || (0x30 ≤ op && op ≤ 0x44) ||
    (0x48 ≤ op && op ≤ 0x4A) || op == 0x50 || op == 0x51 || (0x58 ≤ op && op ≤ 0x5A) || op == 0x60) &&
    (op != 0x20 || decide (fieldOf w 51 48 < 8))

/-- The bits [55:0] that an opcode leaves reserved (R296, R298, R309). Fields of format G and P that name another
instruction are among them; a field that an instruction has and does not use is not. -/
def reservedBits (w : Nat) : List (Nat × Nat) :=
  let op := opcode w
  if op ≤ 0xE then [(40, 32)]
  else if op ≤ 0x11 then [(55, 0)]
  else if op = 0x12 then [(41, 24)]
  else if op = 0x13 then [(55, 52), (46, 12)]
  else if op = 0x14 then [(55, 52), (39, 0)]
  else if op ≤ 0x16 then [(37, 16)]
  else if op ≤ 0x18 then [(50, 8)]
  else if op ≤ 0x1A then [(45, 24)]
  else if op = 0x20 then
    if fieldOf w 51 48 = 7 then [(37, 32), (30, 6)] else [(37, 0)]
  else if op = 0x21 then [(51, 48), (33, 32)]
  else if op = 0x22 then [(51, 48), (37, 32)]
  else if op = 0x58 ∨ op = 0x59 then [(23, 0)]
  else if op = 0x5A then [(19, 0)]
  else if op = 0x60 then [(52, 0)]
  else []

/-- A word with a reserved bit set (R296). -/
def hasReserved (w : Nat) : Bool := (reservedBits w).any fun r => fieldOf w r.1 r.2 != 0

/-- An engine that issues: it runs a job, and the limiter does not gate its clock (R237). -/
def State.issues (s : State) (n : Nat) : Bool :=
  s.engineState n == neRUNNING && (s.engine n).live && !s.flag (R.NME_STATUS n) F.NME_STATUS_CLK_GATED

/-- An engine issues its next instruction, when that is the one named (R294, R296, R335). An index outside the image and
a reserved opcode stop the job. -/
def State.issue (s : State) (n : Nat) (key : Nat × Nat) (act : State → Nat → State) : State :=
  if s.issues n then
    match (s.engine n).code[(s.engine n).pc]? with
    | none => s.stopReason n jrINSTRUCTION
    | some w =>
      if !knownOpcode w then s.stopReason n jrINSTRUCTION
      else if rowKey w = key then act s w else s
  else s

/-- The lowest-numbered reason among the checks that fail (R253). -/
def failing (checks : List (Nat × Bool)) : Option Nat :=
  (checks.filter Prod.snd).foldl (fun m c => match m with | some r => some (min r c.1) | none => some c.1) none

/-- An instruction that passes its checks has its effect; another stops the job (R253, R338). -/
def State.guarded (s : State) (n : Nat) (checks : List (Nat × Bool)) (act : State → State) : State :=
  match failing checks with
  | some r => s.stopReason n r
  | none => act s

/-- Where execution goes from an index, through the ends of loop bodies (R301). -/
def passLoops : List LoopFrame → Nat → List LoopFrame × Nat
  | [], pc => ([], pc)
  | f :: rest, pc =>
    if pc = f.after then
      if f.iteration + 1 < f.count then ({ f with iteration := f.iteration + 1 } :: rest, f.first)
      else passLoops rest pc
    else (f :: rest, pc)

/-- The engine with its next instruction at an index. -/
def EngineState.goTo (e : EngineState) (pc : Nat) : EngineState :=
  let (l, pc) := passLoops e.loops pc
  { e with loops := l, pc := pc }

/-- The engine past the instruction just issued. -/
def EngineState.next (e : EngineState) : EngineState := e.goTo (e.pc + 1)

/-- The engine changes and goes on to its next instruction. -/
def State.retire (s : State) (n : Nat) (f : EngineState → EngineState) : State := s.setEngine n (f (s.engine n)).next

/-- The class and context of an engine's job, and its requester identity (R235, R381). -/
def State.engineAccess (s : State) (n gen hint : Nat) : Access :=
  match (s.engine n).job with
  | some (k, _) => ⟨s.qCtx k, s.qClass k, hint, 10000 + 64 * n + gen⟩
  | none => ⟨0, 0, hint, 10000 + 64 * n + gen⟩
def engineRid (n : Nat) : Nat := 2048 * (n / 2) + 512 + n % 2

end Sys2Proof.Machine
end

