-- ==== Sys2Proof/Machine/NmeScalar.lean ====
section
/-!
DEFINITION. The scalar and control instructions of the engines (R299 to R307, R334): arithmetic on x registers,
branches and loops, waits, special registers, scratch words, END and FENCE.
-/
namespace Sys2Proof.Machine

/-- The fields of format S. -/
def sRD (w : Nat) : Nat := fieldOf w 55 51
def sRS1 (w : Nat) : Nat := fieldOf w 50 46
def sRS2 (w : Nat) : Nat := fieldOf w 45 41
def sIMM (w : Nat) : Word := BitVec.ofInt 64 (signedField w 31 0)

/-- The check of reserved bits, by itself. -/
def plainCheck (w : Nat) : List (Nat × Bool) := [(jrINSTRUCTION, hasReserved w)]

/-- A scalar instruction: x[RD] becomes a function of x[RS1], x[RS2] and IMM (R299). -/
def State.scalar (s : State) (n op : Nat) (f : Word → Word → Word → Word) : State :=
  s.issue n (op, 0) fun s w => s.guarded n (plainCheck w) fun s =>
    s.retire n fun e => e.put (sRD w) (f (e.get (sRS1 w)) (e.get (sRS2 w)) (sIMM w))

/-- The operations of R299. -/
def opADD (a b _ : Word) : Word := a + b
def opSUB (a b _ : Word) : Word := a - b
def opMUL (a b _ : Word) : Word := a * b
def opAND (a b _ : Word) : Word := a &&& b
def opOR (a b _ : Word) : Word := a ||| b
def opXOR (a b _ : Word) : Word := a ^^^ b
def opSLL (a b _ : Word) : Word := a <<< (b.toNat % 64)
def opSRL (a b _ : Word) : Word := a >>> (b.toNat % 64)
def opSRA (a b _ : Word) : Word := a.sshiftRight (b.toNat % 64)
def opMIN (a b _ : Word) : Word := if a.slt b then a else b
def opMAX (a b _ : Word) : Word := if a.slt b then b else a
def opADDI (a _ i : Word) : Word := a + i
def opLI (_ _ i : Word) : Word := i
def opLUI (a _ i : Word) : Word := (i <<< 32) ||| (a &&& 0xFFFFFFFF#64)

/-- NOP (R297). -/
def State.nmeNop (s : State) (n : Nat) : State :=
  s.issue n (0x10, 0) fun s w => s.guarded n (plainCheck w) fun s => s.retire n id

/-- Every stream of an engine's generators stands admitted. -/
def EngineState.admitted (e : EngineState) : Bool := e.gens.all fun g => !g.2.bound || g.2.admitted

/-- END (R307): it issues once every SOPEN before it has completed. -/
def State.nmeEnd (s : State) (n : Nat) : State :=
  s.issue n (0x11, 0) fun s w => s.guarded n (plainCheck w) fun s =>
    let e := s.engine n
    if !e.admitted then s
    else
      let s := s.setEngine n { e with live := false, ended := true }
      match s.jobAt n with
      | some (k, j) => s.setJob k { j with phase := .finished }
      | none => s

/-- The conditions of R300. -/
def branchTaken (cond : Nat) (a b : Word) : Bool :=
  match cond with
  | 0 => true
  | 1 => a == b
  | 2 => a != b
  | 3 => a.slt b
  | 4 => !a.slt b
  | 5 => a.ult b
  | _ => !a.ult b

/-- A target outside the innermost active body, or, with none active, before the program (R301). -/
def EngineState.outOfBody (e : EngineState) (target : Int) : Bool :=
  match e.loops with
  | f :: _ => decide (target < (f.first : Int) ∨ (f.after : Int) ≤ target)
  | [] => decide (target < 0)

/-- BR (R300, R301). -/
def State.nmeBr (s : State) (n : Nat) : State :=
  s.issue n (0x12, 0) fun s w =>
    let e := s.engine n
    let taken := branchTaken (fieldOf w 55 52) (e.get (fieldOf w 51 47)) (e.get (fieldOf w 46 42))
    let target : Int := (e.pc : Int) + signedField w 23 0
    s.guarded n [(jrINSTRUCTION, hasReserved w || decide (6 < fieldOf w 55 52) || (taken && e.outOfBody target))] fun s =>
      if taken then s.setEngine n { e with pc := target.toNat } else s.retire n id

/-- A body that runs past the end of the innermost active body (R301). -/
def EngineState.pastBody (e : EngineState) (after : Nat) : Bool :=
  match e.loops with
  | f :: _ => decide (f.after < after)
  | [] => false

/-- LOOP (R301). -/
def State.nmeLoop (s : State) (n : Nat) : State :=
  s.issue n (0x13, 0) fun s w =>
    let e := s.engine n
    let body := fieldOf w 11 0
    let after := e.pc + 1 + body
    s.guarded n [(jrINSTRUCTION, hasReserved w || body == 0 || decide (4 ≤ e.loops.length) || e.pastBody after)] fun s =>
      let count := (e.get (fieldOf w 51 47)).toNat % 2 ^ 32
      if count = 0 then s.setEngine n (e.goTo after)
      else s.setEngine n { e with pc := e.pc + 1, loops := ⟨e.pc + 1, after, 0, count⟩ :: e.loops }

/-- The slots of this beat that have begun at an engine. -/
def State.slotsBegun (s : State) (n : Nat) : Nat := Tab.get (fun _ => 0) s.nme.ring.slotNow n

/-- WAITBEAT (R302). -/
def State.nmeWaitbeat (s : State) (n : Nat) : State :=
  s.issue n (0x14, 0) fun s w => s.guarded n (plainCheck w) fun s =>
    let e := s.engine n
    let beat := (e.get (fieldOf w 51 47)).toNat % 2 ^ 48
    let slot := fieldOf w 45 40
    let now := s.beatNow
    if bitOf w 46 then
      let begun := decide (slot < s.slotsBegun n)
      let aim := e.aim.getD (if beat ≤ now ∧ begun then now + 1 else max beat now)
      if slot < s.slotCount n ∧ (aim < now ∨ (aim = now ∧ begun)) then s.setEngine n { e with aim := none }.next
      else s.setEngine n { e with aim := some aim }
    else if beat ≤ now then s.retire n id
    else s

/-- The token of WAITTOK and POSTTOK: (x[RS] + IMM) bits [15:0]. -/
def tokenOf (e : EngineState) (w : Nat) : Nat := ((e.get (fieldOf w 51 47)).toNat + fieldOf w 15 0) % 2 ^ 16

/-- WAITTOK with RING 0 (R303). -/
def State.nmeWaittok (s : State) (n : Nat) : State :=
  s.issue n (0x15, 0) fun s w => s.guarded n (plainCheck w) fun s =>
    let t := tokenOf (s.engine n) w
    if s.tokPresent (n / 2) (t / 16) (t % 16) then s.retire n id else s

/-- WAITTOK with RING 1 (R303). -/
def State.nmeWaitRing (s : State) (n : Nat) : State :=
  s.issue n (0x15, 1) fun s w => s.guarded n (plainCheck w) fun s =>
    let p := 2 * n + fieldOf w 46 46
    let q := ringQueue p (fieldOf w 45 42)
    match s.received q with
    | (_, x) :: rest =>
      if x.kind = rkTOKEN then
        ((s.setReceived q rest).freeCredit p x).retire n fun e => { e with ringUsed := true }
      else s
    | [] => s

/-- POSTTOK with RING 0 (R304): after every earlier write of the job is visible. -/
def State.nmePosttok (s : State) (n : Nat) : State :=
  s.issue n (0x16, 0) fun s w => s.guarded n (plainCheck w) fun s =>
    let e := s.engine n
    let t := tokenOf e w
    if e.accesses.any EngineAccess.write then s
    else (s.tokPost (fieldOf w 54 52) (t / 16) (t % 16)).retire n id

/-- POSTTOK with RING 1 (R304). -/
def State.nmePostRing (s : State) (n : Nat) : State :=
  s.issue n (0x16, 1) fun s w => s.guarded n (plainCheck w) fun s =>
    (s.retire n fun e => { e with ringUsed := true }).ringSend (2 * n + fieldOf w 46 46)
      (RingPacket.make rkTOKEN (fieldOf w 41 38) n (fieldOf w 45 42) [])

/-- The LFSR state of an engine (R279, R280). -/
def State.srState (s : State) (n : Nat) : Nat := s.fld (R.NME_SR_SEED n) F.NME_SR_SEED_STATE

/-- A special register as RDS reads it (R305). -/
def State.readSpr (s : State) (n spr : Nat) : Nat :=
  let e := s.engine n
  match spr with
  | 0 => e.flags
  | 1 => s.srState n
  | 2 => s.beatNow
  | 3 => n + 16 * (n / 2)
  | 4 => e.rowBase
  | 5 => e.rowCount
  | 6 => e.cycles
  | 7 => (s.slotsBegun n - 1) + 256 * s.slotCount n
  | k => if 8 ≤ k ∧ k ≤ 11 then ((e.loops[k - 8]?).map LoopFrame.iteration).getD 0 else 0

/-- RDS (R305). -/
def State.nmeRds (s : State) (n : Nat) : State :=
  s.issue n (0x17, 0) fun s w =>
    s.guarded n [(jrINSTRUCTION, hasReserved w || decide (11 < fieldOf w 7 0))] fun s =>
      let v := s.readSpr n (fieldOf w 7 0)
      s.retire n fun e => e.put (fieldOf w 55 51) (BitVec.ofNat 64 v)

/-- WRS (R305). -/
def State.nmeWrs (s : State) (n : Nat) : State :=
  s.issue n (0x18, 0) fun s w =>
    let spr := fieldOf w 7 0
    s.guarded n [(jrINSTRUCTION, hasReserved w || !([1, 4, 5].contains spr))] fun s =>
      let v := ((s.engine n).get (fieldOf w 55 51)).toNat
      if spr = 1 then
        (if v % 2 ^ 32 = 0 then s else s.setFld (R.NME_SR_SEED n) F.NME_SR_SEED_STATE (v % 2 ^ 32)).retire n id
      else if spr = 4 then s.retire n fun e => { e with rowBase := v % 128 }
      else s.retire n fun e => { e with rowCount := v % 128 }

/-- The bytes of scratch (R233). -/
def scratchSize := 0x1800000

/-- Bytes of scratch are read; errors in the words touched are counted, and an uncorrectable word is undefined (R236). -/
def State.scratchRead (s : State) (n : Nat) (hit : ScratchHit) (a len : Nat) : List Byte × State :=
  let meets := fun (l : List (BitVec 25)) (u : Nat) => l.any fun b => b.toNat / 8 == u / 8
  (cutRun 8 a len).foldl (fun (acc : List Byte × State) u =>
    let s := acc.2
    if meets hit.ue u.1 then
      let (free, s) := (s.bump (R.NME_CNT_SCR n) F.NME_CNT_SCR_UE).freeBytes u.2
      (acc.1 ++ free, s.engineNote n scDATA_ERROR)
    else
      (acc.1 ++ readCells ramDefault (s.engine n).scratch u.1 u.2,
        if meets hit.ce u.1 then s.bump (R.NME_CNT_SCR n) F.NME_CNT_SCR_CE else s)) ([], s)

/-- Bytes of scratch are written. -/
def State.scratchWrite (s : State) (n a : Nat) (bs : List Byte) : State :=
  let e := s.engine n
  s.setEngine n { e with scratch := writeCells ramDefault e.scratch a bs }

/-- The scratch address of LDX and STX (R306). -/
def scratchAddr (e : EngineState) (w : Nat) : Nat :=
  (e.get (fieldOf w 50 46) + BitVec.ofInt 64 (signedField w 23 0)).toNat

/-- The checks of LDX and STX (R306). -/
def scratchChecks (e : EngineState) (w : Nat) : List (Nat × Bool) :=
  [(jrINSTRUCTION, hasReserved w || scratchAddr e w % 8 != 0 || decide (scratchSize ≤ scratchAddr e w))]

/-- LDX (R306). -/
def State.nmeLdx (s : State) (n : Nat) (hit : ScratchHit) : State :=
  s.issue n (0x19, 0) fun s w => s.guarded n (scratchChecks (s.engine n) w) fun s =>
    let (bs, s) := s.scratchRead n hit (scratchAddr (s.engine n) w) 8
    s.retire n fun e => e.put (fieldOf w 55 51) (BitVec.ofNat 64 (Word.ofBytes bs))

/-- STX (R306). -/
def State.nmeStx (s : State) (n : Nat) : State :=
  s.issue n (0x1A, 0) fun s w => s.guarded n (scratchChecks (s.engine n) w) fun s =>
    let e := s.engine n
    (s.scratchWrite n (scratchAddr e w) (Word.bytes 8 (e.get (fieldOf w 55 51)).toNat)).retire n id

/-- An engine's writes that a fence waits for (R105). -/
def State.engineWritesWaiting (s : State) (n : Nat) : Bool :=
  s.fenceWaits fun w =>
    match w with
    | .engine m id => m == n && (s.engine n).accesses.any fun a => a.id == id && a.write
    | _ => false

/-- FENCE (R105, R334): reads complete at the instruction that consumes them; a SEND is a write that is visible once
the neighbour has accepted it. -/
def State.nmeFence (s : State) (n : Nat) : State :=
  s.issue n (0x60, 0) fun s w =>
    let kind := fieldOf w 55 53
    s.guarded n [(jrINSTRUCTION, hasReserved w || kind == 0 || decide (4 < kind))] fun s =>
      let e := s.engine n
      let kept := match kind with
        | 1 => e.accesses.all fun a => a.write
        | 4 => e.accesses.isEmpty && s.sendsDone n
        | _ => (kind == 2 || e.accesses.all fun a => a.write) && !s.engineWritesWaiting n && s.sendsDone n
      if kept then s.retire n id else s

end Sys2Proof.Machine
end

