-- ==== Sys2Proof/Machine/Stream.lean ====
section
/-!
DEFINITION. Streams and address generators (R308 to R314): patterns, indirect modes, the accesses an engine makes through
a generator, GCFG, SOPEN and SCLOSE.
-/
namespace Sys2Proof.Machine

/-- The elements of a pattern before it restarts. -/
def Generator.elements (g : Generator) : Nat := (g.levels.map Prod.fst).foldl (· * ·) 1

/-- The offset of a pattern's element: Σ i_L × STRIDE_L (R308). -/
def elementOffset : List (Nat × Int) → Nat → Int
  | [], _ => 0
  | (c, st) :: rest, e => ((e % c : Nat) : Int) * st + elementOffset rest (e / c)

/-- Where a byte of the sequence lies, from BASE and without a row term, and how many bytes go on contiguously from it;
`idx` gives the index of an element in ELEM mode (R308, R311). -/
def Generator.place (g : Generator) (idx : Nat → Nat) (p len : Nat) : Int × Nat :=
  if g.indirect = 1 then (g.offset + (idx (p / g.run) : Int) * g.scale + ((p % g.run : Nat) : Int), g.run - p % g.run)
  else if g.pattern then
    (g.offset + elementOffset g.levels (p / g.run % g.elements) + ((p % g.run : Nat) : Int), g.run - p % g.run)
  else ((g.offset + p : Nat), len)

/-- `len` bytes of the sequence from a position, as runs. -/
def Generator.runs (g : Generator) (idx : Nat → Nat) : Nat → Nat → Nat → List (Int × Nat)
  | 0, _, _ => []
  | k + 1, p, len =>
    if len = 0 then []
    else
      let (o, avail) := g.place idx p len
      let n := max 1 (min len avail)
      (o, n) :: Generator.runs g idx k (p + n) (len - n)

/-- What a row adds to the addresses (R310, R311). -/
def Generator.rowTerm (g : Generator) (r : Nat) : Int :=
  (r : Int) * g.rowStride + if g.indirect = 2 then Int.ofNat (Tab.get (fun _ => 0) g.latched r) * g.scale else 0

/-- Runs with a row's term. -/
def shiftRuns (t : Int) (l : List (Int × Nat)) : List (Int × Nat) := l.map fun x => (x.1 + t, x.2)

/-- A run outside [BASE, BASE + EXTENT − 1] (R235). -/
def Generator.outside (g : Generator) (l : List (Int × Nat)) : Bool :=
  l.any fun x => decide (x.1 < 0 ∨ (g.extent : Int) < x.1 + (x.2 : Int))

/-- A generator that an instruction may not read, or write, through (R308, R314). -/
def EngineState.genBad (e : EngineState) (g : Nat) (write : Bool) : Bool := !(e.gen g).bound || (e.gen g).wr != write

/-- Gi of a generator in ELEM mode: a bound read stream other than itself, not in ELEM mode (R311). -/
def EngineState.indexBad (e : EngineState) (g gi : Nat) : Bool := g == gi || e.genBad gi false || (e.gen gi).indirect == 1

/-- The pieces of a run, by operand address: each stays within an aligned 16 KiB. -/
def Generator.pieces (g : Generator) (x : Int × Nat) : List (Nat × Nat) :=
  (cutRun 16384 (opPlus g.base x.1) x.2).map fun u => (translate g.shadow u.1, u.2)

/-- The pieces of runs that lie on other modules. -/
def State.farPieces (s : State) (g : Generator) (l : List (Int × Nat)) : List (Nat × Nat) :=
  if g.scratch then [] else (l.flatMap g.pieces).filter fun u => !s.inHouse u.1

/-- An engine's access of a piece that has gone over Thegief. -/
def EngineState.access (e : EngineState) (gen : Nat) (u : Nat × Nat) : Option EngineAccess :=
  e.accesses.find? fun a => a.gen == gen && !a.write && a.addr == u.1 && a.len == u.2

/-- A husk of an engine's (R381). -/
def State.engineHusk (s : State) (n typ pa len opx : Nat) (payload : List Byte) : Husk :=
  { Husk.zero with
    typ := typ, dest := pa / 2 ^ 41 % 64, cls := (s.engineAccess n 0 0).cls, len := len, rid := engineRid n,
    addr := pa % 2 ^ 41, ctx := (s.engineAccess n 0 0).ctx, opx := opx, payload := payload }

/-- An access goes out over Thegief. -/
def State.engineAsk (s : State) (n gen : Nat) (u : Nat × Nat) (write : Bool) (h : Husk) : State :=
  let e := s.engine n
  (s.setEngine n { e with
    accesses := e.accesses ++ [⟨e.nextId, gen, u.1, u.2, write, none⟩], nextId := e.nextId + 1 }).sendRequest h
    (.engine n e.nextId)

/-- A piece is read: from this module, or from the answer that came over Thegief. A piece whose read fails is missing. -/
def State.readPiece (s : State) (n gen : Nat) (u : Nat × Nat) : List Byte × State :=
  let g := (s.engine n).gen gen
  if s.inHouse u.1 then
    let (c, bs, s) := s.memRead (s.engineAccess n gen g.hint) (u.1 % 2 ^ 41) u.2 true
    (bs, s.engineNote n c)
  else
    match (s.engine n).access gen u with
    | some a => (a.answer.elim [] Prod.snd, s.engineNote n (a.answer.elim scDONE Prod.fst))
    | none => ([], s)

/-- Runs are read in order. -/
def State.readRuns (s : State) (n : Nat) (hit : ScratchHit) (gen : Nat) (l : List (Int × Nat)) : List Byte × State :=
  let g := (s.engine n).gen gen
  l.foldl (fun (acc : List Byte × State) x =>
    if g.scratch then
      let (bs, s) := acc.2.scratchRead n hit (opPlus g.base x.1) x.2
      (acc.1 ++ bs, s)
    else
      (g.pieces x).foldl (fun (acc : List Byte × State) u =>
        let (bs, s) := acc.2.readPiece n gen u
        (acc.1 ++ bs, s)) acc) ([], s)

/-- The bytes of several lists of runs, read in order. -/
def State.readRows (s : State) (n : Nat) (hit : ScratchHit) (gen : Nat) (rows : List (List (Int × Nat))) :
    List (List Byte) × State :=
  rows.foldl (fun (acc : List (List Byte) × State) l =>
    let r := acc.2.readRuns n hit gen l
    (acc.1 ++ [r.1], r.2)) ([], s)

/-- The data of a generator's runs, one list of runs for each row: an instruction that consumes bytes of another module
waits for them; a read whose status stops the job (R338) ends it here. -/
def State.withData (s : State) (n : Nat) (hit : ScratchHit) (gen : Nat) (rows : List (List (Int × Nat)))
    (k : List (List Byte) → State → State) : State :=
  let g := (s.engine n).gen gen
  let far := (s.farPieces g rows.flatten).eraseDups
  let missing := far.filter fun u => ((s.engine n).access gen u).isNone
  if !missing.isEmpty then
    missing.foldl (fun s u => s.engineAsk n gen u false (s.engineHusk n Husk.RD u.1 u.2 g.hint [])) s
  else if far.any fun u => ((s.engine n).access gen u).any fun a => a.answer.isNone then s
  else
    let r := s.readRows n hit gen rows
    if (r.2.engine n).live then k r.1 r.2 else r.2

/-- The bytes of an index (R309). -/
def Generator.indexBytes (g : Generator) : Nat := if g.wide then 8 else 4

/-- How many elements begin before a position. -/
def Generator.begun (g : Generator) (p : Nat) : Nat := (p + g.run - 1) / g.run

/-- An index of a row, from the bytes read of it. -/
def indexOf (width : Nat) (bs : List Byte) (i : Nat) : Nat := Word.ofBytes ((bs.drop (width * i)).take width)

/-- The runs of `len` bytes from `skip` bytes after the cursor, for each row or once for all; `idx` gives the index of a
row's element in ELEM mode (R310, R311). -/
def Generator.spans (g : Generator) (rows : List Nat) (shared : Bool) (skip len : Nat) (idx : Nat → Nat → Nat) :
    List (List (Int × Nat)) :=
  if shared then [g.runs (idx 0) len (g.cursor + skip) len]
  else rows.map fun r => shiftRuns (g.rowTerm r) (g.runs (idx r) len (g.cursor + skip) len)

/-- The runs of a generator that an instruction consumes: `len` bytes for each of the rows, or once for all where it
consumes the stream shared (R310), `skip` bytes after the cursor. In ELEM mode the indices are read first. An address
outside the extent stops the job (R235). -/
def State.withRuns (s : State) (n : Nat) (hit : ScratchHit) (gen : Nat) (rows : List Nat) (shared : Bool) (skip len : Nat)
    (k : List (List (Int × Nat)) → State → State) : State :=
  let e := s.engine n
  let g := e.gen gen
  let at' := g.cursor + skip
  let go := fun (idx : Nat → Nat → Nat) (s : State) =>
    let l := g.spans rows shared skip len idx
    if g.outside l.flatten then s.stopReason n (gen * 2 ^ 32 + jrEXTENT) else k l s
  if !g.admitted then s
  else if g.indirect = 1 then
    let gi := e.gen g.index
    let w := g.indexBytes
    let first := at' / g.run
    let count := g.begun (at' + len) - first
    let pos := gi.cursor + first * w - g.begun g.cursor * w
    let l := rows.map fun r => shiftRuns (gi.rowTerm r) (gi.runs (fun _ => 0) (count * w) pos (count * w))
    if !gi.admitted then s
    else if gi.outside l.flatten then s.stopReason n (g.index * 2 ^ 32 + jrEXTENT)
    else s.withData n hit g.index l fun data s =>
      go (fun r el => indexOf w (data.getD (rows.idxOf r) []) (el - first)) s
  else go (fun _ _ => 0) s

/-- A stream has been consumed: its cursor advances, with that of Gi in ELEM mode, and the answers of reads are spent
(R310, R311). -/
def EngineState.advance (e : EngineState) (gen len : Nat) : EngineState :=
  let g := e.gen gen
  let e := if g.indirect = 1 then
    let gi := e.gen g.index
    e.setGen g.index { gi with cursor := gi.cursor + (g.begun (g.cursor + len) - g.begun g.cursor) * g.indexBytes }
  else e
  { e.setGen gen { e.gen gen with cursor := g.cursor + len } with accesses := e.accesses.filter EngineAccess.write }

/-- An instruction that reads `len` bytes of a stream for each row has the bytes, and goes on. -/
def State.consume (s : State) (n : Nat) (hit : ScratchHit) (gen : Nat) (rows : List Nat) (shared : Bool) (len : Nat)
    (k : List (List Byte) → State → State) : State :=
  s.withRuns n hit gen rows shared 0 len fun l s => s.withData n hit gen l fun data s =>
    k data (s.setEngine n ((s.engine n).advance gen len))

/-- Bytes are written at an offset of a stream: in blocks at this module, acknowledged at once, or over Thegief. -/
def State.streamWrite (s : State) (n gen : Nat) (o : Int) (bs : List Byte) : State :=
  let g := (s.engine n).gen gen
  if g.scratch then s.scratchWrite n (opPlus g.base o) bs
  else
    ((g.pieces (o, bs.length)).foldl (fun (acc : List Byte × State) u =>
      let part := acc.1.take u.2
      let s := acc.2
      (acc.1.drop u.2,
        if s.inHouse u.1 then
          (splitUnits 64 (u.1 % 2 ^ 41) (allBytes part)).foldl (fun (s : State) b =>
            let (c, s) := s.memWrite (s.engineAccess n gen 0) b.1 b.2
            let s := s.engineNote n c
            if c = scDONE then s.engineWrote n (b.2.filter Option.isSome).length else s) s
        else s.engineAsk n gen u true (s.engineHusk n Husk.WR u.1 u.2 0 part))) (bs, s)).2

/-- The response to an access of an engine. -/
def State.engineAnswer (s : State) (n id status : Nat) (bs : List Byte) : State :=
  let e := s.engine n
  match e.accesses.find? fun a => a.id == id with
  | none => s
  | some a =>
    if a.write || !e.live then
      let s := s.setEngine n { e with accesses := e.accesses.filter fun x => x.id != id }
      let s := s.engineNote n status
      if a.write && status == scDONE then s.engineWrote n a.len else s
    else s.setEngine n { e with
      accesses := e.accesses.map fun x => if x.id = id then { x with answer := some (status, bs) } else x }

/-- The fields of format G. -/
def gGEN (w : Nat) : Nat := fieldOf w 55 52
def gRS1 (w : Nat) : Nat := fieldOf w 47 43
def gRS2 (w : Nat) : Nat := fieldOf w 42 38

/-- A GCFG that sets part of a bound generator (R309). -/
def State.gcfg (s : State) (n sel : Nat) (checks : Nat → Word → Word → List (Nat × Bool))
    (f : Nat → Word → Word → Generator → Generator) : State :=
  s.issue n (0x20, sel) fun s w =>
    let e := s.engine n
    let a := e.get (gRS1 w)
    let b := e.get (gRS2 w)
    s.guarded n ((jrINSTRUCTION, hasReserved w || !(e.gen (gGEN w)).bound) :: checks w a b) fun s =>
      s.retire n fun e => e.setGen (gGEN w) (f w a b (e.gen (gGEN w)))

/-- A stride whose magnitude is 2^47 or more (R309). -/
def wideStride (v : Word) : Bool := decide (2 ^ 47 ≤ v.toInt ∨ v.toInt ≤ - 2 ^ 47)

/-- GCFG with SEL 0 to 3 (R309). -/
def State.gcfgLevel (s : State) (n : Nat) : State :=
  s.gcfg n 0 (fun _ a b => [(jrZERO_DIM, a.toNat % 2 ^ 32 == 0), (jrINSTRUCTION, wideStride b)])
    fun w a b g => { g with pattern := true, levels := g.levels.set (fieldOf w 51 48) (a.toNat % 2 ^ 32, b.toInt) }

/-- GCFG with SEL 4 (R309). -/
def State.gcfgOffset (s : State) (n : Nat) : State :=
  s.gcfg n 4 (fun _ _ _ => []) fun _ a _ g => { g with offset := a.toNat % 2 ^ 48, cursor := 0 }

/-- GCFG with SEL 5 (R309). -/
def State.gcfgRowstride (s : State) (n : Nat) : State :=
  s.gcfg n 5 (fun _ a _ => [(jrINSTRUCTION, wideStride a)]) fun _ a _ g => { g with rowStride := a.toInt }

/-- GCFG with SEL 6 (R309). -/
def State.gcfgRun (s : State) (n : Nat) : State :=
  s.gcfg n 6 (fun _ a _ => [(jrZERO_DIM, a == 0), (jrINSTRUCTION, decide (65536 < a.toNat))])
    fun _ a _ g => { g with pattern := true, run := a.toNat }

/-- GCFG with SEL 7 (R309, R311): ROW mode latches an index for each row in force. -/
def State.gcfgIndirect (s : State) (n : Nat) (hit : ScratchHit) : State :=
  s.issue n (0x20, 7) fun s w =>
    let e := s.engine n
    let gen := gGEN w
    let on := bitOf w 31
    let gi := fieldOf w 3 0
    s.guarded n [(jrINSTRUCTION, hasReserved w || !(e.gen gen).bound || (on && e.indexBad gen gi))] fun s =>
      let g := { e.gen gen with wide := bitOf w 4, index := gi, scale := (e.get (gRS1 w)).toInt }
      if !on then s.retire n fun e => e.setGen gen { e.gen gen with indirect := 0 }
      else if !bitOf w 5 then s.retire n fun e => e.setGen gen { g with indirect := 1 }
      else
        let x := e.gen gi
        let l := e.rows.map fun r => shiftRuns (x.rowTerm r) (x.runs (fun _ => 0) g.indexBytes x.cursor g.indexBytes)
        if !x.admitted then s
        else if x.outside l.flatten then s.stopReason n (gi * 2 ^ 32 + jrEXTENT)
        else s.withData n hit gi l fun data s =>
          let latched := (e.rows.zip data).foldl (fun t p => Tab.set (fun _ => 0) t p.1 (Word.ofBytes p.2)) []
          s.retire n fun e => { e.setGen gen { g with indirect := 2, latched := latched } with
            accesses := e.accesses.filter EngineAccess.write }

/-- A stream as an operand of admission (R73). -/
def streamOperand (base extent : Nat) (wr : Bool) : Operand := ⟨base, 0, (extent : Int) - 1, wr⟩

/-- An operand that needs more than 128 pages (R73). -/
def tooManyPages (o : Operand) : Bool :=
  match o.pages with
  | some (a, b, _) => decide (a + 128 ≤ b)
  | none => false

/-- A generator bound to a stream, in linear mode (R308, R312). -/
def Generator.open' (base extent : Nat) (wr : Bool) (hint : Nat) (scratch : Bool) : Generator :=
  { Generator.unbound with
    bound := true, base := base, extent := extent, wr := wr, hint := hint, scratch := scratch, admitted := scratch }

/-- The admission of a generator's stream goes to the translator of the engine's die (R72, R81). -/
def State.submitStream (s : State) (n gen : Nat) : State :=
  match s.jobAt n with
  | some (k, j) =>
    let g := (s.engine n).gen gen
    s.submit (n / 2) ⟨.sopen k j.number gen, s.qCtx k, s.qClass k,
      ((streamOperand g.base g.extent g.wr).pages).toList, (2, n, 0, s.qSlot k j.number), none, [], none, false⟩
  | none => s

/-- SOPEN (R312). -/
def State.nmeSopen (s : State) (n : Nat) : State :=
  s.issue n (0x21, 0) fun s w =>
    let e := s.engine n
    let base := (e.get (gRS1 w)).toNat
    let extent := (e.get (gRS2 w)).toNat
    let scr := bitOf w 34
    let o := streamOperand base extent (bitOf w 37)
    s.guarded n [
      (jrINSTRUCTION, hasReserved w || fieldOf w 36 35 == 3 || (scr && decide (scratchSize < base + extent))),
      (jrGENERATOR, (e.gen (gGEN w)).bound),
      (jrOPERAND_ADDR, !scr && !s.operandAllowed (s.engineAccess n 0 0).ctx o),
      (jrSHADOW, !scr && tooManyPages o)] fun s =>
      let s := s.retire n fun e => e.setGen (gGEN w) (Generator.open' base extent (bitOf w 37) (fieldOf w 36 35) scr)
      if scr then s else s.submitStream n (gGEN w)

/-- SCLOSE (R313). -/
def State.nmeSclose (s : State) (n : Nat) : State :=
  s.issue n (0x22, 0) fun s w => s.guarded n (plainCheck w) fun s =>
    let e := s.engine n
    let g := gGEN w
    if !(e.gen g).bound then s.retire n id
    else if !(e.gen g).admitted || e.accesses.any fun a => a.gen == g then s
    else s.retire n fun e => e.setGen g Generator.unbound

end Sys2Proof.Machine
end

