-- ==== Sys2Proof/Machine/NmeTile.lean ====
section
/-!
DEFINITION. The tile instructions of the engines that move data and multiply (R315 to R322): LDT, STT, MMA and VMA, with
the fields and the common checks of format T.
-/
namespace Sys2Proof.Machine

/-- The fields of format T (R298). -/
def tD (w : Nat) : Nat := fieldOf w 55 52
def tDS (w : Nat) : Nat := 2 ^ fieldOf w 51 50
def tA (w : Nat) : Nat := fieldOf w 49 46
def tAS (w : Nat) : Nat := 2 ^ fieldOf w 45 44
def tAK (w : Nat) : Bool := bitOf w 43
def tB (w : Nat) : Nat := fieldOf w 42 38
def tBK (w : Nat) : Nat := fieldOf w 37 36
def tBM (w : Nat) : Bool := bitOf w 35
def tFMT (w : Nat) : Nat := fieldOf w 34 31
def tOP (w i : Nat) : Bool := bitOf w (28 + i)
def tLG (w : Nat) : Nat := fieldOf w 27 24
def tN (w : Nat) : Nat := fieldOf w 23 11
def tK (w : Nat) : Nat := fieldOf w 10 0

/-- The generator that operand B names; B has five bits, and a number above 15 names none. -/
def tGen (w : Nat) : Nat := tB w

/-- A span that runs past T15 or A7 (R298). -/
def pastEnd (tile : Bool) (num span : Nat) : Bool := decide ((if tile then 16 else 8) < num + span)

/-- A reserved value of format T (R298); VMA uses every value of LG. -/
def tReserved (w : Nat) : Bool :=
  fieldOf w 51 50 == 3 || fieldOf w 45 44 == 3 || !Nf.known (tFMT w) || (opcode w != 0x33 && decide (10 < tLG w))

/-- The checks of the rows in force (R317) and of N (R318). -/
def tileChecks (e : EngineState) (w : Nat) : List (Nat × Bool) :=
  [(jrZERO_DIM, e.rowCount == 0 || tN w == 0), (jrINSTRUCTION, tReserved w || decide (96 < e.rowBase + e.rowCount))]

/-- An instruction of format T: its shape checks, then its effect on the state. -/
def State.tileOp (s : State) (n op : Nat) (checks : EngineState → Nat → List (Nat × Bool))
    (act : EngineState → Nat → State → State) : State :=
  s.issue n (op, 0) fun s w =>
    let e := s.engine n
    s.guarded n (tileChecks e w ++ checks e w) fun s => act e w s

/-- The elements or bytes that a register span offers in a row (R315, R318). -/
def EngineState.holds (e : EngineState) (tile : Bool) (num span : Nat) : Nat :=
  if tile then Nf.capacity (e.tag num) (1024 * span) else 256 * span

/-- A generator number without a usable stream in a direction (R308, R314), or a broken index generator (R311). -/
def EngineState.streamBad (e : EngineState) (g : Nat) (write : Bool) : Bool :=
  decide (15 < g) || e.genBad g write || ((e.gen g).indirect == 1 && e.indexBad g (e.gen g).index)

/-- The generator of the row scales of an INT8R row (R316). -/
def scaleGen (w : Nat) : Nat := fieldOf w 3 0

/-- FMT is INT8R. -/
def isRowFmt (w : Nat) : Bool := tFMT w == Nf.fmINT8R

/-- The checks of LDT (R316, R319). -/
def ldtChecks (e : EngineState) (w : Nat) : List (Nat × Bool) :=
  [(jrINSTRUCTION, tBK w != 3 || pastEnd true (tD w) (tDS w) || e.streamBad (tGen w) false ||
    (isRowFmt w && e.streamBad (scaleGen w) false) ||
    decide (1024 * tDS w < tN w + if isRowFmt w then 0 else tK w))]

/-- LDT (R319, R316). -/
def State.nmeLdt (s : State) (n : Nat) (hit : ScratchHit) : State :=
  s.tileOp n 0x30 ldtChecks fun e w s =>
    let g := tGen w
    let put := fun (data : List (List Byte)) (s : State) =>
      s.setEngine n ((e.rows.zip data).foldl (fun e p => e.setTileBytes (tD w) p.1 0 p.2)
        (((s.engine n).advance g (tN w)).setTags (tD w) (tDS w) (tFMT w)))
    s.withRuns n hit g e.rows false 0 (tN w) fun l s => s.withData n hit g l fun data s =>
      if isRowFmt w then
        let h := scaleGen w
        s.withRuns n hit h e.rows false (if h = g then tN w else 0) 4 fun l2 s => s.withData n hit h l2 fun scales s =>
          (put data s).retire n fun x =>
            (e.rows.zip scales).foldl (fun x p => (List.range (tDS w)).foldl (fun x i =>
              x.setRowScale (tD w + i) p.1 (Word.ofBytes p.2)) x) (x.advance h 4)
      else (put data s).retire n id

/-- Bytes are written to runs, in order. -/
def State.writeRuns (s : State) (n gen : Nat) : List (Int × Nat) → List Byte → State
  | [], _ => s
  | x :: rest, bs => State.writeRuns (s.streamWrite n gen x.1 (bs.take x.2)) n gen rest (bs.drop x.2)

/-- Bytes of a register row: of a tile, or of accumulator lanes as little-endian FP32. -/
def EngineState.rowBytes (e : EngineState) (tile : Bool) (num r off n : Nat) : List Byte :=
  if tile then e.tileBytes num r off n
  else (((e.lanes num r ((off + n + 3) / 4)).flatMap fun v => Word.bytes 4 v).drop off).take n

/-- The checks of STT (R316, R319). -/
def sttChecks (e : EngineState) (w : Nat) : List (Nat × Bool) :=
  [(jrINSTRUCTION, tBK w != 3 || pastEnd (tAK w) (tA w) (tAS w) || e.streamBad (tGen w) true ||
    (isRowFmt w && (!tAK w || e.streamBad (scaleGen w) true)) ||
    decide (1024 * tAS w < tN w + if isRowFmt w then 0 else tK w))]

/-- STT (R319, R316). -/
def State.nmeStt (s : State) (n : Nat) : State :=
  let hit : ScratchHit := ⟨[], []⟩
  s.tileOp n 0x31 sttChecks fun e w s =>
    let g := tGen w
    let put := fun (l : List (List (Int × Nat))) (s : State) =>
      (e.rows.zip l).foldl (fun s p =>
        s.writeRuns n g p.2 (e.rowBytes (tAK w) (tA w) p.1 (if isRowFmt w then 0 else tK w) (tN w))) s
    s.withRuns n hit g e.rows false 0 (tN w) fun l s =>
      if isRowFmt w then
        let h := scaleGen w
        s.withRuns n hit h e.rows false (if h = g then tN w else 0) 4 fun l2 s =>
          let s := (e.rows.zip l2).foldl (fun s p =>
            s.writeRuns n h p.2 (Word.bytes 4 (e.rowScale (tA w) p.1))) (put l s)
          s.retire n fun x => (x.advance g (tN w)).advance h 4
      else (put l s).retire n fun x => x.advance g (tN w)

/-- The stationary operand of a row (R322): exact values; an INT32 element is widened under R270. -/
def EngineState.stationary (e : EngineState) (w r n : Nat) : List FVal :=
  if tAK w then
    let f := e.tag (tA w)
    let l := Nf.decode f (e.rowScale (tA w) r) (e.tileBytes (tA w) r 0 (Nf.bytesFor f n)) n
    if f = Nf.fmINT32 then l.map fun v => Fp.dec32 (Fp.enc32 v) else l
  else (e.lanes (tA w) r n).map Fp.dec32

/-- The format of the stationary operand. -/
def EngineState.formatA (e : EngineState) (w : Nat) : Nat := if tAK w then e.tag (tA w) else Nf.fmFP32

/-- FMT as a streamed operand (R322). -/
def streamable (fmt : Nat) : Bool := Nf.known fmt && fmt != Nf.fmINT8R && fmt != Nf.fmINT32

/-- A row of dot products into an accumulator (R281): for lane j the products of `pair j`, in chunks. -/
def EngineState.accumulate (e : EngineState) (w r lanes chunk : Nat) (pair : Nat → List (FVal × FVal)) : EngineState :=
  let old := if tOP w 0 then List.replicate lanes 0 else e.lanes (tD w) r lanes
  let res := old.zipIdx.map fun a => Nf.dot chunk a.1 (pair a.2)
  (e.setLanes (tD w) r 0 (res.map Prod.fst)).flag (res.foldl (fun f x => f ||| x.2) 0)

/-- The values of a list at consecutive places, and at a stride. -/
def slab (l : List FVal) (first n : Nat) : List FVal := (l.drop first).take n
def strided (l : List FVal) (first stride n : Nat) : List FVal :=
  (List.range n).map fun k => l.getD (first + k * stride) .nan

/-- The checks of MMA (R320, R322). -/
def mmaChecks (e : EngineState) (w : Nat) : List (Nat × Bool) :=
  [(jrZERO_DIM, tK w == 0),
    (jrINSTRUCTION, tBK w != 3 || !streamable (tFMT w) || pastEnd false (tD w) (tDS w) || pastEnd (tAK w) (tA w) (tAS w) ||
      e.streamBad (tGen w) false || (e.gen (tGen w)).indirect == 1 || decide (256 * tDS w < tN w) ||
      decide (e.holds (tAK w) (tA w) (tAS w) < tK w))]

/-- MMA (R320, R322). -/
def State.nmeMma (s : State) (n : Nat) (hit : ScratchHit) : State :=
  s.tileOp n 0x32 mmaChecks fun e w s =>
    let count := tK w * tN w
    s.consume n hit (tGen w) e.rows true (Nf.bytesFor (tFMT w) count) fun data s =>
      let v := Nf.decode (tFMT w) 0 (data.headD []) count
      s.retire n fun x => e.rows.foldl (fun x r =>
        let a := e.stationary w r (tK w)
        x.accumulate w r (tN w) (Nf.chunkLen (tFMT w) (e.formatA w)) fun j => a.zip (strided v j (tN w) (tK w))) x

/-- The shapes of VMA (R281, R321): each vector of a block format starts on a block boundary. -/
def vmaShape (e : EngineState) (w : Nat) : Bool :=
  let g := tLG w + 1
  let n := tN w
  let k := tK w
  let aligned := fun (fmt count len : Nat) => !Nf.isBlock fmt || count == 1 || len % 32 == 0
  decide (g * k ≤ 1024) && decide (g * n ≤ 256 * tDS w) && decide (g * k ≤ e.holds (tAK w) (tA w) (tAS w)) &&
    aligned (e.formatA w) g k && (if tOP w 1 then aligned (tFMT w) k n else aligned (tFMT w) n k)

/-- The checks of VMA (R321, R322). -/
def vmaChecks (e : EngineState) (w : Nat) : List (Nat × Bool) :=
  [(jrZERO_DIM, tK w == 0),
    (jrINSTRUCTION, tBK w != 3 || !streamable (tFMT w) || pastEnd false (tD w) (tDS w) || pastEnd (tAK w) (tA w) (tAS w) ||
      e.streamBad (tGen w) false || !vmaShape e w)]

/-- VMA (R321, R322). -/
def State.nmeVma (s : State) (n : Nat) (hit : ScratchHit) : State :=
  s.tileOp n 0x33 vmaChecks fun e w s =>
    let g := tLG w + 1
    let count := tK w * tN w
    s.consume n hit (tGen w) e.rows false (Nf.bytesFor (tFMT w) count) fun data s =>
      s.retire n fun x => (e.rows.zip data).foldl (fun x p =>
        let v := Nf.decode (tFMT w) 0 p.2 count
        let a := e.stationary w p.1 (g * tK w)
        x.accumulate w p.1 (g * tN w) (if tOP w 1 then 32 else Nf.chunkLen (tFMT w) (e.formatA w)) fun l =>
          (slab a (l / tN w * tK w) (tK w)).zip
            (if tOP w 1 then strided v (l % tN w) (tN w) (tK w) else slab v (l % tN w * tK w) (tK w))) x

end Sys2Proof.Machine
end

