-- ==== Sys2Proof/Machine/NmeVector.lean ====
section
/-!
DEFINITION. The elementwise, reduction, conversion, selection and gather instructions of the engines (R323 to R330).
-/
namespace Sys2Proof.Machine

/-- Registers from one on that hold so many lanes. -/
def lanesSpan (count : Nat) : Nat := (count + 255) / 256

/-- A register where FP32 lanes are expected: it must lie in its file, and a tile must be tagged FP32 (R318). -/
def EngineState.lanesBad (e : EngineState) (tile : Bool) (num span : Nat) : Bool :=
  pastEnd tile num span || (tile && (List.range span).any fun i => e.tag (num + i) != Nf.fmFP32)

/-- `n` FP32 lanes of a register row. -/
def EngineState.source (e : EngineState) (tile : Bool) (num r n : Nat) : List Nat :=
  if tile then (List.range n).map fun l => Word.ofBytes (e.tileBytes num r (4 * l) 4) else e.lanes num r n

/-- Lanes written to a register row; a tile then holds them as FP32. -/
def EngineState.deliver (e : EngineState) (tile : Bool) (num span r : Nat) (vs : List Nat) : EngineState :=
  if tile then (e.setTileBytes num r 0 (vs.flatMap fun v => Word.bytes 4 v)).setTags num span Nf.fmFP32
  else e.setLanes num r 0 vs

/-- The lanes of operand B that an elementwise instruction needs (R323). -/
def lanesOfB (w : Nat) : Nat := if tBM w then (tN w + 2 ^ tLG w - 1) / 2 ^ tLG w else tN w

/-- Operand B of lane j in a row (R323). -/
def EngineState.operandB (e : EngineState) (w r : Nat) : Nat → Nat :=
  if tBK w = 2 then fun _ => (e.get (tB w)).toNat % 2 ^ 32
  else
    let l := e.source (tBK w == 1) (tB w) r (lanesOfB w)
    fun j => l.getD (if tBM w then j / 2 ^ tLG w else j) 0

/-- How an elementwise instruction uses its operands: A, B and the old D (R323). -/
structure EwForm where
  readsA : Bool
  readsB : Bool
  readsD : Bool

/-- The checks of an elementwise instruction (R318, R323). -/
def ewChecks (f : EwForm) (e : EngineState) (w : Nat) : List (Nat × Bool) :=
  [(jrINSTRUCTION, tBK w == 3 || pastEnd (tOP w 2) (tD w) (tDS w) || decide (256 * tDS w < tN w) ||
    (f.readsD && e.lanesBad (tOP w 2) (tD w) (tDS w)) ||
    (f.readsA && (e.lanesBad (tAK w) (tA w) (tAS w) || decide (256 * tAS w < tN w))) ||
    (f.readsB && tBK w != 2 && e.lanesBad (tBK w == 1) (tB w) (lanesSpan (lanesOfB w))))]

/-- The engine with the lanes below N of row r of D set to results, and their flags seen (R291, R323). -/
def EngineState.laneResult (x : EngineState) (w r : Nat) (f : Nat → Nat × Nat) : EngineState :=
  let res := (List.range (tN w)).map f
  (x.deliver (tOP w 2) (tD w) (tDS w) r (res.map Prod.fst)).flag (res.foldl (fun f x => f ||| x.2) 0)

/-- An elementwise instruction (R323, R324): each lane below N becomes a function of A, B and the old D, with flags. -/
def State.elementwise (s : State) (n op : Nat) (f : EwForm) (g : Nat → Nat → Nat → Nat × Nat) : State :=
  s.tileOp n op (ewChecks f) fun e w s =>
    s.retire n fun x => e.rows.foldl (fun x r =>
      let a := if f.readsA then e.source (tAK w) (tA w) r (tN w) else []
      let b := if f.readsB then e.operandB w r else fun _ => 0
      let d := if f.readsD then e.source (tOP w 2) (tD w) r (tN w) else []
      x.laneResult w r fun j => g (a.getD j 0) (b j) (d.getD j 0)) x

/-- The operand forms: B alone, A and B, A, B and D, and A alone. -/
def formB : EwForm := ⟨false, true, false⟩
def formAB : EwForm := ⟨true, true, false⟩
def formABD : EwForm := ⟨true, true, true⟩
def formA : EwForm := ⟨true, false, false⟩

/-- The instructions of R323 and R324. -/
def State.ewMov (s : State) (n : Nat) : State := s.elementwise n 0x34 formB fun _ b _ => Nf.mov b
def State.ewAdd (s : State) (n : Nat) : State := s.elementwise n 0x35 formAB fun a b _ => Nf.add a b
def State.ewSub (s : State) (n : Nat) : State := s.elementwise n 0x36 formAB fun a b _ => Nf.sub a b
def State.ewMul (s : State) (n : Nat) : State := s.elementwise n 0x37 formAB fun a b _ => Nf.mul a b
def State.ewFma (s : State) (n : Nat) : State := s.elementwise n 0x38 formABD fun a b d => Nf.fma a b d
def State.ewMax (s : State) (n : Nat) : State := s.elementwise n 0x39 formAB fun a b _ => Nf.max' a b
def State.ewMin (s : State) (n : Nat) : State := s.elementwise n 0x3A formAB fun a b _ => Nf.min' a b
def State.ewAbs (s : State) (n : Nat) : State := s.elementwise n 0x3B formA fun a _ _ => Nf.abs a
def State.ewNeg (s : State) (n : Nat) : State := s.elementwise n 0x3C formA fun a _ _ => Nf.neg a
def State.ewRcp (s : State) (n : Nat) : State := s.elementwise n 0x3D formA fun a _ _ => Nf.rcp a
def State.ewRsqrt (s : State) (n : Nat) : State := s.elementwise n 0x3E formA fun a _ _ => Nf.rsqrt a
def State.nmeExp2 (s : State) (n : Nat) : State := s.elementwise n 0x3F formA fun a _ _ => Nf.exp2 a
def State.nmeScale (s : State) (n : Nat) : State := s.elementwise n 0x40 formAB fun a b _ => Nf.scale a b

/-- The groups of 2^LG lanes of accumulator A in a row. -/
def EngineState.groups (e : EngineState) (w r : Nat) : List (List Nat) :=
  Nf.chunksOf (2 ^ tLG w) (tN w) (e.lanes (tA w) r (tN w))

/-- A shape of the group instructions: A an accumulator, whole groups, and D wide enough (R325, R326). -/
def groupShape (w : Nat) : Bool :=
  !tAK w && !pastEnd false (tA w) (tAS w) && decide (tN w ≤ 256 * tAS w) && tN w % 2 ^ tLG w == 0 &&
    !pastEnd false (tD w) (tDS w) && decide (tN w / 2 ^ tLG w ≤ 256 * tDS w)

/-- Lanes of an accumulator row set to results, and their flags seen (R291). -/
def EngineState.accResult (x : EngineState) (w r : Nat) (res : List (Nat × Nat)) : EngineState :=
  (x.setLanes (tD w) r 0 (res.map Prod.fst)).flag (res.foldl (fun f x => f ||| x.2) 0)

/-- The maximum of a value and those of a group, with flags (R325). -/
def groupMax (old : Nat) (l : List Nat) : Nat × Nat :=
  l.foldl (fun a v => let m := Nf.max' a.1 v; (m.1, a.2 ||| m.2)) (old, 0)

/-- The checks of RMAX (R325). -/
def rmaxChecks (_ : EngineState) (w : Nat) : List (Nat × Bool) :=
  [(jrINSTRUCTION, tBK w != 0 || !groupShape w || pastEnd false (tB w) (lanesSpan (tN w / 2 ^ tLG w)))]

/-- RMAX (R325). -/
def State.nmeRmax (s : State) (n : Nat) : State :=
  s.tileOp n 0x41 rmaxChecks fun e w s =>
    s.retire n fun x => e.rows.foldl (fun x r =>
      let old := e.lanes (tD w) r (tN w / 2 ^ tLG w)
      (x.setLanes (tB w) r 0 old).accResult w r ((old.zip (e.groups w r)).map fun p => groupMax p.1 p.2)) x

/-- A list in an order that a number picks, with each element once. -/
def pickOrder {α : Type} : Nat → Nat → List α → List α
  | 0, _, l => l
  | k + 1, c, l =>
    match l[c % max 1 l.length]? with
    | some a => a :: pickOrder k (c / max 1 l.length) (l.eraseIdx (c % max 1 l.length))
    | none => []

/-- Contributions to a lane combined in order, the first initialising it unless there is a value already (R326). -/
def combine (op : Nat → Nat → Nat × Nat) : Option Nat → List Nat → Nat × Nat
  | acc, [] => (acc.getD 0, 0)
  | none, v :: l => combine op (some v) l
  | some a, v :: l => let b := op a v; let c := combine op (some b.1) l; (c.1, b.2 ||| c.2)

/-- A lane of RED over a group, in the tree of R289, combined with the old value where ACC is set (R326). -/
def redGroup (f : Nat → Nat → Nat × Nat) (acc : Bool) (lg old : Nat) (l : List Nat) : Nat × Nat :=
  let t := Nf.tree f lg l
  let v := if acc then f old t.1 else (t.1, 0)
  (v.1, t.2 ||| v.2 ||| Nf.seen (l.map Fp.dec32))

/-- A lane of RED over contributions in the order that a number picks (R289, R326). -/
def redLane (f : Nat → Nat → Nat × Nat) (acc : Bool) (order old : Nat) (l : List Nat) : Nat × Nat :=
  let v := combine f (if acc then some old else none) (pickOrder l.length order l)
  (v.1, v.2 ||| Nf.seen (l.map Fp.dec32))

/-- The checks of RED (R326). -/
def redChecks (e : EngineState) (w : Nat) : List (Nat × Bool) :=
  [(jrZERO_DIM, tBK w == 3 && tK w == 0),
    (jrINSTRUCTION, if tBK w = 3 then
        pastEnd false (tD w) (tDS w) || decide (256 * tDS w < tN w) || e.streamBad (tGen w) false
      else tBK w != 0 || tB w != 0 || !groupShape w)]

/-- RED in its two forms (R326): over the lanes of each group in the tree of R289, or over K contributions of a stream in
the order in which they arrive, which is open (R289): a free number picks it for each lane. -/
def State.red (s : State) (n op : Nat) (hit : ScratchHit) (f : Nat → Nat → Nat × Nat) : State :=
  s.tileOp n op redChecks fun e w s =>
    if tBK w = 3 then
      s.consume n hit (tGen w) e.rows false (tK w * tN w * 4) fun data s =>
        let first := s.free
        State.retire { s with free := first + tN w * e.rows.length } n fun x =>
          (e.rows.zip data).zipIdx.foldl (fun x p =>
            let words := Nf.chunksOf 4 (tK w * tN w) p.1.2
            let old := e.lanes (tD w) p.1.1 (tN w)
            x.accResult w p.1.1 ((List.range (tN w)).map fun j =>
              redLane f (tOP w 0) (Config.freeNat (first + tN w * p.2 + j)) (old.getD j 0)
                ((List.range (tK w)).map fun k => Word.ofBytes (words.getD (k * tN w + j) [])))) x
    else
      s.retire n fun x => e.rows.foldl (fun x r =>
        let old := e.lanes (tD w) r (tN w / 2 ^ tLG w)
        x.accResult w r ((old.zip (e.groups w r)).map fun p => redGroup f (tOP w 0) (tLG w) p.1 p.2)) x

/-- The instructions of R326. -/
def State.redSum (s : State) (n : Nat) (hit : ScratchHit) : State := s.red n 0x42 hit Nf.add
def State.redMax (s : State) (n : Nat) (hit : ScratchHit) : State := s.red n 0x43 hit Nf.max'
def State.redMin (s : State) (n : Nat) (hit : ScratchHit) : State := s.red n 0x44 hit Nf.min'

/-- The formats of CVT (R327). -/
def scalarFmt (fmt : Nat) : Bool := decide (fmt ≤ 4) || fmt == Nf.fmINT32

/-- The checks of CVT (R327). -/
def cvtChecks (e : EngineState) (w : Nat) : List (Nat × Bool) :=
  [(jrINSTRUCTION, pastEnd (tAK w) (tA w) (tAS w) || pastEnd (tOP w 2) (tD w) (tDS w) ||
    decide (e.holds (tAK w) (tA w) (tAS w) < tN w) ||
    (if tOP w 2 then tAK w || !scalarFmt (tFMT w) || decide (Nf.capacity (tFMT w) (1024 * tDS w) < tN w)
      else decide (256 * tDS w < tN w) ||
        (if tAK w then tFMT w != e.tag (tA w) || !scalarFmt (tFMT w)
          else tFMT w != Nf.fmINT32 && tFMT w != Nf.fmFP32)))]

/-- CVT (R327). -/
def State.nmeCvt (s : State) (n : Nat) : State :=
  s.tileOp n 0x48 cvtChecks fun e w s =>
    let fmt := tFMT w
    s.retire n fun x => e.rows.foldl (fun x r =>
      if tAK w then
        let v := Nf.widen (Nf.decode fmt 0 (e.tileBytes (tA w) r 0 (Nf.bytesFor fmt (tN w))) (tN w))
        (x.setLanes (tD w) r 0 v.1).flag v.2
      else if tOP w 2 then
        let res := (e.lanes (tA w) r (tN w)).map fun v => Nf.narrow fmt (tOP w 0) (Fp.dec32 v)
        ((x.setTileBytes (tD w) r 0 (res.flatMap fun c => Word.bytes (Nf.elemBits fmt / 8) c.1)).setTags (tD w) (tDS w)
          fmt).flag (res.foldl (fun f c => f ||| c.2) 0)
      else
        x.accResult w r ((e.lanes (tA w) r (tN w)).map fun v =>
          if fmt = Nf.fmINT32 then Nf.narrow fmt (tOP w 0) (Fp.dec32 v) else (Fp.enc32 (Nf.decInt 32 v), 0))) x

/-- The formats of PACK and UNPACK (R328). -/
def packFmt (fmt : Nat) : Bool := Nf.isBlock fmt || fmt == Nf.fmINT8R

/-- A row packed: its bytes, its row scale, the flags, and the LFSR state after it (R274 to R279). -/
def packRowBytes (fmt : Nat) (sr : Bool) (free lfsr : Nat) (vs : List FVal) : List Byte × Nat × Nat × Nat :=
  let (draws, lfsr) := Nf.drawAll sr vs.length lfsr
  if fmt = Nf.fmINT8R then
    let (bs, sc, f) := Nf.packRow draws free vs
    (bs, sc, f, lfsr)
  else
    let blocks := ((Nf.chunksOf 32 vs.length vs).zip (Nf.chunksOf 32 vs.length draws)).map fun b =>
      Nf.packBlock fmt b.2 b.1
    (blocks.flatMap Prod.fst, 0, blocks.foldl (fun f b => f ||| b.2) 0, lfsr)

/-- The checks of PACK (R328). -/
def packChecks (_ : EngineState) (w : Nat) : List (Nat × Bool) :=
  [(jrINSTRUCTION, tAK w || pastEnd false (tA w) (tAS w) || pastEnd true (tD w) (tDS w) || !packFmt (tFMT w) ||
    decide (256 * tAS w < tN w) || decide (Nf.capacity (tFMT w) (1024 * tDS w) < tN w) ||
    (Nf.isBlock (tFMT w) && tN w % 32 != 0))]

/-- PACK (R328): rows draw in ascending order (R279). -/
def State.nmePack (s : State) (n : Nat) : State :=
  s.tileOp n 0x49 packChecks fun e w s =>
    let fmt := tFMT w
    let first := s.free
    let last := e.rows.zipIdx.foldl (fun (acc : EngineState × Nat) r =>
      let p := packRowBytes fmt (tOP w 0) (first + tN w * r.2) acc.2 ((e.lanes (tA w) r.1 (tN w)).map Fp.dec32)
      let x := (acc.1.setTileBytes (tD w) r.1 0 p.1).flag p.2.2.1
      (if fmt = Nf.fmINT8R then
          (List.range (tDS w)).foldl (fun x i => x.setRowScale (tD w + i) r.1 p.2.1) x
        else x, p.2.2.2)) (e, s.srState n)
    (State.setFld { s with free := first + tN w * e.rows.length } (R.NME_SR_SEED n) F.NME_SR_SEED_STATE
      last.2).setEngine n (last.1.setTags (tD w) (tDS w) fmt).next

/-- The checks of UNPACK (R278, R328). -/
def unpackChecks (e : EngineState) (w : Nat) : List (Nat × Bool) :=
  [(jrINSTRUCTION, !tAK w || tOP w 0 || pastEnd true (tA w) (tAS w) || pastEnd false (tD w) (tDS w) ||
    !packFmt (tFMT w) || tFMT w != e.tag (tA w) || decide (256 * tDS w < tN w) ||
    decide (e.holds true (tA w) (tAS w) < tN w))]

/-- UNPACK (R328); stochastic rounding may not be selected elsewhere than in PACK (R278). -/
def State.nmeUnpack (s : State) (n : Nat) : State :=
  s.tileOp n 0x4A unpackChecks fun e w s =>
    let fmt := tFMT w
    s.retire n fun x => e.rows.foldl (fun x r =>
      let v := Nf.widen
        (Nf.decode fmt (e.rowScale (tA w) r) (e.tileBytes (tA w) r 0 (Nf.bytesFor fmt (tN w))) (tN w))
      (x.setLanes (tD w) r 0 v.1).flag v.2) x

/-- The checks of TOPK (R329). -/
def topkChecks (_ : EngineState) (w : Nat) : List (Nat × Bool) :=
  [(jrZERO_DIM, tK w == 0),
    (jrINSTRUCTION, tAK w || tBK w != 0 || pastEnd false (tA w) (tAS w) || pastEnd false (tD w) (tDS w) ||
      pastEnd false (tB w) 1 || decide (256 * tAS w < tN w) || decide (tN w < tK w) || decide (256 < tK w))]

/-- TOPK (R290, R329). -/
def State.nmeTopk (s : State) (n : Nat) : State :=
  s.tileOp n 0x50 topkChecks
    fun e w s =>
    s.retire n fun x => e.rows.foldl (fun x r =>
      let vs := e.lanes (tA w) r (tN w)
      let top := (Nf.ranked vs).take (tK w)
      ((x.setLanes (tD w) r 0 (top.map Prod.fst)).setLanes (tB w) r 0 (top.map Prod.snd)).flag
        (Nf.seen (vs.map Fp.dec32))) x

/-- The checks of GATH (R330). -/
def gathChecks (e : EngineState) (w : Nat) : List (Nat × Bool) :=
  let g := e.gen (tGen w)
  [(jrINSTRUCTION, tAK w || tBK w != 3 || pastEnd false (tA w) (tAS w) || pastEnd true (tD w) (tDS w) ||
    decide (15 < tGen w) || e.genBad (tGen w) false || g.indirect != 1 || decide (256 * tAS w < tN w) ||
    decide (1024 * tDS w < tN w * g.run))]

/-- GATH (R330). -/
def State.nmeGath (s : State) (n : Nat) (hit : ScratchHit) : State :=
  s.tileOp n 0x51 gathChecks fun e w s =>
    let g := e.gen (tGen w)
    let l := e.rows.map fun r =>
      (e.lanes (tA w) r (tN w)).map fun i =>
        ((g.offset : Int) + (r : Int) * g.rowStride + Int.ofNat i * g.scale, g.run)
    if !g.admitted then s
    else if g.outside l.flatten then s.stopReason n (tGen w * 2 ^ 32 + jrEXTENT)
    else s.withData n hit (tGen w) l fun data s =>
      s.retire n fun x => (e.rows.zip data).foldl (fun x p => x.setTileBytes (tD w) p.1 0 p.2)
        { x.setTags (tD w) (tDS w) (tFMT w) with accesses := x.accesses.filter EngineAccess.write }

end Sys2Proof.Machine
end

