-- ==== Sys2Proof/Machine/NmeRing.lean ====
section
/-!
DEFINITION. The ring instructions of the engines (R331 to R333), and the limit of a ring wait (R243).
-/
namespace Sys2Proof.Machine

/-- The fields of format P (R298). -/
def pREG (w : Nat) : Nat := fieldOf w 55 52
def pSPAN (w : Nat) : Nat := 2 ^ fieldOf w 51 50
def pKIND (w : Nat) : Bool := bitOf w 49
def pPORT (w : Nat) : Nat := fieldOf w 48 47
def pSTREAM (w : Nat) : Nat := fieldOf w 46 43
def pDEST (w : Nat) : Nat := fieldOf w 42 39
def pROP (w : Nat) : Nat := fieldOf w 38 37
def pN (w : Nat) : Nat := fieldOf w 36 24
def pCNT (w : Nat) : Nat := fieldOf w 23 20

/-- The checks that the ring instructions share (R298, R317, R318). -/
def ringChecks (e : EngineState) (w : Nat) : List (Nat × Bool) :=
  [(jrZERO_DIM, e.rowCount == 0 || pN w == 0),
    (jrINSTRUCTION, hasReserved w || fieldOf w 51 50 == 3 || pROP w == 3 || pPORT w == 3 ||
      (pPORT w == 2 && opcode w != 0x5A) || pastEnd (pKIND w) (pREG w) (pSPAN w) || decide (1024 * pSPAN w < pN w) ||
      decide (96 < e.rowBase + e.rowCount))]

/-- SEND (R331): its packets join those that wait for slots and credit. -/
def State.nmeSend (s : State) (n : Nat) : State :=
  s.issue n (0x58, 0) fun s w =>
    let e := s.engine n
    s.guarded n ((jrINSTRUCTION, pDEST w == n) :: ringChecks e w) fun s =>
      let bs := e.rows.flatMap fun r => e.rowBytes (pKIND w) (pREG w) r 0 (pN w)
      (Nf.chunksOf 256 bs.length bs).foldl (fun (s : State) part =>
        s.ringSend (2 * n + pPORT w) (RingPacket.make rkDATA (pDEST w) n (pSTREAM w) part))
        (s.retire n fun e => { e with ringUsed := true })

/-- A byte of a register row is written: of a tile, or of an accumulator lane. -/
def EngineState.setRowByte (e : EngineState) (tile : Bool) (num r off : Nat) (b : Byte) : EngineState :=
  if tile then e.setTileBytes num r off [b]
  else
    let v := (e.lanes num r (off / 4 + 1)).getD (off / 4) 0
    e.setLanes num r (off / 4) [Word.ofBytes ((Word.bytes 4 v).set (off % 4) b)]

/-- Bytes at the head of a receive queue are taken; a packet that is used up frees its credit. -/
def State.takeBytes (s : State) (p q k : Nat) : State :=
  match s.received q with
  | (a, x) :: rest =>
    if x.payload.length ≤ k then (s.setReceived q rest).freeCredit p x
    else s.setReceived q ((a, { x with payload := x.payload.drop k }) :: rest)
  | [] => s

/-- RECV goes on with the packets that have come (R332). -/
def State.recvGo (n w total : Nat) : Nat → State → State
  | 0, s => s
  | fuel + 1, s =>
    let e := s.engine n
    let got := (e.taken.map Prod.fst).getD 0
    let p := 2 * n + pPORT w
    let q := ringQueue p (pSTREAM w)
    match s.received q with
    | (_, x) :: _ =>
      if x.kind = rkTOKEN ∨ total ≤ got then s
      else
        let bs := x.payload.take (total - got)
        let e := bs.zipIdx.foldl (fun (e : EngineState) b =>
          let i := got + b.2
          e.setRowByte (pKIND w) (pREG w) (e.rowBase + i / pN w) (i % pN w) b.1)
          { e with taken := some (got + bs.length, []), ringUsed := true }
        State.recvGo n w total fuel ((s.setEngine n e).takeBytes p q bs.length)
    | [] => s

/-- RECV (R332). -/
def State.nmeRecv (s : State) (n : Nat) : State :=
  s.issue n (0x59, 0) fun s w =>
    let e := s.engine n
    s.guarded n (ringChecks e w) fun s =>
      let total := pN w * e.rows.length
      let s := State.recvGo n w total (s.received (ringQueue (2 * n + pPORT w) (pSTREAM w))).length s
      if ((s.engine n).taken.map Prod.fst).getD 0 = total then
        s.retire n fun e =>
          let e := { e with taken := none }
          if pKIND w then e.setTags (pREG w) (pSPAN w) Nf.fmFP32 else e
      else s

/-- The next packet that RRED takes: of its port, or of both in the order of arrival (R333). -/
def State.rredNext (s : State) (n w : Nat) : Option (Nat × RingPacket) :=
  let head := fun (p : Nat) =>
    ((s.received (ringQueue p (pSTREAM w))).head?.filter fun x => x.2.kind == rkDATA).map fun x => (p, x.1, x.2)
  let pick := fun (l : List (Nat × Nat × RingPacket)) =>
    l.foldl (fun best x => match best with
      | some (b : Nat × Nat × RingPacket) => if x.2.1 < b.2.1 then some x else some b
      | none => some x) none
  (pick (((if pPORT w = 2 then [0, 1] else [pPORT w]).map (2 * n + ·)).filterMap head)).map fun x => (x.1, x.2.2)

/-- The operation that ROP names. -/
def ropOf (rop : Nat) : Nat → Nat → Nat × Nat := if rop = 0 then Nf.add else if rop = 1 then Nf.max' else Nf.min'

/-- RRED combines the packets that have come, until CNT × N × rows bytes are in (R333). -/
def State.rredGo (n w total : Nat) : Nat → State → State
  | 0, s => s
  | fuel + 1, s =>
    match s.rredNext n w with
    | none => s
    | some (p, x) =>
      let e := s.engine n
      let (got, by') := e.taken.getD (0, [])
      if total ≤ got then s
      else
        let bs := x.payload.take (total - got)
        let at' := Tab.get (fun _ => 0) by' x.src
        let e := (Nf.chunksOf 4 bs.length bs).zipIdx.foldl (fun (e : EngineState) b =>
          if b.1.length = 4 then
            let i := (at' + 4 * b.2) % (pN w * e.rowCount)
            let r := e.rowBase + i / pN w
            let l := i % pN w / 4
            let (v, f) := ropOf (pROP w) ((e.lanes (pREG w) r (l + 1)).getD l 0) (Word.ofBytes b.1)
            (e.setLanes (pREG w) r l [v]).flag f
          else e)
          { e with taken := some (got + bs.length, Tab.set (fun _ => 0) by' x.src (at' + bs.length)), ringUsed := true }
        State.rredGo n w total fuel ((s.setEngine n e).takeBytes p (ringQueue p (pSTREAM w)) bs.length)

/-- RRED (R333). -/
def State.nmeRred (s : State) (n : Nat) : State :=
  s.issue n (0x5A, 0) fun s w =>
    let e := s.engine n
    s.guarded n ((jrINSTRUCTION, pKIND w || pCNT w == 0 || pN w % 4 != 0) :: ringChecks e w) fun s =>
      let total := pCNT w * pN w * e.rows.length
      let fuel := (s.received (ringQueue (2 * n) (pSTREAM w))).length +
        (s.received (ringQueue (2 * n + 1) (pSTREAM w))).length
      let s := State.rredGo n w total fuel s
      if ((s.engine n).taken.map Prod.fst).getD 0 = total then s.retire n fun e => { e with taken := none } else s

/-- An instruction of an engine would still wait: it neither goes on nor stops the job. -/
def stillWaits (e : EngineState) (t : State) (n : Nat) : Bool :=
  (t.engine n).live && (t.engine n).pc == e.pc && decide ((t.engine n).loops = e.loops)

/-- An engine waits on the ring (R243): a packet of its own has no credit or no slot, or its next instruction waits for one
that has not come. -/
def State.ringWaits (s : State) (n : Nat) : Bool :=
  let e := s.engine n
  s.sendsWait n || (s.issues n &&
    match (e.code[e.pc]?).map rowKey with
    | some (0x15, 1) => stillWaits e (s.nmeWaitRing n) n
    | some (0x59, 0) => stillWaits e (s.nmeRecv n) n
    | some (0x5A, 0) => stillWaits e (s.nmeRred n) n
    | _ => false)

/-- A ring wait exceeds its limit (R243): the job stops with TIMEOUT. -/
def State.ringTimeout (s : State) (n : Nat) : State :=
  if s.ringWaits n && (s.jobAt n).isSome then
    State.raise ((s.stopJob n scTIMEOUT 0).bump (R.NME_CNT_RING n) F.NME_CNT_RING_TMO) (513 + 2 * n)
  else s

end Sys2Proof.Machine
end

