-- ==== Sys2Proof/Machine/Dsp.lean ====
section
/-!
DEFINITION. The dispatchers (R244 to R259, R292 to R295): jobs and their checks, release, program load, completion, faults
and spill, ring reset, and the loss of an engine.
-/
namespace Sys2Proof.Machine

/-- The fields of a job (R245). -/
def jType (ws : List Nat) : Nat := wordField ws 0 63 60
def jEng (ws : List Nat) : Nat := wordField ws 0 59 58
def jAtBeat (ws : List Nat) : Bool := wordField ws 0 57 57 == 1
def jIrq (ws : List Nat) : Bool := wordField ws 0 56 56 == 1
def jNstream (ws : List Nat) : Nat := wordField ws 0 55 51
def jNin (ws : List Nat) : Nat := wordField ws 0 50 48
def jNout (ws : List Nat) : Nat := wordField ws 0 47 45
def jUser (ws : List Nat) : Nat := wordField ws 0 31 0
def jProg (ws : List Nat) : Nat := ws.getD 1 0
def jStreams (ws : List Nat) : Nat := ws.getD 2 0
def jArgs (ws : List Nat) : Nat := ws.getD 3 0
def jRelease (ws : List Nat) : Nat := wordField ws 4 47 0
def jIn (ws : List Nat) (k : Nat) : Nat := wordField ws 5 (16 * k + 15) (16 * k)
def jOut (ws : List Nat) (k : Nat) : Nat := wordField ws 6 (16 * k + 15) (16 * k)
def jOutDie (ws : List Nat) (k : Nat) : Nat := wordField ws 7 (3 * k + 2) (3 * k)
def jRtbl (ws : List Nat) : Nat := ws.getD 8 0
def jRtblAt (ws : List Nat) : Nat := wordField ws 9 47 0

/-- A JOIN job. -/
def isJoin (ws : List Nat) : Bool := jType ws == 2

/-- A run of bytes of this module's own shared buffer, as an operand (R71, R245). -/
def State.ownBuffer (s : State) (a len : Nat) : Bool :=
  decide (a < 2 ^ 48) && s.isLocal a && regionOf (a % 2 ^ 41) == .buffer && regionOf (a % 2 ^ 41 + len - 1) == .buffer

/-- The checks of a job's words (R245, R253); a JOIN uses neither a program nor its companions. -/
def State.jobFailures (s : State) (ws : List Nat) : List (Nat × Bool) :=
  [(jrRESERVED_VALUE, (jType ws != 1 && jType ws != 2) || jEng ws == 3 || decide (16 < jNstream ws) ||
      decide (4 < jNin ws) || decide (4 < jNout ws)),
    (jrRESERVED_FIELD, wordField ws 0 44 32 != 0 || wordField ws 4 63 48 != 0 || wordField ws 7 63 12 != 0 ||
      wordField ws 9 63 48 != 0 || (ws.drop 10).any fun w => w != 0),
    (jrOPERAND_ADDR, !isJoin ws && (!s.ownBuffer (jProg ws) 64 || jProg ws % 64 != 0 ||
      (jNstream ws != 0 && !s.ownBuffer (jStreams ws) (32 * jNstream ws)) ||
      (jArgs ws != 0 && !s.ownBuffer (jArgs ws) 64) || (jRtbl ws != 0 && !s.ownBuffer (jRtbl ws) 136)))]

/-- The head job of a ring (R251): one whose fault at release has ended, or the one fetched; with its number. -/
def State.headJob (s : State) (k : Nat) : Option (Nat × List Nat) :=
  match (s.jobs k).find? fun j => decide (j.phase = .again) with
  | some j => some (j.number, j.words)
  | none => ((s.ring k).fetched).map fun ws => (s.qStarted k, ws)

/-- An engine that a job may use: neither lost nor vacant; and one that is IDLE and not reserved. -/
def State.engineIdle (s : State) (n : Nat) : Bool := s.engineState n == neIDLE && (s.engine n).job.isNone

/-- The engines that ENG allows (R251). -/
def jobEngines (d : Nat) (ws : List Nat) : List Nat :=
  if jEng ws = 0 then [2 * d] else if jEng ws = 1 then [2 * d + 1] else [2 * d, 2 * d + 1]

/-- The first input token found absent (R247). -/
def State.absentToken (s : State) (d : Nat) (ws : List Nat) : Option Nat :=
  ((List.range (jNin ws)).map (jIn ws)).find? fun t => !s.tokPresent d (t / 16) (t % 16)

/-- What a check of a head job finds (R251, R259). -/
inductive HeadCheck where
  | malformed (reason : Nat)
  | lost
  | waits
  | join
  | run (n : Nat)
  deriving DecidableEq, Repr

/-- The check of a head job. -/
def State.checkHead (s : State) (d : Nat) (ws : List Nat) : HeadCheck :=
  match failing (s.jobFailures ws) with
  | some r => .malformed r
  | none =>
    let ready := !(jAtBeat ws && decide (s.beatNow < jRelease ws)) && (s.absentToken d ws).isNone
    if isJoin ws then (if ready then .join else .waits)
    else
      let l := (jobEngines d ws).filter s.takesPackets
      if l.isEmpty then .lost
      else
        match l.find? s.engineIdle with
        | some n => if ready then .run n else .waits
        | none => .waits

/-- DSP_JR_STATUS shows what a head job waits for (R263). -/
def State.showWaits (s : State) (k : Nat) : State :=
  let r := qSTATUS k
  let d := dieOf k
  let put := fun (s : State) (f : Fld) (b : Bool) => s.setFld r f (if b then 1 else 0)
  match s.headJob k with
  | none =>
    (put (put (put s F.DSP_JR_STATUS_WAIT_ENG false) F.DSP_JR_STATUS_WAIT_BEAT false) F.DSP_JR_STATUS_WAIT_TOK
      false).setFld r F.DSP_JR_STATUS_WAIT_INDEX 0
  | some (_, ws) =>
    let t := s.absentToken d ws
    let busy := !isJoin ws && !(jobEngines d ws).any s.engineIdle
    (put (put (put s F.DSP_JR_STATUS_WAIT_ENG busy) F.DSP_JR_STATUS_WAIT_BEAT
      (jAtBeat ws && decide (s.beatNow < jRelease ws))) F.DSP_JR_STATUS_WAIT_TOK t.isSome).setFld r
      F.DSP_JR_STATUS_WAIT_INDEX (t.elim 0 fun t => t / 16)

/-- The rings that a dispatcher considers (R244, R251): RUNNING, with a head job, in READY. -/
def State.jobRings (s : State) (d : Nat) : List Nat :=
  if s.topState = stREADY then
    (List.range 32).filter fun r =>
      s.qState (jobKey d r) == qsRUNNING && !(s.ring (jobKey d r)).resetting && (s.headJob (jobKey d r)).isSome
  else []

/-- The first of some rings after the one served last. -/
def nextRing (last : Nat) (l : List Nat) : Option Nat :=
  l.foldl (fun best r => match best with
    | some b => if (r + 63 - last) % 32 < (b + 63 - last) % 32 then some r else some b
    | none => some r) none

/-- A stream of a job's table (R246): generator, BASE, EXTENT, WR, HINT. -/
def parseStream (ws : List Nat) : Nat × Nat × Nat × Bool × Nat :=
  (wordField ws 1 60 57, ws.getD 0 0, wordField ws 1 47 0, wordField ws 1 63 63 == 1, wordField ws 1 62 61)

/-- The checks of a stream table (R246, R253). -/
def State.streamFailures (s : State) (ctx : Nat) (table : List (List Nat)) : List (Nat × Bool) :=
  let l := table.map parseStream
  let operand := fun (x : Nat × Nat × Nat × Bool × Nat) => streamOperand x.2.1 x.2.2.1 x.2.2.2.1
  [(jrRESERVED_VALUE, l.any fun x => x.2.2.2.2 == 3),
    (jrRESERVED_FIELD, table.any fun ws => wordField ws 1 56 48 != 0 || ws.getD 2 0 != 0 || ws.getD 3 0 != 0),
    (jrOPERAND_ADDR, l.any fun x => !s.operandAllowed ctx (operand x)),
    (jrSHADOW, l.any fun x => tooManyPages (operand x)),
    (jrGENERATOR, !decide ((l.map Prod.fst).Nodup))]

/-- A started job in a phase. -/
def startedJob (number : Nat) (ws : List Nat) (n flags : Nat) (phase : JobPhase) : Job :=
  ⟨number, ws, phase, n, scDONE, flags, 0, 0, [], [], false, none⟩

/-- A job joins the started ones of its ring, in the place of an earlier attempt (R82). -/
def State.addJob (s : State) (k : Nat) (j : Job) : State :=
  match s.job k j.number with
  | some _ => s.setJob k j
  | none => State.setJobs ((s.setRing k { s.ring k with fetched := none }).startNext k) k (s.jobs k ++ [j])

/-- The admission of a job's streams goes to the translator (R72, R81). -/
def State.submitJob (s : State) (k : Nat) (j : Job) : State :=
  s.submit (dieOf k) ⟨.release k j.number, s.qCtx k, s.qClass k,
    j.streams.filterMap fun x => (streamOperand x.2.1 x.2.2.1 x.2.2.2.1).pages,
    (1, j.engine, 0, s.qSlot k j.number), none, [], none, false⟩

/-- A RUN job is released to an engine (R251): its stream table is read and checked, and its streams go to admission. -/
def State.releaseRun (s : State) (k number : Nat) (ws : List Nat) (n : Nat) : State :=
  let other := n / 2 * 2 + (1 - n % 2)
  let j := startedJob number ws n (if jEng ws = 2 ∧ s.engineState other = neLOST then 16 else 0) .admitting
  let s := s.setEngine n { s.engine n with job := some (k, number), live := false }
  let (c, bs, s) := if jNstream ws = 0 then (scDONE, [], s)
    else s.memRead (s.qAccess k 0) (jStreams ws % 2 ^ 41) (32 * jNstream ws) true
  let table := (List.range (jNstream ws)).map fun i => wordsOf ((bs.drop (32 * i)).take 32)
  if c ≠ scDONE then s.addJob k { j.note c 0 with phase := .finished, flags := j.flags ||| flagOf c }
  else
    match failing (s.streamFailures (s.qCtx k) table) with
    | some r => s.addJob k { j.note scDESCRIPTOR_ERROR r with phase := .finished }
    | none =>
      let j := { j with streams := table.map parseStream }
      (s.addJob k j).submitJob k j

/-- A ring whose head job does not wait (R251). -/
def State.headReady (s : State) (d r : Nat) : Bool :=
  match s.headJob (jobKey d r) with
  | some (_, ws) => decide (s.checkHead d ws ≠ .waits)
  | none => false

/-- The ring that a dispatcher deals with next (R251): those of class 15 first, the others round-robin. -/
def State.releaseRing (s : State) (d : Nat) (l : List Nat) : Option Nat :=
  let able := l.filter (s.headReady d)
  let high := able.filter fun r => s.qClass (jobKey d r) == 15
  nextRing (Tab.get (fun _ => 31) s.nme.last d) (if high.isEmpty then able else high)

/-- A head job is dealt with as its check finds (R251, R259): a malformed job, and one whose engine is lost, completes
when it is met. -/
def State.releaseJob (s : State) (d k number : Nat) (ws : List Nat) : State :=
  let ended := fun (n c reason : Nat) => s.addJob k ((startedJob number ws n 0 .finished).note c reason)
  match s.checkHead d ws with
  | .malformed reason => ended 255 scDESCRIPTOR_ERROR reason
  | .lost => ended ((jobEngines d ws).headD 255) scUNIT_LOST 0
  | .waits => s
  | .join => ended 255 scDONE 0
  | .run n => s.releaseRun k number ws n

/-- A dispatcher checks the head jobs of its rings and releases one (R251). -/
def State.jobRelease (s : State) (d : Nat) : State :=
  let l := s.jobRings d
  let s := l.foldl (fun s r => s.showWaits (jobKey d r)) s
  match s.releaseRing d l with
  | none => s
  | some r =>
    let s : State := { s with nme := { s.nme with last := Tab.set (fun _ => 31) s.nme.last d r } }
    match s.headJob (jobKey d r) with
    | none => s
    | some (number, ws) => s.releaseJob d (jobKey d r) number ws

/-- A spilled job whose fault has ended takes its engine back once that is IDLE (R257). -/
def State.reloadBegin (s : State) (n : Nat) : State :=
  if s.engineIdle n then
    let waiting := (List.range 32).findSome? fun r =>
      ((s.jobs (jobKey (n / 2) r)).find? fun j => j.engine == n && (match j.phase with | .waiting _ => true | _ => false)).map
        fun j => (jobKey (n / 2) r, j.number)
    match waiting with
    | some x => (s.setEngine n { s.engine n with job := some x, live := false }).setEngineState n neRELOADING
    | none => s
  else s

/-- An engine is free of its job (R255, R257): IDLE, unless it is lost. -/
def State.freeEngine (s : State) (n : Nat) : State :=
  let s := s.setEngine n { s.engine n with job := none, live := false, ended := false, accesses := [] }
  (if s.takesPackets n then s.setEngineState n neIDLE else s).reloadBegin n

/-- The admission of a job's streams has ended (R74, R77 to R79, R255). -/
def State.jobAdmitted (s : State) (k number : Nat) (a : Admitted) (w : Admission) : State :=
  match s.job k number with
  | none => s
  | some j =>
    match a with
    | .waits => s
    | .released shadow => s.setJob k { j with phase := .loading, shadow := shadow }
    | .ended c => s.setJob k { j.note c 0 with phase := .finished, flags := j.flags ||| flagOf c }
    | .faulted reason page =>
      let (out, s) := s.recordFault (dieOf k) w reason page
      if out then
        let s := (s.setJob k { j with phase := .faulted }).freeEngine j.engine
        if s.qState k = qsRUNNING then s.setQState k qsSUSPENDED else s
      else s.setJob k { j.note scPAGE_FAULT 0 with phase := .finished }

/-- The ring table image of a job (R242): the reason when it is not sound. -/
def ringImageBad (bs : List Byte) : Option Nat :=
  let head := Word.ofBytes (bs.take 8)
  let slots := head % 128
  let entries := fun (o : Nat) => (bs.drop o).take (min slots 64)
  failing [(jrRESERVED_VALUE, slots == 0 || decide (64 < slots)),
    (jrRESERVED_FIELD, head / 128 != 0 ||
      (entries 8 ++ entries 72).any fun b => b.toNat / 16 % 8 != 0)]

/-- A ring table image becomes the shadow tables of an engine, armed for a beat (R242). -/
def State.armImage (s : State) (n : Nat) (bs : List Byte) (at' : Nat) : State :=
  let word := fun (o j : Nat) => BitVec.ofNat 64 (Word.ofBytes ((bs.drop (o + 8 * j)).take 8))
  let s := (List.range 8).foldl (fun (s : State) j =>
    (s.setReg (R.NME_RING_TBL_E n j) (word 8 j)).setReg (R.NME_RING_TBL_W n j) (word 72 j)) s
  s.ringArm n (Word.ofBytes (bs.take 8) % 128) at'

/-- The header of a program image (R292, R293), without the image check: COUNT, ENTRY and ICHECK of a sound one. -/
def parseHeader (bs : List Byte) : Option (Nat × Nat × Nat) :=
  let f := fun (o n : Nat) => Word.ofBytes ((bs.drop o).take n)
  let count := f 8 4
  if f 0 4 = 0x31454D4E ∧ f 4 2 = 1 ∧ 1 ≤ count ∧ count ≤ 32768 ∧ f 12 4 < count ∧ f 16 8 = 0 ∧
      f 28 4 = (crc32c (bs.take 28)).toNat then some (count, f 12 4, f 24 4)
  else none

/-- An engine starts a job at an entry point (R295). -/
def EngineState.start (e : EngineState) (j : Job) (args : List Nat) (entry : Nat) : EngineState :=
  let x := args.zipIdx.foldl (fun t a => Tab.set (fun _ => 0) t (a.2 + 1) (BitVec.ofNat 64 a.1)) []
  let gens := j.streams.foldl (fun t (g : Nat × Nat × Nat × Bool × Nat) =>
    Tab.set (fun _ => Generator.unbound) t g.1
      { Generator.open' g.2.1 g.2.2.1 g.2.2.2.1 g.2.2.2.2 false with admitted := true, shadow := j.shadow }) []
  { EngineState.idle with
    job := e.job, live := true, image := e.image, code := e.code, pc := entry, x := x, gens := gens,
    scratch := e.scratch, nextId := e.nextId }

/-- A read for a job's load, under the job's context (R251). -/
def State.jobBytes (s : State) (n a len : Nat) : Nat × List Byte × State :=
  s.memRead (s.engineAccess n 63 0) (a % 2 ^ 41) len true

/-- The ring table image of a job is read, checked and armed (R242); the status and reason when that fails. -/
def State.loadRing (s : State) (n : Nat) (ws : List Nat) : Option (Nat × Nat) × State :=
  if jRtbl ws = 0 then (none, s)
  else
    let (c, rt, s) := s.jobBytes n (jRtbl ws) 136
    if c ≠ scDONE then (some (c, 0), s)
    else
      match ringImageBad rt with
      | some r => (some (scDESCRIPTOR_ERROR, r), s)
      | none => (none, s.armImage n rt (jRtblAt ws))

/-- The arguments of a job are read (R251). -/
def State.loadArgs (s : State) (n : Nat) (ws : List Nat) : Option (Nat × Nat) × List Nat × State :=
  if jArgs ws = 0 then (none, [], s)
  else
    let (c, bs, s) := s.jobBytes n (jArgs ws) 64
    (if c = scDONE then none else some (c, 0), wordsOf bs, s)

/-- The program image of a job is read and checked (R292, R293): its entry point. An image that the engine holds is not
read again. -/
def State.loadCode (s : State) (n : Nat) (ws : List Nat) : Option (Nat × Nat) × Nat × State :=
  let (c, head, s) := s.jobBytes n (jProg ws) 64
  if c ≠ scDONE then (some (c, 0), 0, s)
  else
    match parseHeader head with
    | none => (some (scDESCRIPTOR_ERROR, jrPROGRAM), 0, s)
    | some (count, entry, icheck) =>
      if (s.engine n).image = some (jProg ws, icheck) then (none, entry, s)
      else
        let (c, code, s) := s.jobBytes n (jProg ws + 64) (8 * count)
        if c ≠ scDONE then (some (c, 0), 0, s)
        else if (crc32c code).toNat ≠ icheck then (some (scDESCRIPTOR_ERROR, jrPROGRAM), 0, s)
        else (none, entry, s.setEngine n { s.engine n with image := some (jProg ws, icheck), code := wordsOf code })

/-- A job whose load has failed ends with its status (R251, R253). -/
def State.loadFail (s : State) (k : Nat) (j : Job) (f : Nat × Nat) : State :=
  s.setJob k { j.note f.1 f.2 with phase := .finished, flags := j.flags ||| flagOf f.1 }

/-- A loaded job starts (R251, R295). -/
def State.startJob (s : State) (k n : Nat) (j : Job) (args : List Nat) (entry : Nat) : State :=
  let s := s.setEngine n ((s.engine n).start j args entry)
  let s := (s.setEngineState n neRUNNING).setFld (R.NME_STATUS n) F.NME_STATUS_RING ((k - 4096) % 32)
  (s.setFld (R.NME_STATUS n) F.NME_STATUS_INDEX (s.qSlot k j.number)).setJob k { j with phase := .running }

/-- The program of an engine's job is loaded and started (R251, R292, R293). -/
def State.programLoad (s : State) (n : Nat) : State :=
  match s.jobAt n with
  | none => s
  | some (k, j) =>
    if j.phase ≠ .loading then s
    else
      match s.loadRing n j.words with
      | (some f, s) => s.loadFail k j f
      | (none, s) =>
        match s.loadArgs n j.words with
        | (some f, _, s) => s.loadFail k j f
        | (none, args, s) =>
          match s.loadCode n j.words with
          | (some f, _, s) => s.loadFail k j f
          | (none, entry, s) => s.startJob k n j args entry

/-- Every access of a job has ended, and after END its last packet has been accepted (R307, R338). -/
def State.jobDrained (s : State) (k : Nat) (j : Job) : Bool :=
  let e := s.engine j.engine
  if e.job = some (k, j.number) then
    (e.accesses.all fun a => a.answer.isSome) && (!e.ended || j.status != scDONE || s.sendsDone j.engine)
  else true

/-- The record of a job (R253), with the tokens to post (R254). -/
def Job.record (j : Job) : RecordDue :=
  ⟨j.number, j.status, jUser j.words, if j.status = scDESCRIPTOR_ERROR then j.detail else 0, j.flags, j.bytes,
    if j.engine = 255 then 0xFF else j.engine, jIrq j.words,
    (List.range (min 4 (jNout j.words))).map fun i =>
      (jOutDie j.words i, jOut j.words i / 16, jOut j.words i % 16)⟩

/-- An engine that a job is done with is free. -/
def State.freeFrom (s : State) (k : Nat) (j : Job) : State :=
  if (s.engine j.engine).job = some (k, j.number) then s.freeEngine j.engine else s

/-- The oldest job of a ring that has ended completes (R254). -/
def State.jobComplete (s : State) (k : Nat) : State :=
  match (s.jobs k).find? fun j => decide (j.phase = .finished) && s.jobDrained k j with
  | some j =>
    if (s.ring k).resetting then s
    else ((s.setJobs k ((s.jobs k).filter fun x => x.number != j.number)).freeFrom k j).recordDue k j.record
  | none => s

/-- A switched-out job holds no shadow: its streams are admitted afresh on resume (R86). -/
def EngineState.unshadow (e : EngineState) : EngineState :=
  { e with gens := e.gens.map fun g =>
      if g.2.bound && !g.2.scratch then (g.1, { g.2 with admitted := false, shadow := [] }) else g }

/-- The lowest free spill slot of a die (R256). -/
def State.freeSlot (s : State) (d : Nat) : Option Nat :=
  (List.range (s.fld (R.DSP_SPILL d) F.DSP_SPILL_SLOTS)).find? fun i => !((s.jobsOf d).filterMap Job.slot).contains i

/-- An engine whose job has faulted at SOPEN has drained (R255): it spills, or is HELD. -/
def State.spillTry (s : State) (n : Nat) : State :=
  match s.jobAt n with
  | some (k, j) =>
    let e := s.engine n
    if j.phase = .draining ∧ e.accesses.all (fun a => a.answer.isSome) then
      match if e.ringUsed || j.resumed then none else s.freeSlot (n / 2) with
      | some slot => (s.setJob k { j with phase := .spilling slot, saved := some e }).setEngineState n neSPILLING
      | none =>
        let s := State.raise ((s.setJob k { j with phase := .held, resumed := false }).setEngineState n neHELD) (512 + 2 * n)
        if j.resumed then
          match (e.gens.find? fun g => g.2.bound && !g.2.admitted) with
          | some g => s.submitStream n g.1
          | none => s
        else s
    else s
  | none => s

/-- Work of a job, and of a job ring. -/
def ofJob (k number : Nat) : Faulter → Bool
  | .release j m => j == k && m == number
  | .sopen j m _ => j == k && m == number
  | _ => false
def ofJobRing (k : Nat) : Faulter → Bool
  | .release j _ => j == k
  | .sopen j _ _ => j == k
  | _ => false

/-- A stream that a job has opened, or that is admitted afresh, has been admitted or not (R257, R312, R338). -/
def State.sopenAdmitted (s : State) (k number gen : Nat) (a : Admitted) (w : Admission) : State :=
  match s.job k number with
  | none => s
  | some j =>
    let n := j.engine
    if j.phase = .finished ∨ (s.engine n).job ≠ some (k, number) then s
    else
      match a with
      | .waits => s
      | .released shadow =>
        let e := s.engine n
        let s := s.setEngine n (e.setGen gen { e.gen gen with admitted := true, shadow := shadow })
        if j.phase ≠ .held then s
        else
          match ((s.engine n).gens.find? fun g => g.2.bound && !g.2.admitted) with
          | some g => s.submitStream n g.1
          | none =>
            ((s.setEngine n { s.engine n with live := true }).setEngineState n neRUNNING).setJob k
              { j with phase := .running }
      | .ended c => (s.engineNote n c).stopJob n c 0
      | .faulted reason page =>
        let (out, s) := s.recordFault (dieOf k) w reason page
        if out then
          let s := s.setAdmissions (dieOf k) ((s.admissions (dieOf k)).filter fun w => !ofJob k number w.who)
          let s := s.setEngine n { (s.engine n).unshadow with live := false }
          (s.setJob k { j with phase := .draining, resumed := false }).spillTry n
        else s.stopJob n scPAGE_FAULT 0

/-- The length of an engine's spilled state (R255). -/
def spillBytes := 27590656

/-- The local address of a spill slot (R256). -/
def State.spillAddr (s : State) (d slot : Nat) : Nat :=
  s.fld (R.DSP_SPILL d) F.DSP_SPILL_BASE * 2 ^ 25 + slot * 0x2000000

/-- An engine's access of a spill slot, under context 0 (R256). -/
def State.spillAccess (s : State) (n : Nat) : Access := { s.engineAccess n 62 0 with ctx := 0 }

/-- The spill write of an engine ends (R255). What the slot's bytes are is internal: they are free. -/
def State.spillDone (s : State) (n : Nat) : State :=
  match s.jobAt n with
  | some (k, j) =>
    match j.phase with
    | .spilling slot =>
      let b := s.freeBytes spillBytes
      let s := (b.2.memWrite (b.2.spillAccess n) (b.2.spillAddr (n / 2) slot) (allBytes b.1)).2
      (s.setJob k { j with phase := if j.resumed then .waiting slot else .spilled slot, resumed := false }).freeEngine n
    | _ => s
  | none => s

/-- The next stream of an engine that is not admitted goes to admission (R257). -/
def State.submitNext (s : State) (n : Nat) : State :=
  match (s.engine n).gens.find? fun g => g.2.bound && !g.2.admitted with
  | some g => s.submitStream n g.1
  | none => s

/-- The reload of a spilled job ends (R257): the engine has its state again, and its streams are admitted afresh. -/
def State.reload (s : State) (n : Nat) : State :=
  match s.jobAt n with
  | some (k, j) =>
    match j.phase, j.saved with
    | .waiting slot, some saved =>
      let r := s.memRead (s.spillAccess n) (s.spillAddr (n / 2) slot) spillBytes true
      let s := r.2.2
      if r.1 ≠ scDONE then s.setJob k { j.note r.1 0 with phase := .finished, flags := j.flags ||| flagOf r.1 }
      else
        let s := s.setEngine n { saved with job := some (k, j.number), live := false, nextId := (s.engine n).nextId }
        ((s.setJob k { j with phase := .held, saved := none }).setEngineState n neRUNNING).submitNext n
    | _, _ => s
  | none => s

/-- A fault of a job ends by ADT_RESUME (R82, R257). -/
def State.jobResume (s : State) (who : Faulter) (w : Admission) (abort : Bool) : State :=
  match who with
  | .release k number =>
    match s.job k number with
    | some j =>
      let s := if s.qState k = qsSUSPENDED then
        s.setQState k (if s.flag (qCTL k) F.DMV_Q_CTL_EN then qsRUNNING else qsDISABLED) else s
      if abort then s.setJob k { j.note scABORTED 0 with phase := .finished, engine := 255 }
      else s.setJob k { j with phase := .again }
    | none => s
  | .sopen k number _ =>
    match s.job k number with
    | some j =>
      if abort then s.setJob k { j.note scABORTED 0 with phase := .finished }
      else
        match j.phase with
        | .held => s.submit (dieOf k) w
        | .spilled slot => (s.setJob k { j with phase := .waiting slot }).reloadBegin j.engine
        | .draining => s.setJob k { j with resumed := true }
        | .spilling _ => s.setJob k { j with resumed := true }
        | _ => s
    | none => s
  | _ => s

/-- A job is brought to its end with a status, wherever it stands: its engine issues nothing further. -/
def State.endJob (s : State) (k : Nat) (c : Nat) (j : Job) : State :=
  let s := if (s.engine j.engine).job = some (k, j.number) then
    State.dropSends (s.setEngine j.engine { s.engine j.engine with live := false, taken := none }) j.engine
  else s
  s.setJob k { j.note c 0 with phase := .finished, saved := none }

/-- A job-ring reset begins (R258). -/
def State.jobRingReset (s : State) (k : Nat) : State :=
  let s := s.setFld (qCTL k) F.DSP_JR_CTL_RESET 1
  let s := s.dropWork (dieOf k) (ofJobRing k)
  let s := (s.jobs k).foldl (fun s j => s.endJob k scABORTED j) s
  s.setRing k { s.ring k with
    resetting := true, fetched := none,
    due := (s.ring k).due.map fun r => { r with status := worse r.status scABORTED } }

/-- The drain of a job-ring reset has ended: every started job has its record (R258, R561). -/
def State.jobRingResetDone (s : State) (k : Nat) : State :=
  if (s.ring k).resetting && (s.jobs k).all fun j => s.jobDrained k j then
    let l := s.jobs k
    let s := l.foldl (fun s j => s.freeFrom k j) (s.setJobs k [])
    let s := s.setRing k { s.ring k with due := (s.ring k).due ++ l.map Job.record }
    (s.records k).showWaits k
  else s

/-- The packets that an engine has received are discarded, and their credit returned (R259). -/
def State.discardReceived (s : State) (n : Nat) : State :=
  (List.range 32).foldl (fun s i =>
    let p := 2 * n + i / 16
    let q := ringQueue p (i % 16)
    ((s.received q).foldl (fun s x => s.discardPacket p x.2) s).setReceived q []) s

/-- An engine is lost (R259, R559): its jobs, but for those at release after a fault, end with UNIT_LOST. -/
def State.nmeLost (s : State) (n : Nat) : State :=
  if s.takesPackets n then
    let s := ((s.setEngineState n neLOST).raise (512 + 2 * n)).noteLoss dkNME n 0
    let d := n / 2
    let s := (List.range 32).foldl (fun s r =>
      (s.jobs (jobKey d r)).foldl (fun s j =>
        if j.engine = n ∧ j.phase ≠ .faulted ∧ j.phase ≠ .again then
          (s.dropWork d (ofJob (jobKey d r) j.number)).endJob (jobKey d r) scUNIT_LOST j
        else s) s) s
    (s.setEngine n { s.engine n with live := false }).discardReceived n
  else s

/-- A job that holds a translation which an invalidation covers, in its engine or before its start (R86). -/
def State.engineCovered (s : State) (v : Invalidation) (n : Nat) : Bool :=
  match s.jobAt n with
  | some (k, j) =>
    j.phase != .finished && (if j.phase = .loading then shadowCovered v (s.qCtx k) j.shadow
      else (s.engine n).gens.any fun g => g.2.bound && shadowCovered v (s.qCtx k) g.2.shadow)
  | none => false

/-- The engine of a job's admission. -/
def State.admittingEngine (s : State) (who : Faulter) : Option Nat :=
  match who with
  | .release k number | .sopen k number _ => (s.job k number).map Job.engine
  | _ => none

/-- An engine whose job is being admitted under entries that an invalidation covers (R87). -/
def State.engineAdmitting (s : State) (v : Invalidation) (n : Nat) : Bool :=
  s.adt.work.any fun e => e.2.any fun w => s.admittingEngine w.who == some n && admissionCovered v w

/-- The engines that an invalidation waits for (R86). -/
def State.engineHolders (s : State) (v : Invalidation) : List Nat :=
  ((List.range 16).filter fun n => s.engineCovered v n || s.engineAdmitting v n).map (256 + ·)

/-- An engine acknowledges the running invalidation once what it issued through the covered streams has drained; those
streams, or the streams of a job not yet started, are admitted afresh (R86, R558). -/
def State.engineAck (s : State) (n : Nat) : State :=
  match s.invalHead with
  | none => s
  | some v =>
    if !v.waiting.contains (256 + n) || s.engineAdmitting v n then s
    else
      match s.jobAt n with
      | none => s.invalAck (256 + n)
      | some (k, j) =>
        let e := s.engine n
        let hits := e.gens.filter fun g => g.2.bound && shadowCovered v (s.qCtx k) g.2.shadow
        let busy := e.accesses.any fun a => a.answer.isNone && (j.phase = .finished || hits.any fun g => g.1 == a.gen)
        if j.phase = .loading then
          let s := s.invalAck (256 + n)
          if shadowCovered v (s.qCtx k) j.shadow then
            let j := { j with phase := .admitting, shadow := [] }
            (s.setJob k j).submitJob k j
          else s
        else if busy then
          s.setEngine n (hits.foldl (fun e g => e.setGen g.1 { g.2 with admitted := false }) e)
        else
          let s := (s.setEngine n (hits.foldl (fun e g => e.setGen g.1 { g.2 with admitted := false, shadow := [] })
            e)).invalAck (256 + n)
          if j.phase = .running then hits.foldl (fun s g => s.submitStream n g.1) s else s

/-- A write of NME_CTL (R262). -/
def State.nmeCntClr (s : State) (n : Nat) (v : Word) : State :=
  if F.NME_CTL_CNT_CLR.isSet v then
    ((s.setReg (R.NME_CNT_RUN n) 0).setReg (R.NME_CNT_RING n) 0).setReg (R.NME_CNT_SCR n) 0
  else s

end Sys2Proof.Machine
end

