-- ==== Sys2Proof/Machine/Grant.lean ====
section
/-!
DEFINITION. The power grants, clamps and resets of the sites (15_top_die_interface, R409 and R423 to R427).
-/
namespace Sys2Proof.Machine

/-- The floor of the grant in force (R423). -/
def grantFloor := 40

/-- KIND of a site: 1 top die, 2 cap (R408). -/
def State.siteKind (s : State) (d : Nat) : Nat := s.fld (R.TDI_SITE_STATUS d) F.TDI_SITE_STATUS_KIND

/-- SITE_RST of a site is asserted (R409). -/
def State.siteReset (s : State) (d : Nat) : Bool := s.flag (R.TDI_SITE_STATUS d) F.TDI_SITE_STATUS_RESET

/-- The limiter clamps a site (R424). -/
def State.clamped (s : State) (d : Nat) : Bool := s.flag (R.TDI_PWR_STATUS d) F.TDI_PWR_STATUS_CLAMPED

/-- The grant that takes force (R423, R424): the scheduled one, at most CLAMP_W while clamped, at least the floor on a
top die whose rails are up, and 0 W on a cap (R427). -/
def State.grantOf (s : State) (d : Nat) : Nat :=
  let w := s.fld (R.TDI_PWR_STATUS d) F.TDI_PWR_STATUS_SCHED_W
  let w := if s.clamped d then min w (s.fld (R.TDI_PWR_LIMIT d) F.TDI_PWR_LIMIT_CLAMP_W) else w
  if s.siteKind d = 1 then
    if s.flag (R.TDI_SITE_STATUS d) F.TDI_SITE_STATUS_POWERED then max grantFloor w else w
  else 0

/-- The grant takes force. -/
def State.forceGrant (s : State) (d : Nat) : State :=
  s.setFld (R.TDI_PWR_STATUS d) F.TDI_PWR_STATUS_FORCE_W (s.grantOf d)

/-- SITE_RST is asserted, the scheduled grant is 0 W, and an armed change is dropped (R409). -/
def State.resetSite (s : State) (d : Nat) : State :=
  (((s.setFld (R.TDI_SITE_STATUS d) F.TDI_SITE_STATUS_RESET 1).setFld (R.TDI_PWR_STATUS d) F.TDI_PWR_STATUS_SCHED_W
    0).setFld (R.TDI_PWR_GRANT d) F.TDI_PWR_GRANT_ARMED 0).forceGrant d

/-- A request port by 64·site + port. -/
def State.sitePort (s : State) (k : Nat) : SitePort := Tab.get (fun _ => ⟨[], []⟩) s.sites k

/-- No request of a site waits for its response. -/
def State.siteIdle (s : State) (d : Nat) : Bool :=
  (List.range 64).all fun p => (s.sitePort (64 * d + p)).queue.isEmpty && (s.sitePort (64 * d + p)).out.isEmpty

/-- Every site whose outstanding requests have completed is put in reset (R409). -/
def State.resetSites (s : State) : State :=
  (List.range 8).foldl (fun s d => if s.siteIdle d then s.resetSite d else s) s

/-- The limiter clamps a site (R424). -/
def State.clamp (s : State) (d : Nat) : State :=
  if s.clamped d then s
  else
    (((s.setFld (R.TDI_PWR_STATUS d) F.TDI_PWR_STATUS_CLAMPED 1).bump (R.TDI_CNT d) F.TDI_CNT_CLAMPS).forceGrant
      d).raise (84 + d)

/-- The limiter releases a clamp; the scheduled grant takes force at the next local edge (R424). -/
def State.unclamp (s : State) (d : Nat) : State :=
  if s.clamped d then (s.setFld (R.TDI_PWR_STATUS d) F.TDI_PWR_STATUS_CLAMPED 0).raise (84 + d) else s

/-- TDI_PWR_GRANT.ARM (R423, R427): discarded on a cap. -/
def State.armGrant (s : State) (d : Nat) : State :=
  if s.siteKind d = 2 then s else s.setFld (R.TDI_PWR_GRANT d) F.TDI_PWR_GRANT_ARMED 1

/-- A local edge at a site (R423 to R425): REQ_W is sampled, an overdraw is counted, a change whose beat has come is
made, and the grant of a site that is not clamped takes force. -/
def State.siteEdge (s : State) (e : EdgeSites) (d : Nat) : State :=
  let s : State := match e.wanted[d]? with
    | some w => s.setFld (R.TDI_PWR_STATUS d) F.TDI_PWR_STATUS_REQ_W w.toNat
    | none => s
  let s : State := if e.overdrawn.getLsbD d then
      let s := s.bump (R.TDI_CNT d) F.TDI_CNT_OVER_BEATS
      if s.fld (R.TDI_CNT d) F.TDI_CNT_OVER_BEATS % 16 = 0 then s.raise (84 + d) else s
    else s
  let g := R.TDI_PWR_GRANT d
  let s : State := if s.flag g F.TDI_PWR_GRANT_ARMED && decide (s.fld g F.TDI_PWR_GRANT_AT ≤ s.beatNow) then
      (s.setFld (R.TDI_PWR_STATUS d) F.TDI_PWR_STATUS_SCHED_W (s.fld g F.TDI_PWR_GRANT_NEXT_W)).setFld g
        F.TDI_PWR_GRANT_ARMED 0
    else s
  s.forceGrant d

/-- The module enters QUIESCED, and its sites are put in reset (R402, R409). -/
def State.enterQuiesced (s : State) : State := (s.enterTop stQUIESCED).resetSites

end Sys2Proof.Machine
end

