-- ==== Sys2Proof/Machine/Port.lean ====
section
/-!
DEFINITION. The ports of Thegief (14_thegief_protocol_pods): pips (R389, R390), the audit log (R405), husks that leave,
and what becomes of queues, routes and tags when a port goes down (R103, R392).
-/
namespace Sys2Proof.Machine

/-- The pips of each pool of a receiver, in the order REQ, RSP, CTL (R389). -/
def pipsWhole : Nat × Nat × Nat := (768, 224, 32)

/-- The kinds of a port. -/
def pkPOD := 0
def pkHOST := 1
def pkFOREIGN := 2
def pkDOWN := 3

/-- The far end's free pips as TGL_PORT_STATUS shows them. -/
def State.showPips (s : State) (p : Nat) : State :=
  let x := s.port p
  let r := R.TGL_PORT_STATUS p
  ((s.setFld r F.TGL_PORT_STATUS_REQ_PIPS (x.free 0)).setFld r F.TGL_PORT_STATUS_RSP_PIPS (x.free 1)).setFld r
    F.TGL_PORT_STATUS_CTL_PIPS (x.free 2)

/-- The counts of freed pips that a CRD carries (R390): the first grants the whole pools. -/
def PortState.credits (x : PortState) : Nat × Nat × Nat :=
  ((x.freed.1 + pipsWhole.1) % 65536, (x.freed.2.1 + pipsWhole.2.1) % 65536, (x.freed.2.2 + pipsWhole.2.2) % 65536)

/-- A received husk has left its buffer: its pips are freed (R390). -/
def State.freePips (s : State) (p pool n : Nat) : State :=
  let x := s.port p
  s.setPort p { x with freed := addThird x.freed pool n, sinceCrd := x.sinceCrd + n }

/-- CODE of a control message (R400). -/
def ctlCode : CtlBody → Nat
  | .hello _ => 1
  | .join _ => 2
  | .assign _ => 3
  | .members _ _ => 4
  | .routes _ _ => 5
  | .groups _ _ => 6
  | .portDown _ _ => 7
  | .portUp _ _ => 8
  | .leave _ => 9
  | .stretch _ => 10
  | .beatQuery => 11
  | .beatReply _ => 12
  | .ack _ _ => 13

/-- The rows that a control message carries. -/
def ctlRows : CtlBody → Nat
  | .members _ l => l.length
  | .routes _ l => l.length
  | .groups _ l => l.length
  | _ => 0

/-- The pips of a control message. -/
def ctlPips (b : CtlBody) : Nat := pipsOf (Config.ctlBytes (ctlCode b) (ctlRows b))

/-- The pips of a pool that received messages still hold: those of the control messages that wait (R479). -/
def State.heldPips (s : State) (p pool : Nat) : Nat :=
  if pool = 2 then (s.pod.held.map fun e => if e.1 = p then ctlPips e.2.2 else 0).sum else 0

/-- A husk arrived while its sender held too few pips: the pips received exceed those granted so far (R405 class 5). -/
def State.overrun (s : State) (p pool n : Nat) : Bool :=
  let x := s.port p
  decide (32768 ≤ (third x.crdSent pool + 65536 - (third x.freed pool + s.heldPips p pool + n) % 65536) % 65536)

/-- The audit counts of a port, summed over the classes. -/
def State.audits (s : State) (p : Nat) : Nat :=
  ((List.range 15).map fun k => s.fld (R.TGL_AUD_CNT p k) F.TGL_AUD_CNT_COUNT).sum

/-- A violation of a class is found on a port in audit mode (R405): it is counted, and the first 64 are logged with
words 2 and 3 of the record. -/
def State.audit (s : State) (p cls : Nat) (w2 w3 : Nat) : State :=
  if s.flag (R.TGL_PORT_CTL p) F.TGL_PORT_CTL_AUDIT then
    let n := s.audits p
    let s := s.bump (R.TGL_AUD_CNT p (cls - 1)) F.TGL_AUD_CNT_COUNT
    let i := s.fld (R.TGL_AUD_STATUS p) F.TGL_AUD_STATUS_LOGGED
    let s := if i < 64 then
        let put := fun (s : State) (w v : Nat) => s.setReg (R.TGL_AUD_LOG p i w) (BitVec.ofNat 64 v)
        (put (put (put (put s 0 (cls * 2 ^ 60 + s.beatNow)) 1 s.ns) 2 w2) 3 w3).setFld (R.TGL_AUD_STATUS p)
          F.TGL_AUD_STATUS_LOGGED (i + 1)
      else s
    if n % 256 = 0 then s.portEvent p F.TGL_EVT_AUDIT else s
  else s

/-- A violation by a husk, whose header the record holds. -/
def State.auditHusk (s : State) (p cls : Nat) (hdr : BitVec 128) : State :=
  s.audit p cls (hdr.toNat % 2 ^ 64) (hdr.toNat / 2 ^ 64)

/-- The pool of an item of a transmit queue, and its pips; no pool for CRD. -/
def TxItem.cost : TxItem → Nat × Nat
  | .husk h => ((pipPool h.typ).getD 3, pipsOf h.payload.length)
  | .ctl _ b => (2, ctlPips b)

/-- What leaves by a port. -/
def TxItem.out (p : Nat) : TxItem → Out
  | .husk h => .husk p h.header h.payload (huskCrc h.header h.payload)
  | .ctl h b => .control p h b

/-- The husk at the head of a port's transmit queue leaves, if the far end has the pips for it (R389). -/
def State.huskSend (s : State) (p : Nat) : State :=
  let x := s.port p
  match x.txq with
  | [] => s
  | i :: rest =>
    if s.linkState p = lkUP ∧ i.cost.2 ≤ x.free i.cost.1 then
      let s := (s.setPort p { x with txq := rest, sent := addThird x.sent i.cost.1 i.cost.2 }).showPips p
      ((s.bump (R.TGL_PORT_CNT2 p) F.TGL_PORT_CNT2_HUSKS_TX).emit (i.out p)).forkPump p
    else s

/-- A credit return leaves, when it grants the whole pools or pips have been freed since the last one (R390). -/
def State.crdSend (s : State) (p : Nat) : State :=
  let x := s.port p
  if s.linkState p = lkUP ∧ (!x.opened ∨ 0 < x.sinceCrd) then
    let c := x.credits
    let h : Husk := { Husk.zero with typ := Husk.CRD, src := s.ownId, freed := c }
    ((s.setPort p { x with opened := true, sinceCrd := 0, crdSent := c }).bump (R.TGL_PORT_CNT2 p)
      F.TGL_PORT_CNT2_HUSKS_TX).emit (.husk p h.header [] (huskCrc h.header []))
  else s

/-- The ports in force to each module. -/
def State.portsInForce (s : State) : List (Option Nat) := (List.range 64).map s.route

/-- A request to a module that left by a port has no answer yet. -/
def State.busyVia (s : State) (m p : Nat) : Bool :=
  s.tags.any fun e => e.1 / 4096 == m && (match e.2.busy with | some u => u.port == p | none => false)

/-- IN_USE of a module follows a change of its port in force (R103, R392): requests are held while others that left by
the old port have not ended. -/
def State.settleRoute (s : State) (m : Nat) (old : Option Nat) : State :=
  let now := s.route m
  let r := R.TGL_ROUTE m
  if s.routeIsHeld m then s
  else if now = old then s.setFld r F.TGL_ROUTE_IN_USE (s.routeUse m)
  else
    match old with
    | none => s.setFld r F.TGL_ROUTE_IN_USE (s.routeUse m)
    | some o =>
      let s := s.setFld r F.TGL_ROUTE_IN_USE (if now.isSome && s.busyVia m o then 3 else s.routeUse m)
      let s := s.portEvent o F.TGL_EVT_ROUTE
      match now with
      | some n => s.portEvent n F.TGL_EVT_ROUTE
      | none => s

/-- IN_USE of every module follows, from the ports in force before. -/
def State.settleRoutes (s : State) (old : List (Option Nat)) : State :=
  (List.range 64).foldl (fun s m => s.settleRoute m (old.getD m none)) s

/-- The pool of a request of this module in a transmit queue, when its tag is the busy one. -/
def State.ownTag (s : State) (p : Nat) (h : Husk) : Option (Nat × TagUse) :=
  let pool := if s.portKind p == pkHOST || s.isHostPort p then poolHost else h.dest
  let t := s.tag pool h.tag
  if h.src = s.ownId ∧ t.epoch = h.epoch then t.busy.map fun u => (pool, u) else none

/-- A busy tag counts at another port. -/
def State.moveTag (s : State) (pool tag : Nat) (u : TagUse) (p : Nat) : State :=
  ((s.setTag pool tag { s.tag pool tag with busy := some { u with port := p } }).countTag u.port false).countTag p true

/-- A request of this module that has not started goes to the route in force, keeping its tag (R392); without a route it
ends with LINK_DOWN. -/
def State.replace (s : State) (pool : Nat) (u : TagUse) (h : Husk) : State :=
  let go := fun (s : State) (p : Nat) => (s.moveTag pool h.tag u p).enqueue p (.husk h)
  let down := fun (s : State) => (s.freeTagAt pool h.tag).owe u.waiter scLINK_DOWN []
  if pool = poolHost then
    match s.hostPort with
    | some p => go s p
    | none => down s
  else
    match s.route h.dest with
    | none => down s
    | some p => if s.routeIsHeld h.dest then (s.moveTag pool h.tag u noPort).holdItem h.dest (.husk h) else go s p

/-- One response for each target of a mask, as that target (R395, R396). -/
def State.mcReport (s : State) (h : Husk) (mask : Word) (status : Nat) : State :=
  (bitsOf 64 mask.toNat).foldl (fun s m =>
    s.forwardHusk { Husk.zero with
      typ := Husk.RSP, dest := h.src, src := m, tag := h.tag, epoch := h.epoch, cls := h.cls, status := status,
      mc := true }) s

/-- The targets of a multicast copy fail (R226, R396): at its source its tag is resolved, with the FLAGS bit of the
cause; elsewhere the source is told. -/
def State.failCopy (s : State) (h : Husk) (status flags : Nat) : State :=
  if h.src = s.ownId then s.mcResolve h.tag (mcMask h.payload) true flags
  else s.mcReport h (mcMask h.payload) status

/-- A multicast husk. -/
def multicastHusk (h : Husk) : Bool := h.typ == Husk.MCW || h.typ == Husk.MBAR

/-- What becomes of an item of a lost port's transmit queue (R392). -/
def State.returnItem (s : State) (p : Nat) (host : Bool) : TxItem → State
  | .ctl h b =>
    if h.link then s
    else
      match s.route h.dest.toNat with
      | some q => s.enqueue q (.ctl h b)
      | none => s
  | .husk h =>
    if multicastHusk h then s.failCopy h scLINK_DOWN 8
    else if h.typ = Husk.SNAP then s
    else
      match (if Husk.isRequest h.typ then s.ownTag p h else none) with
      | some (pool, u) => s.replace pool u h
      | none =>
        if host then
          match s.hostPort with
          | some q => s.enqueue q (.husk h)
          | none => s
        else s.forwardHusk h

/-- An item that R103 held goes out by the route in force, or ends with LINK_DOWN. -/
def State.releaseItem (s : State) (m : Nat) : TxItem → State
  | .ctl h b =>
    match s.route m with
    | some q => s.enqueue q (.ctl h b)
    | none => s
  | .husk h =>
    match s.ownTag noPort h with
    | some (pool, u) => s.replace pool u h
    | none => s.forwardHusk h

/-- A request to a module has left by a port and has not ended. -/
def State.sentTo (s : State) (m : Nat) : Bool :=
  s.tags.any fun e => e.1 / 4096 == m && (match e.2.busy with | some u => decide (u.port < 32) | none => false)

/-- The hold of R103 on a module ends, once every request that left by another port has ended. -/
def State.routeHoldEnd (s : State) (m : Nat) : State :=
  if !s.routeIsHeld m || s.sentTo m then s
  else
    let l := Tab.get (fun _ => []) s.routeHeld m
    let s := s.setFld (R.TGL_ROUTE m) F.TGL_ROUTE_IN_USE (s.routeUse m)
    let s : State := { s with routeHeld := Tab.set (fun _ => []) s.routeHeld m [] }
    l.foldl (fun s i => s.releaseItem m i) s

/-- The fork queue of a port holds 128 KiB of copies, counted with their envelopes (R396). -/
def forkRoom (l : List Husk) (h : Husk) : Bool :=
  decide (((h :: l).map fun x => 22 + x.payload.length).sum ≤ 131072)

/-- A multicast copy is dropped here (R396). -/
def State.dropCopy (s : State) (p : Nat) (h : Husk) : State :=
  ((s.bump R.TGL_CNT F.TGL_CNT_MC_DROP).portEvent p F.TGL_EVT_MC_DROP).failCopy h scTIMEOUT 32

/-- The copy at an index of a port's fork queue has waited longer than MC_TMO (R396). -/
def State.forkCopyDrop (s : State) (p i : Nat) : State :=
  let x := s.port p
  match x.fork[i]? with
  | some h => (s.setPort p { x with fork := x.fork.eraseIdx i }).dropCopy p h
  | none => s

/-- A tag's responses are not complete in time (R388). -/
def State.tagTimeout (s : State) (pool tag : Nat) : State :=
  let t := s.tag pool tag
  match t.busy with
  | none => s
  | some u =>
    let s := s.bump R.TGL_CNT F.TGL_CNT_TAG_TMO
    let s := if u.port < 32 then s.portEvent u.port F.TGL_EVT_TAG_TMO else s
    let s := (bitsOf 32 u.ports).foldl (fun s p => s.portEvent p F.TGL_EVT_TAG_TMO) s
    let s := if pool = poolMulticast then s.mcResolve tag u.targets true 2
      else (s.freeTagAt pool tag).owe u.waiter scTIMEOUT []
    (s.setTag pool tag { s.tag pool tag with epoch := (t.epoch + 1) % 16 }).serveTagWait pool

end Sys2Proof.Machine
end

