-- ==== Sys2Proof/Machine/Pod.lean ====
section
/-!
DEFINITION. Pods (14_thegief_protocol_pods): candidates and the master (R397 to R399), joining and leaving (R401 to
R403), the routes and fork trees that the master computes (R393, R394), and the control messages (R400).
-/
namespace Sys2Proof.Machine

/-- The states of TGL_POD_STATUS. -/
def psALONE := 0
def psELECTING := 1
def psJOINING := 2
def psMEMBER := 3
def psMASTER := 4
def psLEFT := 5

/-- A field of TGL_POD_STATUS. -/
def State.podFld (s : State) (f : Fld) : Nat := s.fld R.TGL_POD_STATUS f

/-- The state with one changed. -/
def State.setPod (s : State) (f : Fld) (n : Nat) : State := s.setFld R.TGL_POD_STATUS f n

/-- The state of R407. -/
def State.podState (s : State) : Nat := s.podFld F.TGL_POD_STATUS_STATE

/-- This module is the master. -/
def State.isMaster (s : State) : Bool := s.flag R.TGL_POD_STATUS F.TGL_POD_STATUS_IS_MASTER

/-- This module has an ID. -/
def State.hasId (s : State) : Bool := s.flag R.TGL_POD_STATUS F.TGL_POD_STATUS_ID_VALID

/-- The ID of the master. -/
def State.masterId (s : State) : Nat := s.podFld F.TGL_POD_STATUS_MASTER_ID

/-- This module's serial number. -/
def State.serial (s : State) : Nat := s.fld R.TGL_SERIAL F.TGL_SERIAL_SERIAL

/-- ROLE: 0 AUTO, 1 MASTER, 2 MEMBER. -/
def State.role (s : State) : Nat := s.fld R.TGL_POD_CFG F.TGL_POD_CFG_ROLE

/-- Candidate a ranks before candidate b, each by role and serial number (R397). -/
def better (a b : Nat × Nat) : Bool :=
  if a.1 = b.1 then decide (a.2 < b.2) else a.1 == 1 || (a.1 == 0 && b.1 == 2)

/-- The best candidate that this module knows, itself among them: role, serial number, elected. -/
def State.bestKnown (s : State) : Option (Nat × Nat × Bool) :=
  match s.pod.best with
  | some b => some b
  | none => if s.role = 2 then none else some (s.role, s.serial, s.isMaster)

/-- HELLO of this module (R400). -/
def State.helloBody (s : State) : HelloBody :=
  let b := s.bestKnown.getD (2, s.serial, false)
  ⟨BitVec.ofNat 48 s.serial, BitVec.ofNat 2 s.role, BitVec.ofNat 48 b.2.1, BitVec.ofNat 2 b.1, b.2.2,
    s.topState == stREADY, if s.hasId then s.ownId else 64⟩

/-- HELLO leaves by a port. -/
def State.sendHello (s : State) (p : Nat) : State := s.sendCtl p 0 true (.hello s.helloBody)

/-- HELLO leaves by every pod port in UP. -/
def State.sendHellos (s : State) : State := s.podPorts.foldl State.sendHello s

/-- The lowest-numbered port in UP. -/
def State.firstUp (s : State) : Option Nat := (List.range 32).find? fun p => s.linkState p == lkUP

/-- A pod-level change that the module starts itself (R406). -/
def State.podEvent (s : State) : State :=
  match s.firstUp with
  | some p => s.portEvent p F.TGL_EVT_POD
  | none => s

/-- A control message to the master leaves by its route, or, before routes have come, by the sponsor's port. -/
def State.toMaster (s : State) (b : CtlBody) : State :=
  match s.route s.masterId, s.pod.sponsor with
  | some p, _ => s.sendCtl p s.masterId false b
  | none, some p => if s.portCarries p then s.sendCtl p s.masterId false b else s
  | none, none => s

/-- The stretch level of this module (R34). -/
def State.stretchLevel (s : State) : Nat :=
  max (s.fld R.TGL_BEAT_STRETCH F.TGL_BEAT_STRETCH_SW_LEVEL) (s.fld R.TGL_BEAT_STRETCH F.TGL_BEAT_STRETCH_LIMITER_LEVEL)

/-- The master's latest level of a member (R34). -/
def State.setLevel (s : State) (m l : Nat) : State :=
  { s with beat := { s.beat with levels := Tab.set (fun _ => 0) s.beat.levels m l } }

/-- A changed stretch level goes to the master (R34). -/
def State.stretchPump (s : State) : State :=
  let l := s.stretchLevel
  let sent := fun (s : State) => s.setFld R.TGL_BEAT_STRETCH F.TGL_BEAT_STRETCH_SENT_LEVEL l
  if l = s.fld R.TGL_BEAT_STRETCH F.TGL_BEAT_STRETCH_SENT_LEVEL then s
  else if s.isMaster then (sent s).setLevel s.ownId l
  else if s.podState = psMEMBER then (sent s).toMaster (.stretch (BitVec.ofNat 4 l))
  else s

/-- The members' IDs. -/
def State.members (s : State) : List Nat :=
  (List.range 64).filter fun m => s.flag (R.TGL_MEMBER m) F.TGL_MEMBER_VALID

/-- The membership table as a MEMBERS message carries it. -/
def State.memberRows (s : State) : List MemberRow :=
  s.members.map fun m =>
    ⟨BitVec.ofNat 6 m, BitVec.ofNat 48 (s.fld (R.TGL_MEMBER m) F.TGL_MEMBER_SERIAL),
      s.flag (R.TGL_MEMBER m) F.TGL_MEMBER_HOST_BRIDGE⟩

/-- The ports that TGL_HOST names follow ACCEPTED: host-facing once accepted, down before (R404). -/
def State.hostPorts (s : State) : State :=
  if s.flag R.TGL_POD_CFG F.TGL_POD_CFG_HOST_BRIDGE then
    (bitsOf 32 (s.fld R.TGL_HOST F.TGL_HOST_PORTS)).foldl (fun s p =>
      if s.linkState p = lkUP then
        s.setFld (R.TGL_PORT_STATUS p) F.TGL_PORT_STATUS_KIND
          (if s.flag R.TGL_HOST F.TGL_HOST_ACCEPTED then pkHOST else pkDOWN)
      else s) s
  else s

/-- A membership table is applied (R398): stretch levels of modules that have left are forgotten (R34), and vectors held
by an address look at the bridge again (R442). -/
def State.applyMembers (s : State) (rows : List MemberRow) : State :=
  let s := s.resetRegs fun off => R.TGL_MEMBER 0 ≤ off && off < R.TGL_MEMBER 64
  let s := rows.foldl (fun s r =>
    let m := R.TGL_MEMBER r.id.toNat
    ((s.setFld m F.TGL_MEMBER_VALID 1).setFld m F.TGL_MEMBER_HOST_BRIDGE (if r.hostBridge then 1 else 0)).setFld m
      F.TGL_MEMBER_SERIAL r.serial.toNat) s
  let mask := rows.foldl (fun n r => setBit n r.id.toNat) 0
  let s := s.setReg R.TGL_MEMBERS (BitVec.ofNat 64 mask)
  let s := s.setPod F.TGL_POD_STATUS_MEMBERS (bitsOf 64 mask).length
  let s : State := { s with beat := { s.beat with levels := s.beat.levels.clear fun m => !bit mask m } }
  let s := s.setFld R.TGL_HOST F.TGL_HOST_ACCEPTED
    (if rows.any fun r => r.id.toNat == s.ownId && r.hostBridge then 1 else 0)
  s.hostPorts.hvRecheck

/-- Route entries are applied as a whole, under R103. -/
def State.applyRoutes (s : State) (rows : List RouteRow) : State :=
  let old := s.portsInForce
  let s := (List.range 64).foldl (fun s m =>
    let r := R.TGL_ROUTE m
    let row := rows.find? fun x => x.dest.toNat == m
    let put := fun (s : State) (fp fv : Fld) (v : Option (Fin 32)) =>
      (s.setFld r fv (if v.isSome then 1 else 0)).setFld r fp ((v.map Fin.val).getD 0)
    let s := put s F.TGL_ROUTE_PRIMARY F.TGL_ROUTE_P_VALID (row.bind RouteRow.primary)
    let s := put s F.TGL_ROUTE_ALT F.TGL_ROUTE_A_VALID (row.bind RouteRow.alternate)
    s.setFld r F.TGL_ROUTE_LOCAL (if s.hasId && m == s.ownId then 1 else 0)) s
  s.settleRoutes old

/-- Groups are applied (R394): TGL_MC_DEF of the master is its own. -/
def State.applyGroups (s : State) (rows : List GroupRow) : State :=
  let s := s.resetRegs fun off => R.TGL_MC_DEF 0 ≤ off && off < R.TGL_MC_DEF 256 && (off % 256 != 0 || !s.isMaster)
  rows.foldl (fun s r =>
    let g := r.group.val
    let s := s.setReg (R.TGL_MC_DEF g) r.members
    let tree := r.tree.take 8
    let s := ((s.setFld (R.TGL_MC_STATE g) F.TGL_MC_STATE_VALID 1).setFld (R.TGL_MC_STATE g) F.TGL_MC_STATE_NTREE
      tree.length).setFld (R.TGL_MC_STATE g) F.TGL_MC_STATE_LOCAL (if r.member then 1 else 0)
    (List.range tree.length).foldl (fun s k =>
      match tree[k]? with
      | some (p, below) =>
        ((s.setFld (R.TGL_MC_TREE_PORT g k) F.TGL_MC_TREE_PORT_V 1).setFld (R.TGL_MC_TREE_PORT g k)
          F.TGL_MC_TREE_PORT_PORT p.val).setReg (R.TGL_MC_TREE_MASK g k) below
      | none => s) s) s

/-- A link of the pod: module, port, far module. -/
abbrev PodLink := Nat × Nat × Nat

/-- The distances from the modules of a list that have just been found, to so many rounds. -/
def bfsFrom (links : List PodLink) : Nat → List Nat → List (Nat × Nat) → List (Nat × Nat)
  | 0, _, found => found
  | n + 1, front, found =>
    let d := (found.map Prod.snd).foldl max 0 + 1
    let next := ((links.filter fun l => front.contains l.1 && !(found.any fun f => f.1 == l.2.2)).map
      fun l => l.2.2).eraseDups
    if next.isEmpty then found else bfsFrom links n next (found ++ next.map fun m => (m, d))

/-- The distance of each module from the master (R393). -/
def distances (links : List PodLink) (master : Nat) : List (Nat × Nat) := bfsFrom links 64 [master] [(master, 0)]

/-- The distance of a module, when it is reached. -/
def distOf (dist : List (Nat × Nat)) (m : Nat) : Option Nat := (dist.find? fun e => e.1 == m).map Prod.snd

/-- Whether the link from a to b goes up (R393). -/
def goesUp (dist : List (Nat × Nat)) (a b : Nat) : Bool :=
  match distOf dist a, distOf dist b with
  | some x, some y => decide (y < x) || (x == y && decide (b < a))
  | _, _ => false

/-- Hops of the shortest legal routes to a module, by module and by whether a down link has been taken: the entries of
one more hop, to so many rounds. -/
def routeHops (links : List PodLink) (dist : List (Nat × Nat)) :
    Nat → List (Nat × Bool) → List ((Nat × Bool) × Nat) → List ((Nat × Bool) × Nat)
  | 0, _, found => found
  | n + 1, front, found =>
    let h := (found.map Prod.snd).foldl max 0 + 1
    let next := (links.flatMap fun l =>
      if goesUp dist l.1 l.2.2 then (if front.contains (l.2.2, false) then [(l.1, false)] else [])
      else if front.contains (l.2.2, true) then [(l.1, false), (l.1, true)] else []).eraseDups.filter
        fun k => !(found.any fun f => f.1 == k)
    if next.isEmpty then found else routeHops links dist n next (found ++ next.map fun k => (k, h))

/-- Hops to module m from each module. -/
def hopsTo (links : List PodLink) (dist : List (Nat × Nat)) (m : Nat) : List ((Nat × Bool) × Nat) :=
  routeHops links dist 128 [(m, false), (m, true)] [((m, false), 0), ((m, true), 0)]

/-- The ports of module a by which a legal route leads on, with its hops. -/
def firstHops (links : List PodLink) (dist : List (Nat × Nat)) (hops : List ((Nat × Bool) × Nat)) (a : Nat) :
    List (Nat × Nat) :=
  (links.filter fun l => l.1 == a).filterMap fun l =>
    ((hops.find? fun e => e.1 == (l.2.2, !goesUp dist a l.2.2)).map fun e => (l.2.1, e.2 + 1))

/-- The shortest of them, the lowest port among equals. -/
def shortest (l : List (Nat × Nat)) : Option Nat :=
  (l.foldl (fun (b : Option (Nat × Nat)) x =>
    match b with
    | none => some x
    | some y => if x.2 < y.2 ∨ (x.2 = y.2 ∧ x.1 < y.1) then some x else some y) none).map Prod.fst

/-- A port number in its row. -/
def portOf (p : Nat) : Option (Fin 32) := if h : p < 32 then some ⟨p, h⟩ else none

/-- The route entries of a module (R393). -/
def State.routesFor (s : State) (a : Nat) : List RouteRow :=
  let links := s.pod.links
  let dist := distances links s.ownId
  (s.members.filter fun m => m != a).map fun m =>
    let l := firstHops links dist (hopsTo links dist m) a
    let p := shortest l
    ⟨BitVec.ofNat 6 m, p.bind portOf, (shortest (l.filter fun x => some x.1 != p)).bind portOf⟩

/-- The parent of a module in the routing tree, with the port to it. -/
def parentOf (links : List PodLink) (dist : List (Nat × Nat)) (n : Nat) : Option (Nat × Nat) :=
  match distOf dist n with
  | none => none
  | some d =>
    let up := links.filter fun l => l.1 == n && (match distOf dist l.2.2 with | some x => x + 1 == d | none => false)
    (shortest (up.map fun l => (l.2.1, 0))).bind fun p => (up.find? fun l => l.2.1 == p).map fun l => (l.2.2, p)

/-- The modules from one to the root of the routing tree. -/
def chainOf (links : List PodLink) (dist : List (Nat × Nat)) : Nat → Nat → List Nat
  | 0, n => [n]
  | k + 1, n =>
    match parentOf links dist n with
    | some (q, _) => n :: chainOf links dist k q
    | none => [n]

/-- A mask of module IDs. -/
def idMask (l : List Nat) : Nat := l.foldl setBit 0

/-- The tree ports of module n in the fork tree of the present members of a group (R394), with the members beyond. -/
def treePorts (links : List PodLink) (dist : List (Nat × Nat)) (present : List Nat) (n : Nat) : List (Nat × Nat) :=
  let below := fun (c : Nat) => present.filter fun m => (chainOf links dist 64 m).contains c
  let edge := fun (p c : Nat) (beyond : List Nat) =>
    if (below c).isEmpty || (below c).length == present.length then [] else [(p, idMask beyond)]
  let up := match parentOf links dist n with
    | some (_, p) => edge p n (present.filter fun m => !(below n).contains m)
    | none => []
  let children := (dist.map Prod.fst).filter fun c => (parentOf links dist c).map Prod.fst == some n
  up ++ children.flatMap fun c =>
    match shortest ((links.filter fun l => l.1 == n && l.2.2 == c).map fun l => (l.2.1, 0)) with
    | some p => edge p c (below c)
    | none => []

/-- The group rows of a module (R394): a group with no present member is not valid. -/
def State.groupsFor (s : State) (n : Nat) : List GroupRow :=
  let links := s.pod.links
  let dist := distances links s.ownId
  let members := s.members
  (List.range 256).filterMap fun g =>
    let mask := s.reg (R.TGL_MC_DEF g)
    let present := (bitsOf 64 mask.toNat).filter members.contains
    if present.isEmpty then none
    else if h : g < 256 then
      some ⟨⟨g, h⟩, mask, present.contains n, (treePorts links dist present n).filterMap fun e =>
        (portOf e.1).map fun p => (p, BitVec.ofNat 64 e.2)⟩
    else none

/-- The tables of a member go out (R400). -/
def State.sendTable (s : State) (m code : Nat) : State :=
  let v := BitVec.ofNat 32 (s.podFld F.TGL_POD_STATUS_VERSION)
  s.sendCtlTo m (if code = 4 then .members v s.memberRows else if code = 5 then .routes v (s.routesFor m)
    else .groups v (s.groupsFor m))

/-- The master distributes its tables (R393, R394, R400): its own are applied first. `extra`: a module that has left,
which still gets MEMBERS. -/
def State.distribute (s : State) (extra : List Nat) : State :=
  let v := (s.podFld F.TGL_POD_STATUS_VERSION + 1) % 2 ^ 32
  let s := s.setPod F.TGL_POD_STATUS_VERSION v
  let s := extra.foldl (fun s m => s.sendTable m 4) s
  let s := (s.applyRoutes (s.routesFor s.ownId)).applyGroups (s.groupsFor s.ownId)
  let far := s.members.filter fun m => m != s.ownId
  let s : State := { s with pod := { s.pod with
      unacked := (extra.map fun m => (m, 4, v)) ++ far.flatMap fun m => [(m, 4, v), (m, 5, v), (m, 6, v)] } }
  far.foldl (fun s m => ((s.sendTable m 4).sendTable m 5).sendTable m 6) s

/-- Messages that no ACK has answered go out again (R400). -/
def State.ctlResend (s : State) : State :=
  if s.isMaster then s.pod.unacked.foldl (fun s e => s.sendTable e.1 e.2.1) s else s

/-- The master takes a link into its tables, or drops it. -/
def State.setLinks (s : State) (l : List PodLink) : State := { s with pod := { s.pod with links := l } }

/-- The master learns that a port leads to a module (R400). -/
def State.linkUp (s : State) (m p far : Nat) : State :=
  if s.pod.links.contains (m, p, far) then s
  else (s.setLinks ((s.pod.links.filter fun l => !(l.1 == m && l.2.1 == p)) ++ [(m, p, far)])).distribute []

/-- The master removes a module (R400, R403). -/
def State.removeMember (s : State) (m : Nat) (told : Bool) : State :=
  let s := s.setLinks (s.pod.links.filter fun l => l.1 != m && l.2.2 != m)
  let s : State := { s with pod := { s.pod with unacked := s.pod.unacked.filter fun e => e.1 != m } }
  let extra := if told then [m] else []
  (s.applyMembers (s.memberRows.filter fun r => r.id.toNat != m)).podEvent.distribute extra

/-- The master learns that a port of a module is down (R403): a module all of whose ports are down is removed. -/
def State.linkDown (s : State) (m p : Nat) : State :=
  let gone := (s.pod.links.filter fun l => l.1 == m && l.2.1 == p).map fun l => l.2.2
  let s := s.setLinks (s.pod.links.filter fun l => !(l.1 == m && l.2.1 == p))
  match gone.find? fun q => q != s.ownId && s.members.contains q && !(s.pod.links.any fun l => l.2.2 == q) with
  | some q => s.removeMember q false
  | none => if gone.isEmpty then s else s.distribute []

/-- The far module of a pod port, once its HELLO has told it. -/
def State.farId (s : State) (p : Nat) : Option Nat :=
  match (s.port p).far with
  | some f => if f.id < 64 then some f.id else none
  | none => none

/-- A port is reported up to the master (R400). -/
def State.reportUp (s : State) (p : Nat) : State :=
  match s.farId p, portOf p with
  | some f, some q =>
    if s.isMaster then s.linkUp s.ownId p f
    else if s.podState = psMEMBER then s.toMaster (.portUp q (BitVec.ofNat 6 f)) else s
  | _, _ => s

/-- The beat of a module that becomes master (R29, R33). -/
def State.beatMaster (s : State) : State :=
  let s := (s.setFld R.TGL_BEAT_STATUS F.TGL_BEAT_STATUS_STATE 2).setFld R.TGL_BEAT_STATUS F.TGL_BEAT_STATUS_UP_VALID 0
  let s := s.setFld R.TGL_BEAT_STATUS F.TGL_BEAT_STATUS_MISSED 0
  { s with beat := { s.beat with
      newSets := 16, rejoin := false, base := s.fld R.TGL_BEAT_PERIOD F.TGL_BEAT_PERIOD_PERIOD, periodDue := false,
      source := s.fld R.TGL_BEAT_CTL F.TGL_BEAT_CTL_SOURCE } }

/-- The module becomes master (R397, R398): it takes its own ID first; one that had an ID keeps it, and the other
members but the old master. -/
def State.becomeMaster (s : State) : State :=
  let old := s.masterId
  let id := if s.hasId then s.ownId
    else if s.flag R.TGL_POD_CFG F.TGL_POD_CFG_REQ_ID_EN then s.fld R.TGL_POD_CFG F.TGL_POD_CFG_REQ_ID else 0
  let rows := if s.hasId then s.memberRows.filter fun r => r.id.toNat != old && r.id.toNat != id else []
  let hb := s.flag R.TGL_POD_CFG F.TGL_POD_CFG_HOST_BRIDGE && !(rows.any MemberRow.hostBridge)
  let s := (((((s.setPod F.TGL_POD_STATUS_ID_VALID 1).setPod F.TGL_POD_STATUS_ID id).setPod F.TGL_POD_STATUS_IS_MASTER
    1).setPod F.TGL_POD_STATUS_STATE psMASTER).setPod F.TGL_POD_STATUS_MASTER_ID id)
  let s := s.setFld R.TGL_MASTER_SERIAL F.TGL_MASTER_SERIAL_SERIAL s.serial
  let s : State := { s with pod := { s.pod with
      best := some (s.role, s.serial, true), sponsor := none, unacked := [], sponsored := []
      links := s.podPorts.filterMap fun p => (s.farId p).map fun f => (id, p, f) } }
  let s := (s.applyMembers (⟨BitVec.ofNat 6 id, BitVec.ofNat 48 s.serial, hb⟩ :: rows)).beatMaster
  let s := (s.setFld R.TGL_BEAT_STRETCH F.TGL_BEAT_STRETCH_SENT_LEVEL 0).stretchPump
  (s.podEvent.distribute []).sendHellos

/-- A candidate that has known no better one for 10 ms becomes master (R397). -/
def State.masterElected (s : State) : State :=
  let first := match s.pod.best with
    | none => true
    | some (r, n, e) => !e && better (s.role, s.serial) (r, n)
  if s.role = 2 ∨ !first ∨ !(s.podState = psELECTING ∨ s.podState = psALONE) then s else s.becomeMaster

/-- The upstream port follows the route to the master (R41). -/
def State.upstreamFollow (s : State) : State :=
  let r := R.TGL_BEAT_STATUS
  if s.podState ≠ psMEMBER then s
  else
    match s.route s.masterId with
    | none => s
    | some p =>
      let valid := s.flag r F.TGL_BEAT_STATUS_UP_VALID
      if valid && s.fld r F.TGL_BEAT_STATUS_UPSTREAM == p then s
      else
        let s := (s.setFld r F.TGL_BEAT_STATUS_UP_VALID 1).setFld r F.TGL_BEAT_STATUS_UPSTREAM p
        if valid then s.raise 774 else s

/-- A member has a master again or anew: its ports and its stretch level are reported. -/
def State.adoptMaster (s : State) (id serial : Nat) : State :=
  let s := ((s.setPod F.TGL_POD_STATUS_STATE psMEMBER).setPod F.TGL_POD_STATUS_MASTER_ID id).setPod
    F.TGL_POD_STATUS_IS_MASTER 0
  let s := s.setFld R.TGL_MASTER_SERIAL F.TGL_MASTER_SERIAL_SERIAL serial
  let s := s.setFld R.TGL_BEAT_STRETCH F.TGL_BEAT_STRETCH_SENT_LEVEL 0
  (s.podPorts.foldl State.reportUp s).stretchPump

/-- The module has no master and takes part in an election (R397). -/
def State.elect (s : State) : State :=
  let s := (s.setPod F.TGL_POD_STATUS_STATE psELECTING).setPod F.TGL_POD_STATUS_IS_MASTER 0
  let s := s.setFld R.TGL_MASTER_SERIAL F.TGL_MASTER_SERIAL_SERIAL 0
  State.sendHellos { s with pod := { s.pod with best := none, unacked := [], links := [] } }

/-- The module drops its ID and starts R401 again (R399, R407). -/
def State.dropId (s : State) : State :=
  let beat := s.fld R.TGL_BEAT_STATUS F.TGL_BEAT_STATUS_STATE
  let s := (((s.setPod F.TGL_POD_STATUS_ID_VALID 0).setPod F.TGL_POD_STATUS_ID 0).setPod F.TGL_POD_STATUS_MASTER_ID
    0).setPod F.TGL_POD_STATUS_VERSION 0
  let s := if beat = 2 then s.setFld R.TGL_BEAT_STATUS F.TGL_BEAT_STATUS_STATE 0 else s
  let s := s.setFld R.TGL_BEAT_STATUS F.TGL_BEAT_STATUS_UP_VALID 0
  let s := ((s.applyMembers []).applyRoutes []).applyGroups []
  let s := (List.range 32).foldl (fun s p =>
    if s.linkState p == lkUP && s.portKind p == pkFOREIGN then
      s.setFld (R.TGL_PORT_STATUS p) F.TGL_PORT_STATUS_KIND pkPOD else s) s
  State.elect { s with pod := { s.pod with sponsor := none, leaving := false } }

/-- POD_LEAVE (R407): discarded in READY. -/
def State.podLeaveWrite (s : State) (v : Word) : State :=
  if F.TGL_POD_CTL_LEAVE.isSet v && s.topState != stREADY then s.podEvent.dropId else s

/-- JOIN goes to the sponsor at the far end of a port (R401). -/
def State.sendJoin (s : State) (p : Nat) : State :=
  let req := if s.flag R.TGL_POD_CFG F.TGL_POD_CFG_REQ_ID_EN then
    some (BitVec.ofNat 6 (s.fld R.TGL_POD_CFG F.TGL_POD_CFG_REQ_ID)) else none
  (s.setPod F.TGL_POD_STATUS_STATE psJOINING).sendCtl p 0 true
    (.join ⟨BitVec.ofNat 48 s.serial, BitVec.ofNat 2 s.role, req, s.flag R.TGL_POD_CFG F.TGL_POD_CFG_HOST_BRIDGE, 0⟩)

/-- A port becomes foreign (R399). -/
def State.holdForeign (s : State) (p : Nat) : State :=
  if s.portKind p = pkFOREIGN then s
  else
    let old := s.portsInForce
    ((s.setFld (R.TGL_PORT_STATUS p) F.TGL_PORT_STATUS_KIND pkFOREIGN).settleRoutes old).portEvent p F.TGL_EVT_FOREIGN

/-- The serial number of a member. -/
def State.memberWith (s : State) (serial : Nat) : Option Nat :=
  s.members.find? fun m => s.fld (R.TGL_MEMBER m) F.TGL_MEMBER_SERIAL == serial

/-- HELLO on a port of a module with a master (R397, R399). -/
def State.helloMember (s : State) (p : Nat) (b : HelloBody) : State :=
  let mine := s.bestKnown.getD (2, s.fld R.TGL_MASTER_SERIAL F.TGL_MASTER_SERIAL_SERIAL, true)
  if !b.elected then s.sendHello p
  else if b.bestSerial.toNat = s.fld R.TGL_MASTER_SERIAL F.TGL_MASTER_SERIAL_SERIAL then s.reportUp p
  else if b.ready || s.topState == stREADY then s.holdForeign p
  else if better (b.bestRole.toNat, b.bestSerial.toNat) (mine.1, mine.2.1) then
    let s := (s.portEvent p F.TGL_EVT_POD).dropId
    State.sendJoin { s with pod := { s.pod with best := some (b.bestRole.toNat, b.bestSerial.toNat, true) } } p
  else if s.isMaster then
    let (n, s) := s.freeNat (2 ^ 48)
    { s with pod := { s.pod with takeBeat := some (max n ((s.pod.takeBeat).getD 0)) } }
  else s

/-- HELLO on a port of a module without a master (R397, R401). -/
def State.helloElecting (s : State) (p : Nat) (b : HelloBody) : State :=
  let far := (b.bestRole.toNat, b.bestSerial.toNat)
  if b.elected then
    let s : State := { s with pod := { s.pod with best := some (far.1, far.2, true) } }
    match (if s.hasId then s.memberWith far.2 else none) with
    | some m => (s.adoptMaster m far.2).sendHellos
    | none => if s.podState = psJOINING then s else (s.sendJoin p).sendHellos
  else
    match s.bestKnown with
    | none => if far.1 = 2 then s else State.sendHellos { s with pod := { s.pod with best := some (far.1, far.2, false) } }
    | some (r, n, e) =>
      if !e && better far (r, n) then
        State.sendHellos { s with pod := { s.pod with best := some (far.1, far.2, false) } }
      else s

/-- The header of a control message, as an audit record holds it. -/
def ctlHdr (h : CtlHead) (b : CtlBody) : BitVec 128 :=
  Husk.header { Husk.zero with
    typ := Husk.CTL, dest := h.dest.toNat, src := h.src.toNat, hops := h.hops, link := h.link,
    len := Config.ctlBytes (ctlCode b) (ctlRows b) }

/-- A control message comes in: it is counted, and its pips are freed (R390, R405). -/
def State.ctlIn (s : State) (p : Nat) (h : CtlHead) (b : CtlBody) : State :=
  let n := ctlPips b
  let t := (s.bump (R.TGL_PORT_CNT p) F.TGL_PORT_CNT_HUSKS_RX).freePips p 2 n
  if s.overrun p 2 n then t.auditHusk p 5 (ctlHdr h b) else t

/-- A control message for another module goes on by the route in force, with HOPS raised (R391). -/
def State.ctlPass (s : State) (p : Nat) (h : CtlHead) (b : CtlBody) : State :=
  if 63 < h.hops + 1 then (s.bump R.TGL_CNT F.TGL_CNT_HOPS_DROP).auditHusk p 13 (ctlHdr h b)
  else
    match s.route h.dest.toNat with
    | none => s
    | some q => (s.bump (R.TGL_PORT_CNT2 q) F.TGL_PORT_CNT2_FORWARDED).enqueue q (.ctl { h with hops := h.hops + 1 } b)

/-- A control message for this module or for the link arrives while the core that serves it does not run (R479). -/
def State.ctlWaits (s : State) (p : Nat) (h : CtlHead) (b : CtlBody) : Bool :=
  (s.core s.ctlCore).state != csRUNNING && (s.portKind p == pkPOD || ctlCode b == 1) &&
    (h.link || h.dest.toNat == s.ownId)

/-- It is counted, and waits in the CTL pool with its pips (R479). -/
def State.ctlHold (s : State) (p : Nat) (h : CtlHead) (b : CtlBody) : State :=
  let t := s.bump (R.TGL_PORT_CNT p) F.TGL_PORT_CNT_HUSKS_RX
  let t := if s.overrun p 2 (ctlPips b) then t.auditHusk p 5 (ctlHdr h b) else t
  { t with pod := { t.pod with held := t.pod.held ++ [(p, h, b)] } }

/-- A control message arrives on a port (R400): one for another module is sent on, a foreign port carries HELLO only, and
a host-facing or down one none. -/
def State.ctlRx (s : State) (p : Nat) (h : CtlHead) (b : CtlBody) (act : State → State) : State :=
  if s.linkState p ≠ lkUP ∨ s.portKind p = pkHOST ∨ s.portKind p = pkDOWN then s
  else if s.ctlWaits p h b then s.ctlHold p h b
  else
    let s := s.ctlIn p h b
    if s.portKind p = pkFOREIGN ∧ ctlCode b ≠ 1 then s
    else if h.link || h.dest.toNat == s.ownId then act s
    else s.ctlPass p h b

/-- The head of a message to the far end of the link. -/
def linkHead : CtlHead := ⟨0, 0, 0, 0, true⟩

/-- What HELLO tells of the far end (R397). -/
def farEnd (b : HelloBody) : FarEnd :=
  ⟨b.serial.toNat, b.role.toNat, b.bestSerial.toNat, b.bestRole.toNat, b.elected, b.ready, b.id⟩

/-- HELLO (R397, R399, R401). -/
def State.helloAct (s : State) (p : Nat) (b : HelloBody) : State :=
  let s := s.setPort p { s.port p with far := some (farEnd b) }
  if s.podState = psMEMBER ∨ s.podState = psMASTER then s.helloMember p b else s.helloElecting p b

/-- The message arrives. -/
def State.helloRx (s : State) (p : Nat) (b : HelloBody) : State :=
  s.ctlRx p linkHead (.hello b) fun s => s.helloAct p b

/-- The master assigns an ID to a joiner behind a sponsor's port (R398, R401, R404). -/
def State.assignId (s : State) (sponsor : Nat) (b : JoinBody) : State :=
  let taken := s.members
  let known := s.memberWith b.serial.toNat
  let id := match known with
    | some m => some m
    | none =>
      match b.reqId with
      | some r => if taken.contains r.toNat then (List.range 64).find? (fun m => !taken.contains m) else some r.toNat
      | none => (List.range 64).find? fun m => !taken.contains m
  match id with
  | none => s
  | some m =>
    let rows := s.memberRows.filter fun r => r.id.toNat != m
    let hb := b.hostBridge && !(rows.any MemberRow.hostBridge)
    let s := (s.applyMembers (rows ++ [⟨BitVec.ofNat 6 m, b.serial, hb⟩])).podEvent
    let body : CtlBody := .assign ⟨b.serial, BitVec.ofNat 6 m, BitVec.ofNat 6 s.ownId, BitVec.ofNat 48 s.serial⟩
    let s := if sponsor = s.ownId then s.sendCtl b.port.val 0 true body else s.sendCtlTo sponsor body
    (s.setLinks (((s.pod.links.filter fun l => l.1 != m && l.2.2 != m)) ++ [(sponsor, b.port.val, m)])).distribute []

/-- JOIN (R401): from a joiner it is relayed to the master. -/
def State.joinAct (s : State) (p : Nat) (h : CtlHead) (b : JoinBody) : State :=
  let b := if h.link then { b with port := ((portOf p).getD 0) } else b
  if s.isMaster then s.assignId (if h.link then s.ownId else h.src.toNat) b
  else if h.link && s.podState == psMEMBER then
    State.toMaster { s with pod := { s.pod with
        sponsored := (s.pod.sponsored.filter fun e => e.1 != b.serial.toNat) ++ [(b.serial.toNat, p)] } } (.join b)
  else s

/-- The message arrives. -/
def State.joinRx (s : State) (p : Nat) (h : CtlHead) (b : JoinBody) : State :=
  s.ctlRx p h (.join b) fun s => s.joinAct p h b

/-- ASSIGN (R401): the sponsor delivers it, the joiner takes its ID and asks for the beat number. -/
def State.assignAct (s : State) (p : Nat) (h : CtlHead) (b : AssignBody) : State :=
  if h.link then
    if b.serial.toNat = s.serial ∧ s.podState = psJOINING then
      let s := (s.setPod F.TGL_POD_STATUS_ID_VALID 1).setPod F.TGL_POD_STATUS_ID b.id.toNat
      let s : State := { s with pod := { s.pod with sponsor := some p }, beat := { s.beat with rejoin := true } }
      (((s.adoptMaster b.masterId.toNat b.masterSerial.toNat).portEvent p F.TGL_EVT_POD).sendHellos).toMaster .beatQuery
    else s
  else
    match s.pod.sponsored.find? fun e => e.1 == b.serial.toNat with
    | some e =>
      State.sendCtl { s with pod := { s.pod with sponsored := s.pod.sponsored.erase e } } e.2 0 true (.assign b)
    | none => s

/-- The message arrives. -/
def State.assignRx (s : State) (p : Nat) (h : CtlHead) (b : AssignBody) : State :=
  s.ctlRx p h (.assign b) fun s => s.assignAct p h b

/-- A table of the master is taken and acknowledged (R398, R400): one older than the last applied is acknowledged only.
-/
def State.tableTake (s : State) (p : Nat) (h : CtlHead) (code : Nat) (version : BitVec 32) (apply : State → State) :
    State :=
  if s.isMaster ∨ !s.hasId then s
  else
    let fresh := h.src.toNat ≠ s.masterId ∨ s.podFld F.TGL_POD_STATUS_VERSION ≤ version.toNat
    let s := if fresh then
        ((apply (s.setPod F.TGL_POD_STATUS_MASTER_ID h.src.toNat)).setPod F.TGL_POD_STATUS_VERSION
          version.toNat).portEvent p F.TGL_EVT_POD
      else s
    s.toMaster (.ack (BitVec.ofNat 8 code) version)

/-- A membership table replaces the last; the module that lists itself as the sender is the master. -/
def State.membersTake (s : State) (h : CtlHead) (rows : List MemberRow) : State :=
  let s := s.applyMembers rows
  match (rows.find? fun r => r.id == h.src), decide (s.podState = psMEMBER) with
  | some r, false => s.adoptMaster h.src.toNat r.serial.toNat
  | _, _ => s

/-- A module that has sent LEAVE enters QUIESCED once it has acknowledged a table without it (R402). -/
def State.leaveDone (s : State) : State :=
  if s.pod.leaving ∧ !(s.members.contains s.ownId) then
    State.enterQuiesced (State.setPod { s with pod := { s.pod with leaving := false } } F.TGL_POD_STATUS_STATE psLEFT)
  else s

/-- MEMBERS (R398, R402). -/
def State.membersAct (s : State) (p : Nat) (h : CtlHead) (version : BitVec 32) (rows : List MemberRow) : State :=
  (s.tableTake p h 4 version fun s => s.membersTake h rows).leaveDone

/-- The message arrives. -/
def State.membersRx (s : State) (p : Nat) (h : CtlHead) (version : BitVec 32) (rows : List MemberRow) : State :=
  s.ctlRx p h (.members version rows) fun s => s.membersAct p h version rows

/-- ROUTES (R393). -/
def State.routesAct (s : State) (p : Nat) (h : CtlHead) (version : BitVec 32) (rows : List RouteRow) : State :=
  s.tableTake p h 5 version fun s => (s.applyRoutes rows).upstreamFollow.stretchPump

/-- The message arrives. -/
def State.routesRx (s : State) (p : Nat) (h : CtlHead) (version : BitVec 32) (rows : List RouteRow) : State :=
  s.ctlRx p h (.routes version rows) fun s => s.routesAct p h version rows

/-- GROUPS (R394). -/
def State.groupsAct (s : State) (p : Nat) (h : CtlHead) (version : BitVec 32) (rows : List GroupRow) : State :=
  s.tableTake p h 6 version fun s => s.applyGroups rows

/-- The message arrives. -/
def State.groupsRx (s : State) (p : Nat) (h : CtlHead) (version : BitVec 32) (rows : List GroupRow) : State :=
  s.ctlRx p h (.groups version rows) fun s => s.groupsAct p h version rows

/-- PORT_DOWN (R403). -/
def State.portDownAct (s : State) (h : CtlHead) (port : Fin 32) (far : BitVec 6) : State :=
  if s.isMaster then s.linkDown h.src.toNat port.val else s

/-- The message arrives. -/
def State.portDownRx (s : State) (p : Nat) (h : CtlHead) (port : Fin 32) (far : BitVec 6) : State :=
  s.ctlRx p h (.portDown port far) fun s => s.portDownAct h port far

/-- PORT_UP (R400). -/
def State.portUpAct (s : State) (h : CtlHead) (port : Fin 32) (far : BitVec 6) : State :=
  if s.isMaster then s.linkUp h.src.toNat port.val far.toNat else s

/-- The message arrives. -/
def State.portUpRx (s : State) (p : Nat) (h : CtlHead) (port : Fin 32) (far : BitVec 6) : State :=
  s.ctlRx p h (.portUp port far) fun s => s.portUpAct h port far

/-- LEAVE (R402, R398): the master removes the module; of the master itself, it starts an election. -/
def State.leaveAct (s : State) (p : Nat) (id : BitVec 6) : State :=
  if s.isMaster then (if s.members.contains id.toNat && id.toNat != s.ownId then s.removeMember id.toNat true else s)
  else if s.podState = psMEMBER ∧ id.toNat = s.masterId then (s.portEvent p F.TGL_EVT_POD).elect
  else s

/-- The message arrives. -/
def State.leaveRx (s : State) (p : Nat) (h : CtlHead) (id : BitVec 6) : State :=
  s.ctlRx p h (.leave id) fun s => s.leaveAct p id

/-- STRETCH (R34): the master keeps the latest level of each member. -/
def State.stretchAct (s : State) (h : CtlHead) (level : BitVec 4) : State :=
  if s.isMaster && s.members.contains h.src.toNat then s.setLevel h.src.toNat level.toNat else s

/-- The message arrives. -/
def State.stretchRx (s : State) (p : Nat) (h : CtlHead) (level : BitVec 4) : State :=
  s.ctlRx p h (.stretch level) fun s => s.stretchAct h level

/-- BEAT_QUERY (R400). -/
def State.beatQueryAct (s : State) (h : CtlHead) : State :=
  if s.isMaster then s.sendCtlTo h.src.toNat (.beatReply (BitVec.ofNat 48 s.beatNow)) else s

/-- The message arrives. -/
def State.beatQueryRx (s : State) (p : Nat) (h : CtlHead) : State :=
  s.ctlRx p h .beatQuery fun s => s.beatQueryAct h

/-- BEAT_REPLY (R400, R40): the number is taken when it is not below the local one. -/
def State.beatReplyAct (s : State) (number : BitVec 48) : State :=
  let s : State := { s with beat := { s.beat with rejoin := false } }
  s.setFld R.TGL_BEAT_NOW F.TGL_BEAT_NOW_NUMBER (max s.beatNow number.toNat)

/-- The message arrives. -/
def State.beatReplyRx (s : State) (p : Nat) (h : CtlHead) (number : BitVec 48) : State :=
  s.ctlRx p h (.beatReply number) fun s => s.beatReplyAct number

/-- ACK (R400). -/
def State.ackAct (s : State) (h : CtlHead) (code : Byte) (version : BitVec 32) : State :=
  { s with pod := { s.pod with
      unacked := s.pod.unacked.filter fun e => e != (h.src.toNat, code.toNat, version.toNat) } }

/-- The message arrives. -/
def State.ackRx (s : State) (p : Nat) (h : CtlHead) (code : Byte) (version : BitVec 32) : State :=
  s.ctlRx p h (.ack code version) fun s => s.ackAct h code version

/-- What a control message for this module or for the link does. -/
def State.ctlAct (s : State) (p : Nat) (h : CtlHead) : CtlBody → State
  | .hello b => s.helloAct p b
  | .join b => s.joinAct p h b
  | .assign b => s.assignAct p h b
  | .members version rows => s.membersAct p h version rows
  | .routes version rows => s.routesAct p h version rows
  | .groups version rows => s.groupsAct p h version rows
  | .portDown port far => s.portDownAct h port far
  | .portUp port far => s.portUpAct h port far
  | .leave id => s.leaveAct p id
  | .stretch level => s.stretchAct h level
  | .beatQuery => s.beatQueryAct h
  | .beatReply number => s.beatReplyAct number
  | .ack code version => s.ackAct h code version

/-- The messages that waited for SCH are served, oldest first (R479). -/
def State.ctlResume (s : State) : State :=
  s.pod.held.foldl (fun s e => (s.freePips e.1 2 (ctlPips e.2.2)).ctlAct e.1 e.2.1 e.2.2)
    { s with pod := { s.pod with held := [] } }

/-- A member that has not acknowledged within 10 ms is removed (R400). -/
def State.memberRemove (s : State) (m : Nat) : State :=
  if s.isMaster && s.pod.unacked.any (fun e => e.1 == m) then
    if s.members.contains m then s.removeMember m false
    else { s with pod := { s.pod with unacked := s.pod.unacked.filter fun e => e.1 != m } }
  else s

/-- The module leaves its pod in order (R402): one that belongs to none, or that is master, is QUIESCED at once. -/
def State.leavePod (s : State) : State :=
  let done := fun (s : State) => (s.setPod F.TGL_POD_STATUS_STATE psLEFT).enterQuiesced
  let own := BitVec.ofNat 6 s.ownId
  if s.podState = psMEMBER then State.toMaster { s with pod := { s.pod with leaving := true } } (.leave own)
  else if s.isMaster then
    done ((s.members.filter fun m => m != s.ownId).foldl (fun s m => s.sendCtlTo m (.leave own)) s)
  else done s

/-- A port enters UP (R370, R397, R404). -/
def State.portUp (s : State) (p : Nat) : State :=
  let old := s.portsInForce
  let host := s.flag R.TGL_POD_CFG F.TGL_POD_CFG_HOST_BRIDGE && bit (s.fld R.TGL_HOST F.TGL_HOST_PORTS) p
  let kind := if host then (if s.flag R.TGL_HOST F.TGL_HOST_ACCEPTED then pkHOST else pkDOWN) else pkPOD
  let s := s.setPort p { PortState.fresh with barriers := (s.port p).barriers }
  let s := (s.setFld (R.TGL_PORT_STATUS p) F.TGL_PORT_STATUS_KIND kind).showPips p
  let s := s.settleRoutes old
  if host then s
  else ((if s.podState = psALONE then s.setPod F.TGL_POD_STATUS_STATE psELECTING else s).sendHello p).upstreamFollow

/-- A port has left UP (R392, R374, R403). `old`: the ports in force before. -/
def State.portLost (s : State) (p : Nat) (old : List (Option Nat)) : State :=
  let x := s.port p
  let host := s.portKind p == pkHOST
  let pod := s.portKind p == pkPOD
  let s : State := { s with pod := { s.pod with held := s.pod.held.filter fun e => e.1 != p } }
  let s := s.setPort p { PortState.fresh with barriers := x.barriers }
  let s := (s.setFld (R.TGL_PORT_STATUS p) F.TGL_PORT_STATUS_KIND pkDOWN).showPips p
  let s := s.setFld (R.TGL_BEAT_LAT p) F.TGL_BEAT_LAT_VALID 0
  let s := s.settleRoutes old
  let s := x.txq.foldl (fun s i => s.returnItem p host i) s
  let s := x.fork.foldl (fun s h => s.failCopy h scLINK_DOWN 8) s
  let far := match x.far with | some f => f.id | none => 64
  if !pod then s
  else if s.isMaster then s.linkDown s.ownId p
  else if s.podState = psMEMBER then
    let s := match portOf p with
      | some q => if far < 64 then s.toMaster (.portDown q (BitVec.ofNat 6 far)) else s
      | none => s
    if far == s.masterId && (s.route s.masterId).isNone then s.podEvent.elect else s
  else s

end Sys2Proof.Machine
end

