-- ==== Sys2Proof/Machine/Site.lean ====
section
/-!
DEFINITION. The way into READY and FAULT: the required links (R507, R508), the release of the sites (R409), and what
entering FAULT does to work (R562).
-/
namespace Sys2Proof.Machine

/-- A port is UP at no less than its required width (R507). -/
def State.linkMet (s : State) (p : Nat) : Bool :=
  s.linkState p == lkUP &&
    decide (Reg.bits (s.reg R.TOP_REQ_WIDTH) (2 * p + 1) (2 * p) ≤ s.fld (R.LNK_STATUS p) F.LNK_STATUS_WIDTH)

/-- MET follows the ports (R508). -/
def State.showMet (s : State) : State :=
  s.setFld R.TOP_REQ_LINKS F.TOP_REQ_LINKS_MET (idMask ((List.range 32).filter s.linkMet))

/-- The criterion of R507. -/
def State.linksMet (s : State) : Bool :=
  (bitsOf 32 (s.fld R.TOP_REQ_LINKS F.TOP_REQ_LINKS_REQUIRED)).all s.linkMet

/-- The module enters READY: SITE_RST is released (R409). -/
def State.enterReady (s : State) : State :=
  (List.range 8).foldl (fun s d => s.setFld (R.TDI_SITE_STATUS d) F.TDI_SITE_STATUS_RESET 0) (s.enterTop stREADY)

/-- In LINKS_DEGRADED the criterion is judged again (R507). -/
def State.judgeLinks (s : State) : State :=
  let s := s.showMet
  if s.topState = stLINKS_DEGRADED ∧ s.linksMet then s.enterReady else s

/-- The queue or job ring whose status register stands at an offset. -/
def statusQueue (off : Nat) : Option Nat :=
  let d := off / 0x1000000 - 1
  let r := off % 0x1000000
  if 0x300000 ≤ r ∧ r < 0x340000 then
    let x := r % 0x2000
    if 0x100 ≤ x ∧ x < 0x500 ∧ x % 0x40 = 0x30 then some (queueKey (32 * d + (r - 0x300000) / 0x2000) ((x - 0x100) / 0x40))
    else none
  else if 0x601000 ≤ r ∧ r < 0x601800 ∧ r % 0x40 = 0x30 then some (jobKey d ((r - 0x601000) / 0x40))
  else none

/-- The queues and job rings that are not DISABLED. -/
def State.liveQueues (s : State) : List Nat :=
  (s.regs.filterMap fun e => statusQueue e.1).filter fun k => s.qState k != qsDISABLED

/-- Work stops (R562): every queue and job ring is reset as R228 and R258 give. -/
def State.resetWork (s : State) : State :=
  s.liveQueues.foldl (fun s k => if isJob k then s.jobRingReset k else s.queueReset k) s

/-- The module enters FAULT with a cause; from READY or LINKS_DEGRADED its work is reset (R562), and every site is put
in reset (R409). -/
def State.fail (s : State) (cause : Nat) : State :=
  if s.topState = stFAULT then s
  else
    let working := s.topState = stREADY ∨ s.topState = stLINKS_DEGRADED
    let s := s.enterFault cause
    (if working then s.resetWork else s).resetSites

end Sys2Proof.Machine
end

