-- ==== Sys2Proof/Machine/Lnk.lean ====
section
/-!
DEFINITION. Thegief lanes (13_thegief_lanes): the states of a port (R370), symbol lock (R364), equalisation (R367),
TRAIN sets and the choice of width (R369, R371), and the faults of a port that is UP (R374).
-/
namespace Sys2Proof.Machine

/-- The reasons of LNK_STATUS. -/
def lrNO_LOCK := 1
def lrFREQ := 2
def lrEYE := 3
def lrLANE_ORDER := 4
def lrWIDTH := 5
def lrCONFIG_TMO := 6
def lrFAR_TMO := 7
def lrERRORS := 8
def lrALIGN_LOSS := 9
def lrELASTIC := 10
def lrDESKEW := 11
def lrLOSS_OF_SIGNAL := 12

/-- A port before training. -/
def LaneState.idle : LaneState := ⟨0, 0, 0, 0, [], 0, 0, 0, 0, false⟩

/-- A port's training. -/
def State.lane (s : State) (p : Nat) : LaneState := Tab.get (fun _ => LaneState.idle) s.lanes p

/-- The state with that replaced. -/
def State.setLane (s : State) (p : Nat) (x : LaneState) : State :=
  { s with lanes := Tab.set (fun _ => LaneState.idle) s.lanes p x }

/-- A port enters a state. -/
def State.setLink (s : State) (p st : Nat) : State := s.setFld (R.LNK_STATUS p) F.LNK_STATUS_STATE st

/-- A failure is noted. -/
def State.linkReason (s : State) (p r : Nat) : State := s.setFld (R.LNK_STATUS p) F.LNK_STATUS_REASON r

/-- The lane settings that a training starts from (R368, R374): those last trained, after a fault while UP. -/
def State.laneSetting (s : State) (p i : Nat) : Nat :=
  let w := s.reg (if (s.lane p).retrained then R.LNK_TRAINED p else R.LNK_SAVED p)
  Reg.bits w (8 * i + 7) (8 * i)

/-- A lane has saved settings (R368). -/
def State.laneSaved (s : State) (p i : Nat) : Bool := s.laneSetting p i / 16 % 4 != 3

/-- The lanes of a port. -/
def laneList : List Nat := List.range 8

/-- A port enters ALIGN: a training starts, with the saved settings applied (R370). -/
def State.enterAlign (s : State) (p : Nat) : State :=
  let s := s.setLane p { LaneState.idle with retrained := (s.lane p).retrained }
  let s := (s.setLink p lkALIGN).bump (R.LNK_CNT p) F.LNK_CNT_TRAININGS
  let s := (s.setFld (R.LNK_STATUS p) F.LNK_STATUS_PATH 0).setReg (R.LNK_LANES p) 0
  laneList.foldl (fun s i =>
    if s.laneSaved p i then s.setFld (R.LNK_LANE p i) F.LNK_LANE_CTLE (s.laneSetting p i % 16) else s) s

/-- A port that is not UP any more carries nothing. -/
def State.clearWidth (s : State) (p : Nat) : State :=
  (s.setFld (R.LNK_STATUS p) F.LNK_STATUS_WIDTH 0).setFld (R.LNK_STATUS p) F.LNK_STATUS_LANES 0

/-- A port leaves UP (R374): it is down to the protocol layer, and a required one is noted (R508). -/
def State.leaveUp (s : State) (p st reason : Nat) : State :=
  let old := s.portsInForce
  let s := s.setLane p { s.lane p with retrained := true }
  let s := (((s.setLink p st).clearWidth p).linkReason p reason).bump (R.LNK_CNT p) F.LNK_CNT_RETRAINS
  let s := if s.topState = stREADY ∧ bit (s.fld R.TOP_REQ_LINKS F.TOP_REQ_LINKS_REQUIRED) p then
      s.setFld R.TOP_STATUS F.TOP_STATUS_REQ_LINK_DOWN 1 else s
  ((s.portLost p old).showMet).raise (609 + 4 * p)

/-- A port in UP leaves it for DETECT on a fault (R374); a port in another state has none. -/
def State.linkFault (s : State) (p reason : Nat) : State :=
  if s.linkState p = lkUP then s.leaveUp p lkDETECT reason else s

/-- A port enters HELD_DOWN (R370). -/
def State.holdDown (s : State) (p reason us : Nat) : State :=
  let s := ((s.setLink p lkHELD_DOWN).linkReason p reason).setFld (R.LNK_STATUS p) F.LNK_STATUS_TRAIN_TIME us
  (s.bump (R.LNK_CNT p) F.LNK_CNT_HELD).raise (609 + 4 * p)

/-- EN is written 1 (R370): a port in DISABLED leaves it. -/
def State.linkEnabled (s : State) (p : Nat) : State :=
  if s.linkState p = lkDISABLED then s.setLink p (if s.boot.portsFree then lkDETECT else lkRESET_HOLD) else s

/-- EN is written 0 (R377): the port enters DISABLED from any state. -/
def State.linkDisabled (s : State) (p : Nat) : State :=
  if s.linkState p = lkUP then s.leaveUp p lkDISABLED 0 else s.setLink p lkDISABLED

/-- RETRAIN (R374): training restarts from DETECT, but for a port in DISABLED or RESET_HOLD. -/
def State.linkRetrain (s : State) (p : Nat) : State :=
  if s.linkState p = lkDISABLED ∨ s.linkState p = lkRESET_HOLD then s
  else if s.linkState p = lkUP then s.leaveUp p lkDETECT 0
  else s.setLink p lkDETECT

/-- CNT_CLR (R377). -/
def State.linkClear (s : State) (p : Nat) : State :=
  laneList.foldl (fun s i =>
    ((s.setFld (R.LNK_LANE p i) F.LNK_LANE_CODE_ERR 0).setFld (R.LNK_LANE p i) F.LNK_LANE_DISP_ERR 0).setFld
      (R.LNK_LANE p i) F.LNK_LANE_ALIGN_LOSS 0) (s.setReg (R.LNK_CNT p) 0)

/-- What a write of LNK_CTL does beside its fields (R377). -/
def State.linkCtl (s : State) (p : Nat) (v : Word) : State :=
  let s := if F.LNK_CTL_CNT_CLR.isSet v then s.linkClear p else s
  let s := if F.LNK_CTL_EN.isSet v then s.linkEnabled p else s.linkDisabled p
  if F.LNK_CTL_RETRAIN.isSet v then s.linkRetrain p else s

/-- Input power has been good for 50 ms (R370). -/
def State.resetHoldEnd (s : State) (p : Nat) : State :=
  let s : State := { s with boot := { s.boot with portsFree := true } }
  if s.linkState p = lkRESET_HOLD then s.setLink p lkDETECT else s

/-- Signal on at least two receive lanes. -/
def seesSignal (lanes : Byte) : Bool := decide (2 ≤ (bitsOf 8 lanes.toNat).length)

/-- A port in DETECT or ABSENT sees signal (R370). -/
def State.detectSignal (s : State) (p : Nat) (lanes : Byte) : State :=
  if (s.linkState p = lkDETECT ∨ s.linkState p = lkABSENT) ∧ seesSignal lanes then s.enterAlign p else s

/-- DETECT has seen no signal for 100 µs (R370). -/
def State.detectTimeout (s : State) (p : Nat) : State :=
  if s.linkState p = lkDETECT then s.setLink p lkABSENT else s

/-- The check of ABSENT (R370). -/
def State.absentCheck (s : State) (p : Nat) (lanes : Byte) : State :=
  if s.linkState p = lkABSENT ∧ seesSignal lanes then s.enterAlign p else s

/-- A lane acquires symbol lock, or reports FREQ (R364, R359). -/
def State.symbolLock (s : State) (p i : Nat) (inverted freq : Bool) : State :=
  if s.linkState p = lkALIGN ∨ s.linkState p = lkEQ_SEARCH then
    let x := s.lane p
    if freq then
      let s := (s.setLane p { x with offRate := setBit x.offRate i, locked := clearBit x.locked i }).linkReason p lrFREQ
      if bit x.offRate i then s else s.raise (610 + 4 * p)
    else
      let s := s.setLane p { x with locked := setBit x.locked i }
      if inverted then s.setFld (R.LNK_LANES p) F.LNK_LANES_POL_INV (setBit (s.fld (R.LNK_LANES p) F.LNK_LANES_POL_INV) i)
      else s
  else s

/-- The core that drives a port's fast path restarts (R372). -/
def State.fastPathOut (s : State) (p : Nat) : Bool := (s.core (s.coreFor (3 + p / 4))).state == csRESTARTING

/-- The lanes of a port that take the fast path (R370, R372). -/
def State.fastLanes (s : State) (p : Nat) : Nat :=
  if s.flag (R.LNK_CTL p) F.LNK_CTL_FORCE_SEARCH || s.fastPathOut p then 0
  else idMask (laneList.filter fun i => bit (s.lane p).locked i && s.laneSaved p i)

/-- EQ_SEARCH begins (R370). -/
def State.enterSearch (s : State) (p : Nat) : State :=
  let s := (s.setLink p lkEQ_SEARCH).setFld (R.LNK_STATUS p) F.LNK_STATUS_PATH 1
  let s := s.setLane p { s.lane p with step := 0, best := List.replicate 8 (0, 0) }
  (bitsOf 8 (s.lane p).search).foldl (fun s i => s.setFld (R.LNK_LANE p i) F.LNK_LANE_CTLE 0) s

/-- ALIGN ends (R370). -/
def State.alignEnd (s : State) (p : Nat) : State :=
  if s.linkState p = lkALIGN then
    let fast := s.fastLanes p
    let s := s.setLane p { s.lane p with search := 255 - fast }
    if fast = 0 then s.enterSearch p else s.setLink p lkEQ_FAST
  else s

/-- The eye of a lane is measured (R367). -/
def State.setEye (s : State) (p i eye : Nat) : State := s.setFld (R.LNK_LANE p i) F.LNK_LANE_EYE eye

/-- A lane is judged by its eye (R370): a good one joins NEAR_GOOD. -/
def State.laneGood (s : State) (p i eye : Nat) : Bool :=
  decide (s.fld (R.LNK_CFG p) F.LNK_CFG_MIN_EYE ≤ eye) && bit (s.lane p).locked i && !bit (s.lane p).offRate i

/-- A lane is found good. -/
def State.noteGood (s : State) (p i : Nat) : State :=
  s.setFld (R.LNK_LANES p) F.LNK_LANES_NEAR_GOOD (setBit (s.fld (R.LNK_LANES p) F.LNK_LANES_NEAR_GOOD) i)

/-- A lane of the fast path is judged: one that is not good is searched (R370). -/
def State.judgeFast (s : State) (p i eye : Nat) : State :=
  let s := s.setEye p i eye
  if s.laneGood p i eye then s.noteGood p i
  else s.setLane p { s.lane p with search := setBit (s.lane p).search i }

/-- EQ_FAST ends (R370). -/
def State.eqFastEnd (s : State) (p : Nat) (eyes : List Byte) : State :=
  if s.linkState p = lkEQ_FAST then
    let fast := (laneList.filter fun i => !bit (s.lane p).search i)
    let s := fast.foldl (fun s i => s.judgeFast p i (eyes.getD i 0).toNat) s
    if (s.lane p).search = 0 then s.setLink p lkLANE_CHECK else s.enterSearch p
  else s

/-- The eye of each searched lane is measured at the step in force, and the next step is applied (R370). -/
def State.eqSearchStep (s : State) (p : Nat) (eyes : List Byte) : State :=
  let x := s.lane p
  if s.linkState p = lkEQ_SEARCH ∧ x.step < 16 then
    let best := laneList.map fun i =>
      let b := x.best.getD i (0, 0)
      let e := (eyes.getD i 0).toNat
      if bit x.search i && decide (b.1 < e) then (e, x.step) else b
    let s := s.setLane p { x with best := best, step := x.step + 1 }
    if x.step < 15 then
      (bitsOf 8 x.search).foldl (fun s i => s.setFld (R.LNK_LANE p i) F.LNK_LANE_CTLE (x.step + 1)) s
    else s
  else s

/-- A searched lane takes the step with its largest eye, and is judged by that eye (R370). -/
def State.judgeSearched (s : State) (p i : Nat) (best : Nat × Nat) : State :=
  let x := s.lane p
  let s := (s.setEye p i best.1).setFld (R.LNK_LANE p i) F.LNK_LANE_CTLE best.2
  if s.laneGood p i best.1 then s.noteGood p i
  else s.linkReason p (if bit x.offRate i then lrFREQ else if bit x.locked i then lrEYE else lrNO_LOCK)

/-- The search keeps the best step of each lane and judges it (R370). -/
def State.eqSearchEnd (s : State) (p : Nat) : State :=
  let x := s.lane p
  if s.linkState p = lkEQ_SEARCH ∧ x.step = 16 then
    ((bitsOf 8 x.search).foldl (fun s i => s.judgeSearched p i (x.best.getD i (0, 0))) s).setLink p lkLANE_CHECK
  else s

/-- A TRAIN set's copy holds no reserved value and its CRC-8 is right (R369). Symbols 1 to 15. -/
def trainGood (l : List Byte) : Bool :=
  let y := fun i => (l.getD (i - 1) 0).toNat
  let w := y 4
  l.length == 15 && crc8 (l.take 14) == l.getD 14 0 && (y 1 == 0x10 || y 1 == 0x11) && decide (y 2 < 8) &&
    (if y 1 == 0x10 then w == 0 && y 5 == 0
      else decide (1 ≤ w ∧ w ≤ 3 ∧ y 5 < 8 ∧ y 5 % 2 ^ w = 0)) &&
    decide (y 6 < 4) && decide (y 7 < 32) && decide (y 8 ≤ 0x40) && ((l.drop 8).take 6).all fun b => b == 0

/-- The lanes of a group: width code 1 to 3, lowest lane. -/
def groupLanes (w lo : Nat) : Nat := (2 ^ 2 ^ w - 1) * 2 ^ lo

/-- The width and group that R371 chooses among usable lanes. -/
def widthChoice (mask usable : Nat) : Option (Nat × Nat) :=
  [3, 2, 1].findSome? fun w =>
    if bit mask (w - 1) then
      ((List.range (8 / 2 ^ w)).find? fun g =>
        (bitsOf 8 (groupLanes w (g * 2 ^ w))).all (bit usable)).map fun g => (w, g * 2 ^ w)
    else none

/-- The lane settings in force, as LNK_TRAINED reports them (R368). -/
def State.laneNow (s : State) (p i : Nat) : Nat :=
  (if s.laneSaved p i then s.laneSetting p i / 16 * 16 else 2 * 64 + 16) + s.fld (R.LNK_LANE p i) F.LNK_LANE_CTLE

/-- The port enters UP (R370). -/
def State.enterUp (s : State) (p us : Nat) : State :=
  let x := s.lane p
  let trained := laneList.foldl (fun n i => n + s.laneNow p i * 2 ^ (8 * i)) 0
  let s := s.setReg (R.LNK_TRAINED p) (BitVec.ofNat 64 trained)
  let r := R.LNK_STATUS p
  let s := (((s.setLink p lkUP).setFld r F.LNK_STATUS_WIDTH x.width).setFld r F.LNK_STATUS_LANES
    (groupLanes x.width x.group)).setFld r F.LNK_STATUS_TRAIN_TIME us
  let s := s.raise (608 + 4 * p)
  let s := if x.width < 3 then s.raise (610 + 4 * p) else s
  (s.portUp p).judgeLinks

/-- The usable lanes of a port (R371). -/
def State.usableLanes (s : State) (p : Nat) : Nat :=
  idMask (laneList.filter fun i => bit (s.fld (R.LNK_LANES p) F.LNK_LANES_NEAR_GOOD) i &&
    bit (s.fld (R.LNK_LANES p) F.LNK_LANES_FAR_GOOD) i && !bit (s.lane p).crossed i)

/-- The width is chosen in LANE_CHECK (R371). -/
def State.chooseWidth (s : State) (p us : Nat) : State :=
  let x := s.lane p
  let s := if x.crossed = 0 then s else s.linkReason p lrLANE_ORDER
  match widthChoice (s.fld (R.LNK_CTL p) F.LNK_CTL_WIDTH_MASK) (s.usableLanes p) with
  | some (w, g) => (s.setLane p { x with width := w, group := g, matched := 0 }).setLink p lkCONFIG
  | none => s.holdDown p lrWIDTH us

/-- A symbol of a TRAIN set, 1 to 15 (R369). -/
def trainSym (l : List Byte) (i : Nat) : Nat := (l.getD (i - 1) 0).toNat

/-- What good copies of a TRAIN set tell: the lanes found on a wrong number, and the far end's NEAR_GOOD (R369, R371). -/
def State.trainSeen (s : State) (p : Nat) (good : List (Nat × List Byte)) (far : Nat) : State :=
  let x := s.lane p
  (s.setLane p { x with
    crossed := good.foldl (fun n c => if trainSym c.2 2 = c.1 then clearBit n c.1 else setBit n c.1) x.crossed }).setFld
    (R.LNK_LANES p) F.LNK_LANES_FAR_GOOD far

/-- Every lane of the chosen group carries TS_B with the same width and group (R370). -/
def LaneState.matches (x : LaneState) (good : List (Nat × List Byte)) : Bool :=
  (bitsOf 8 (groupLanes x.width x.group)).all fun i => good.any fun c =>
    c.1 == i && trainSym c.2 1 == 0x11 && trainSym c.2 4 == x.width && trainSym c.2 5 == x.group

/-- A TRAIN set arrives (R369): symbols 1 to 15 of its copies, by physical lane. -/
def State.trainRx (s : State) (p : Nat) (copies : List (Nat × List Byte)) (us : Nat) : State :=
  let good := copies.filter fun c => trainGood c.2
  let st := s.linkState p
  match good.head? with
  | none => s
  | some (_, l) =>
    if st < lkALIGN ∨ lkCONFIG < st then s
    else
      let x := s.lane p
      let s := s.trainSeen p good (trainSym l 3)
      if st = lkLANE_CHECK then
        if trainSym l 1 = 0x11 ∨ bit (trainSym l 6) 0 then s.chooseWidth p us else s
      else if st = lkCONFIG then
        let n := if x.matches good then x.matched + 1 else 0
        let s := s.setLane p { s.lane p with matched := n }
        if n = 8 then s.enterUp p us else s
      else s

/-- LANE_CHECK has not finished in 5 ms (R370). -/
def State.laneCheckTimeout (s : State) (p us : Nat) : State :=
  if s.linkState p = lkLANE_CHECK then s.holdDown p lrFAR_TMO us else s

/-- CONFIG has not finished in 200 µs (R370). -/
def State.configTimeout (s : State) (p us : Nat) : State :=
  if s.linkState p = lkCONFIG then s.holdDown p lrCONFIG_TMO us else s

/-- The wait of HELD_DOWN ends (R370). -/
def State.heldDownRetry (s : State) (p : Nat) : State :=
  if s.linkState p = lkHELD_DOWN then s.setLink p lkDETECT else s

/-- A lane of a port in UP is active. -/
def State.laneActive (s : State) (p i : Nat) : Bool :=
  s.linkState p == lkUP && bit (s.fld (R.LNK_STATUS p) F.LNK_STATUS_LANES) i

/-- A comma at another boundary (R374). -/
def State.alignLoss (s : State) (p i : Nat) : State :=
  if s.laneActive p i then (s.bump (R.LNK_LANE p i) F.LNK_LANE_ALIGN_LOSS).linkFault p lrALIGN_LOSS else s

/-- Code errors and disparity errors of an active lane within 65,536 symbols (R360, R374). -/
def State.codeErrors (s : State) (p i code disp : Nat) : State :=
  if s.laneActive p i then
    let s := (s.bump (R.LNK_LANE p i) F.LNK_LANE_CODE_ERR code).bump (R.LNK_LANE p i) F.LNK_LANE_DISP_ERR disp
    if s.fld (R.LNK_CFG p) F.LNK_CFG_ERR_THRESH ≤ code + disp then s.linkFault p lrERRORS else s
  else s

/-- The fill of an active lane's elastic buffer (R366). -/
def State.elasticFill (s : State) (p i fill : Nat) : State :=
  if s.laneActive p i && (decide (fill ≤ 4) || decide (60 ≤ fill)) then
    (s.bump (R.LNK_CNT p) F.LNK_CNT_ELASTIC).linkFault p lrELASTIC
  else s

/-- An ordered set begins in different columns (R365). -/
def State.deskewFault (s : State) (p : Nat) : State :=
  if s.linkState p = lkUP then (s.bump (R.LNK_CNT p) F.LNK_CNT_ELASTIC).linkFault p lrDESKEW else s

/-- The margin samplers measure while UP (R367). -/
def State.eyeMeasure (s : State) (p : Nat) (eyes : List Byte) : State :=
  if s.linkState p = lkUP then
    laneList.foldl (fun s i => match eyes[i]? with | some e => s.setEye p i e.toNat | none => s) s
  else s

/-- A framing error (R384): the port retrains, unless audit mode holds that back (R405). -/
def State.framingError (s : State) (p : Nat) : State :=
  if s.linkState p = lkUP then
    let s := (s.bump (R.TGL_PORT_CNT p) F.TGL_PORT_CNT_FRAMING).portEvent p F.TGL_EVT_FRAMING
    let s := s.audit p 2 0 0
    let c := R.TGL_PORT_CTL p
    if s.flag c F.TGL_PORT_CTL_AUDIT && s.flag c F.TGL_PORT_CTL_NO_RETRAIN then s else s.linkRetrain p
  else s

end Sys2Proof.Machine
end

