-- ==== Sys2Proof/Machine/Beat.lean ====
section
/-!
DEFINITION. Beats (02_beats): the sets of a port (R36 to R39, R42), the local edge and what it brings about (R48), the
master's beat (R29 to R35), and a member's tracking, loss, free-run and rejoin (R40 to R47).
-/
namespace Sys2Proof.Machine

/-- The states of TGL_BEAT_STATUS. -/
def bsNO_BEAT := 0
def bsTRACKING := 1
def bsMASTER := 2
def bsFREE_RUN := 3

/-- The state of the beat. -/
def State.beatState (s : State) : Nat := s.fld R.TGL_BEAT_STATUS F.TGL_BEAT_STATUS_STATE

/-- The state with a field of TGL_BEAT_STATUS changed. -/
def State.setBeat (s : State) (f : Fld) (n : Nat) : State := s.setFld R.TGL_BEAT_STATUS f n

/-- The state with the beat logic's own state changed. -/
def State.onBeat (s : State) (f : BeatState → BeatState) : State := { s with beat := f s.beat }

/-- The largest beat, 65.536 µs, in reference cycles (R30). -/
def beatMax := 10240

/-- Symbols 1 to 7 of a set, from symbols 1 to 6 (R36, R42). -/
def orderedSet (l : List Byte) : List Byte := l ++ [crc8 l]

/-- Symbols 1 to 6 of a BEAT set (R36, R37): its number, PERIOD and flags. -/
def beatSet (n period flags : Nat) : List Byte :=
  [0x01, BitVec.ofNat 8 n, BitVec.ofNat 8 (n / 256), BitVec.ofNat 8 flags, BitVec.ofNat 8 period,
    BitVec.ofNat 8 (period / 256)]

/-- The content of an arriving set, when every copy that passes its check is the same, is of the type wanted, and holds
no reserved bit (R38, R42). -/
def setGood (typ : Byte) (copies : List (List Byte)) : Option (List Byte) :=
  match copies.filter fun l => l.length == 7 && crc8 (l.take 6) == l.getD 6 0 with
  | l :: rest =>
    let y := fun i => (l.getD (i - 1) 0).toNat
    let period := y 5 + 256 * y 6
    if rest.all (fun k => k == l) && l.head? == some typ &&
        (if typ == 0x01 then decide (y 4 < 8 ∧ 40 ≤ period ∧ period ≤ beatMax) else y 4 == 0 && period == 0)
    then some l else none
  | [] => none

/-- The symbols of a set as audit word 2, symbol 0 lowest (R405). -/
def auditSet (l : List Byte) : Nat := Word.ofBytes (0x3C#8 :: l)

/-- A violation by an ordered set (R405). -/
def State.auditSet (s : State) (p cls : Nat) (copies : List (List Byte)) : State :=
  s.audit p cls (Machine.auditSet (copies.head?.getD [])) 0

/-- An armed snapshot whose beat has come latches, and so does a husk's whose beat had passed (R535, R540). -/
def State.snapEdge (s : State) : State :=
  let s := match s.snap.armed with
    | some (at', husk) =>
      if at' ≤ s.beatNow then
        State.latch (State.setFld { s with snap := { s.snap with armed := none } } R.SNP_STATUS F.SNP_STATUS_ARMED 0) 1 husk false
      else s
    | none => s
  match s.snap.late with
  | some husk => State.latch { s with snap := { s.snap with late := none } } 5 (some husk) true
  | none => s

/-- A local edge (R47, R48): the number is taken, the set goes out on the downstream ports (R36), BEAT_OUT pulses, and
everything scheduled in beats follows. `len` is the length of the beat that begins, `skipped` the beats jumped over. -/
def State.localEdge (s : State) (n skipped len flags : Nat) (e : EdgeSites) : State :=
  let s := (s.setFld R.TGL_BEAT_NOW F.TGL_BEAT_NOW_NUMBER n).onBeat fun b => { b with length := len, begun := true }
  let up := s.fld R.TGL_BEAT_STATUS F.TGL_BEAT_STATUS_UPSTREAM
  let down := s.podPorts.filter fun p => s.isMaster || p != up
  let s := down.foldl (fun s p => s.emit (.orderedSet p (orderedSet (beatSet n len flags)))) s
  let s := if s.flag R.TGL_BEAT_CTL F.TGL_BEAT_CTL_OUT_EN then s.emit (.beatOut n) else s
  let s := (List.range 8).foldl (fun s d => s.siteEdge e d) s
  (((s.rglEdge).ringEdge skipped).hvEdge).snapEdge

/-- The applied level: the largest of the members' (R35). -/
def State.appliedLevel (s : State) : Nat := (s.beat.levels.map Prod.snd).foldl max 0

/-- A written base period whose beat has come applies (R30). -/
def State.periodEdge (s : State) (n : Nat) : State :=
  let r := R.TGL_BEAT_PERIOD
  if s.beat.periodDue ∧ s.fld r F.TGL_BEAT_PERIOD_PERIOD_AT ≤ n then
    let p := s.fld r F.TGL_BEAT_PERIOD_PERIOD
    let changed := p != s.beat.base
    let s := s.onBeat fun b => { b with base := p, periodDue := false }
    if changed then s.raise 775 else s
  else s

/-- A changed SOURCE takes effect at the edge (R29). -/
def State.sourceEdge (s : State) : State :=
  let src := s.fld R.TGL_BEAT_CTL F.TGL_BEAT_CTL_SOURCE
  let s := if src = s.beat.source then s
    else (s.onBeat fun b => { b with source := src, inMissed := 0 }).setBeat F.TGL_BEAT_STATUS_STATE bsMASTER
  s.setBeat F.TGL_BEAT_STATUS_NOT_APPLIED src

/-- The master starts a beat (R33, R35): the first in a pod without one is number 0, and after an absorption the larger
number is taken (R399). -/
def State.masterBeat (s : State) (e : EdgeSites) : State :=
  let n := if s.beat.begun then s.beatNow + 1 else s.beatNow
  let n := max n (s.pod.takeBeat.getD 0) % 2 ^ 48
  let s : State := { s with pod := { s.pod with takeBeat := none } }
  let s := ((s.periodEdge n).sourceEdge).onBeat fun b => { b with edgeDue := false }
  let lvl := s.appliedLevel
  let s := s.setBeat F.TGL_BEAT_STATUS_LEVEL lvl
  let (len, s) : Nat × State :=
    if s.beat.source = 0 then (min beatMax (s.beat.base * (8 + lvl) / 8), s)
    else
      match s.beat.interval with
      | some i => (i, s)
      | none => let (k, s) := s.freeNat 10201; (40 + k, s)
  let flags := (if s.beat.source = 0 ∧ s.beat.base < len then 1 else 0) + (if 0 < s.beat.newSets then 2 else 0) +
    (if s.beat.source = 1 then 4 else 0)
  (s.onBeat fun b => { b with newSets := b.newSets - 1 }).localEdge n 0 len flags e

/-- MASTER_EDGE (R35): from the reference clock, or for an accepted BEAT_IN edge. -/
def State.masterEdge (s : State) (e : EdgeSites) : State :=
  if s.isMaster && s.beatState == bsMASTER && (s.beat.source == 0 || s.beat.edgeDue) then s.masterBeat e else s

/-- A rising edge on BEAT_IN (R31): one less than 256 ns after the last is discarded; an accepted one ends free-run. -/
def State.beatInEdge (s : State) (cycles : Nat) : State :=
  if s.isMaster && s.beat.source == 1 then
    if cycles < 40 then s.bump R.TGL_BEAT_CNT F.TGL_BEAT_CNT_IN_REJECT
    else
      (s.onBeat fun b => { b with edgeDue := true, interval := some (min beatMax cycles), inMissed := 0 }).setBeat
        F.TGL_BEAT_STATUS_STATE bsMASTER
  else s

/-- No BEAT_IN edge within 65.536 µs (R31): the master starts the beat, and after the fourth in a row enters free-run. -/
def State.beatInMissed (s : State) (e : EdgeSites) : State :=
  if s.isMaster && s.beat.source == 1 && s.beatState == bsMASTER && !s.beat.edgeDue then
    let s := (s.onBeat fun b => { b with inMissed := b.inMissed + 1 }).masterBeat e
    if s.beat.inMissed = 4 then
      ((s.setBeat F.TGL_BEAT_STATUS_STATE bsFREE_RUN).bump R.TGL_BEAT_CNT F.TGL_BEAT_CNT_FREE_RUN).raise 772
    else s
  else s

/-- The number that a set's low 16 bits stand for (R40): the nearest to the local number plus one, the lower of two. -/
def rebuild (l low : Nat) : Nat :=
  let c := l + 1
  let d := (low + 65536 - c % 65536) % 65536
  if d < 32768 then (c + d) % 2 ^ 48 else (c + 2 ^ 48 + d - 65536) % 2 ^ 48

/-- The level that a member derives (R35). -/
def derivedLevel (base period : Nat) : Nat :=
  ((List.range 15).find? fun i => decide (period ≤ min beatMax (base * (9 + i) / 8))).elim 15 fun i => i + 1

/-- A member's LEVEL and observed base follow a good set (R35). -/
def State.levelSet (s : State) (period : Nat) (stretched : Bool) : State :=
  if stretched then
    match s.beat.observed with
    | some b => s.setBeat F.TGL_BEAT_STATUS_LEVEL (derivedLevel b period)
    | none => s
  else (s.onBeat fun b => { b with observed := some period }).setBeat F.TGL_BEAT_STATUS_LEVEL 0

/-- A member is in TRACKING; a return to it raises 769 (R44). -/
def State.track (s : State) : State :=
  let was := s.beatState
  let s := (s.setBeat F.TGL_BEAT_STATUS_STATE bsTRACKING).setBeat F.TGL_BEAT_STATUS_MISSED 0
  if was = bsFREE_RUN ∨ was = bsHOLD then s.raise 769 else s

/-- A good set on the upstream port (R44). -/
def State.followSet (s : State) (l : List Byte) (e : EdgeSites) : State :=
  let y := fun i => (l.getD (i - 1) 0).toNat
  let cur := s.beatNow
  let n := rebuild cur (y 2 + 256 * y 3)
  let period := y 5 + 256 * y 6
  let s := s.levelSet period (bit (y 4) 0)
  let hold := fun (s : State) => s.onBeat fun b => { b with held := period, heldExt := bit (y 4) 2 }
  if cur < n then
    let s := (hold s).track.localEdge n (n - cur - 1) period (y 4) e
    if n = cur + 1 then s else (s.bump R.TGL_BEAT_CNT F.TGL_BEAT_CNT_JUMPS).raise 770
  else if n = cur then (hold s).track
  else if s.beatState = bsHOLD then s
  else ((hold s).setBeat F.TGL_BEAT_STATUS_STATE bsHOLD).raise 771

/-- BEAT_SET_RX (R38, R44): symbols 1 to 7 of the copies of a set on a port. -/
def State.beatSetRx (s : State) (p : Nat) (copies : List (List Byte)) (e : EdgeSites) : State :=
  if !s.portCarries p then s
  else
    match setGood 0x01 copies with
    | none =>
      let s := (s.bump R.TGL_BEAT_CNT F.TGL_BEAT_CNT_CHECK_ERR).auditSet p 10 copies
      if s.fld R.TGL_BEAT_CNT F.TGL_BEAT_CNT_CHECK_ERR % 256 = 0 then s.raise 773 else s
    | some l =>
      let upstream := s.flag R.TGL_BEAT_STATUS F.TGL_BEAT_STATUS_UP_VALID &&
        s.fld R.TGL_BEAT_STATUS F.TGL_BEAT_STATUS_UPSTREAM == p
      if s.isMaster ∨ !s.hasId ∨ !upstream ∨ s.beat.rejoin then s
      else
        let n := rebuild s.beatNow ((l.getD 1 0).toNat + 256 * (l.getD 2 0).toNat)
        (if n = s.beatNow + 1 then s else s.auditSet p 11 copies).followSet l e

/-- A beat that a member starts itself (R45, R46). -/
def State.ownBeat (s : State) (len : Nat) (e : EdgeSites) : State :=
  let flags := (if (match s.beat.observed with | some b => decide (b < len) | none => false) then 1 else 0) +
    (if s.beat.heldExt then 4 else 0)
  let m := s.fld R.TGL_BEAT_STATUS F.TGL_BEAT_STATUS_MISSED
  (s.setBeat F.TGL_BEAT_STATUS_MISSED (min 7 (m + 1))).localEdge ((s.beatNow + 1) % 2 ^ 48) 0 len flags e

/-- MISSED_BEAT (R45, R46). -/
def State.missedBeat (s : State) (e : EdgeSites) : State :=
  if s.beatState = bsTRACKING ∧ !s.isMaster then
    let s := s.ownBeat (if s.beat.heldExt then beatMax else s.beat.held) e
    if s.fld R.TGL_BEAT_STATUS F.TGL_BEAT_STATUS_MISSED = 4 then
      ((s.setBeat F.TGL_BEAT_STATUS_STATE bsFREE_RUN).bump R.TGL_BEAT_CNT F.TGL_BEAT_CNT_FREE_RUN).raise 768
    else s
  else s

/-- FREE_RUN_EDGE (R46, R31). -/
def State.freeRunEdge (s : State) (e : EdgeSites) : State :=
  if s.beatState = bsFREE_RUN then (if s.isMaster then s.masterBeat e else s.ownBeat s.beat.held e) else s

/-- The module has been out of TRACKING for 32,768 beats (R40): it asks the master for the full number. -/
def State.rejoinRequired (s : State) : State :=
  if (s.beatState = bsFREE_RUN ∨ s.beatState = bsHOLD) ∧ !s.isMaster then
    (s.onBeat fun b => { b with rejoin := true }).toMaster .beatQuery
  else s

/-- LATENCY_PROBE (R42). -/
def State.latencyProbe (s : State) (p : Nat) (stamp : BitVec 16) : State :=
  if s.portCarries p then
    (s.setPort p { s.port p with probe := some stamp.toNat }).emit (.orderedSet p
      (orderedSet [0x02, BitVec.ofNat 8 stamp.toNat, BitVec.ofNat 8 (stamp.toNat / 256), 0, 0, 0]))
  else s

/-- PROBE_RX (R42): the same stamp returns. -/
def State.probeRx (s : State) (p : Nat) (copies : List (List Byte)) : State :=
  if s.portCarries p then
    match setGood 0x02 copies with
    | some l => s.emit (.orderedSet p (orderedSet [0x03, l.getD 1 0, l.getD 2 0, 0, 0, 0]))
    | none => s.auditSet p 10 copies
  else s

/-- ECHO_RX (R42): the latency is half of the round trip less 64 symbols, each of 12,800 / 33 ps. -/
def State.echoRx (s : State) (p : Nat) (copies : List (List Byte)) (counter : BitVec 16) : State :=
  if s.portCarries p then
    match setGood 0x03 copies with
    | none => s.auditSet p 10 copies
    | some l =>
      let stamp := (l.getD 1 0).toNat + 256 * (l.getD 2 0).toNat
      if (s.port p).probe = some stamp then
        let trip := (counter.toNat + 65536 - stamp) % 65536
        let s := s.setPort p { s.port p with probe := none }
        (s.setFld (R.TGL_BEAT_LAT p) F.TGL_BEAT_LAT_VALID 1).setFld (R.TGL_BEAT_LAT p) F.TGL_BEAT_LAT_LATENCY
          ((trip - 64) * 6400 / 33)
      else s.auditSet p 12 copies
  else s

/-- CNT_CLR of TGL_BEAT_CTL (R51). -/
def State.beatCtl (s : State) (v : Word) : State :=
  if F.TGL_BEAT_CTL_CNT_CLR.isSet v then s.setReg R.TGL_BEAT_CNT 0 else s

/-- A write of TGL_BEAT_PERIOD replaces any change that has not applied (R30). -/
def State.periodWritten (s : State) : State := s.onBeat fun b => { b with periodDue := true }

end Sys2Proof.Machine
end

