-- ==== Sys2Proof/Machine/Eic.lean ====
section
/-!
DEFINITION. The event and interrupt controller (R430 to R443) as its commands see it: source messages, claim and end of
interrupt, sleep, restart of a core, and the limits of the host vectors.
-/
namespace Sys2Proof.Machine

/-- A source message that the EIC does not perform is counted (R430). -/
def State.eicDiscard (s : State) : State := s.bump R.EIC_CNT F.EIC_CNT_DISCARDED

/-- A source message at EIC_DOORBELL (R430, R433). -/
def State.eicDoorbell (s : State) (v : Word) : State :=
  let src := F.EIC_DOORBELL_SRC.of v
  if src < 32 ∨ 832 ≤ src then s.eicDiscard
  else if F.EIC_DOORBELL_DEASSERT.isSet v then
    if State.sourceIsLevel src then s.lower src else s.eicDiscard
  else s.raise src

/-- A source message at a core's doorbell (R430). -/
def State.eicCDoorbell (s : State) (c : Nat) (v : Word) : State :=
  let src := F.EIC_C_DOORBELL_SRC.of v
  if 32 ≤ src ∨ F.EIC_C_DOORBELL_DEASSERT.isSet v then s.eicDiscard
  else (s.setReg (R.EIC_C_PEND_SET c) (s.reg (R.EIC_C_PEND_SET c) ||| BitVec.ofNat 64 (2 ^ src))).eicSettle

/-- The private sources that are ACTIVE at a core, as a mask. -/
def State.ownActive (s : State) (c : Nat) : Nat := Tab.get (fun _ => 0) s.eic.own c

/-- The state with that mask changed. -/
def State.setOwnActive (s : State) (c n : Nat) : State :=
  { s with eic := { s.eic with own := Tab.set (fun _ => 0) s.eic.own c n } }

/-- The core that has claimed a shared source. -/
def State.claimant (s : State) (src : Nat) : Nat := Tab.get (fun _ => 0) s.eic.claimant src

/-- EIC_C_STATUS.ACTIVE counts the sources that are active on a core. -/
def State.countActive (s : State) (c : Nat) (up : Bool) : State :=
  let n := s.fld (R.EIC_C_STATUS c) F.EIC_C_STATUS_ACTIVE
  s.setFld (R.EIC_C_STATUS c) F.EIC_C_STATUS_ACTIVE (if up then n + 1 else n - 1)

/-- A claim by a core (R435): the word that it reads, and the state. -/
def State.claim (s : State) (c : Nat) : Word × State :=
  match s.presented c with
  | none => (0, s)
  | some src =>
    let w := s.claimWord c
    let s : State :=
      if src < 32 then
        (s.setReg (R.EIC_C_PEND_SET c) (s.reg (R.EIC_C_PEND_SET c) &&& ~~~ BitVec.ofNat 64 (2 ^ src))).setOwnActive c
          (setBit (s.ownActive c) src)
      else
        let s := (s.setSrcBit R.EIC_PEND_SET src false).setSrcBit R.EIC_ACTIVE src true
        { s with eic := { s.eic with claimant := Tab.set (fun _ => 0) s.eic.claimant src c } }
    (w, (((s.countActive c true).setFld (R.EIC_C_STATUS c) F.EIC_C_STATUS_LAST src).eicSettle))

/-- Whether a source is ACTIVE and claimed by a core. -/
def State.activeAt (s : State) (c src : Nat) : Bool :=
  if src < 32 then bit (s.ownActive c) src
  else decide (src < 832) && s.srcBit R.EIC_ACTIVE src && s.claimant src == c

/-- An interrupt that is ACTIVE ends (R436): a level-type source that is ASSERTED is PENDING again. -/
def State.endInterrupt (s : State) (c src : Nat) : State :=
  let s := s.countActive c false
  (if src < 32 then s.setOwnActive c (clearBit (s.ownActive c) src)
    else
      let s := s.setSrcBit R.EIC_ACTIVE src false
      if State.sourceIsLevel src && s.srcBit R.EIC_ASSERTED src then s.setSrcBit R.EIC_PEND_SET src true
      else s).eicSettle

/-- A write of EIC_C_EOI (R436). -/
def State.eoi (s : State) (c : Nat) (v : Word) : State :=
  let src := F.EIC_C_EOI_SRC.of v
  if s.activeAt c src then s.endInterrupt c src else s.bump R.EIC_CNT F.EIC_CNT_EOI_IGNORED

/-- A core restarts (R439): its interrupts end, and its global mask is set. -/
def State.eicRestart (s : State) (c : Nat) : State :=
  ((List.range 832).foldl (fun (s : State) src => if s.activeAt c src then s.endInterrupt c src else s) s).setFld
    (R.EIC_C_MASK_SET c) F.EIC_C_MASK_SET_GMASK 1

/-- A core executes wait-for-event (R438): it sleeps unless a source is presented to it. -/
def State.coreSleep (s : State) (c : Nat) : State :=
  if (s.core c).state = csRUNNING then (s.setFld (R.EIC_C_STATUS c) F.EIC_C_STATUS_ASLEEP 1).eicCore c else s

/-- CEIL has passed since the T0 of a vector (R441). -/
def State.hvCeiling (s : State) (v : Nat) : State :=
  if s.fld (R.EIC_HV_STATUS v) F.EIC_HV_STATUS_COUNT = 0 then s
  else (s.setVec v { s.vec v with ceiling := true }).hvTry v

/-- A message that was not accepted is due again (R443). -/
def State.hvRetry (s : State) (v : Nat) : State :=
  if (s.vec v).failed then (s.setVec v { s.vec v with due := true }).hvTry v else s

/-- A write of EIC_CTL (R457). -/
def State.eicCntClr (s : State) (v : Word) : State :=
  if F.EIC_CTL_CNT_CLR.isSet v then
    s.liveVectors.foldl (fun s v => s.setFld (R.EIC_HV_STATUS v) F.EIC_HV_STATUS_RETRIES 0) (s.setReg R.EIC_CNT 0)
  else s

end Sys2Proof.Machine
end

