-- ==== Sys2Proof/Machine/Sha3.lean ====
section
/-!
DEFINITION. SHA3-512, which the spec names for images and measurements (R461 to R465, R487, R488). The function is that of
FIPS 202: PRESUMED, the spec gives its name only.
-/
namespace Sys2Proof.Sha3

/-- The round constants. -/
def roundConstants : List Word :=
  [0x0000000000000001#64, 0x0000000000008082#64, 0x800000000000808A#64, 0x8000000080008000#64, 0x000000000000808B#64,
   0x0000000080000001#64, 0x8000000080008081#64, 0x8000000000008009#64, 0x000000000000008A#64, 0x0000000000000088#64,
   0x0000000080008009#64, 0x000000008000000A#64, 0x000000008000808B#64, 0x800000000000008B#64, 0x8000000000008089#64,
   0x8000000000008003#64, 0x8000000000008002#64, 0x8000000000000080#64, 0x000000000000800A#64, 0x800000008000000A#64,
   0x8000000080008081#64, 0x8000000000008080#64, 0x0000000080000001#64, 0x8000000080008008#64]

/-- The rotation of each lane, lane x + 5·y at place x + 5·y. -/
def rotations : List Nat :=
  [0, 1, 62, 28, 27, 36, 44, 6, 55, 20, 3, 10, 43, 25, 39, 41, 45, 15, 21, 8, 18, 2, 61, 56, 14]

/-- A lane of the state. -/
def lane (a : Array Word) (x y : Nat) : Word := a.getD (x % 5 + 5 * (y % 5)) 0

/-- A state from what each lane becomes. -/
def lanes (f : Nat → Nat → Word) : Array Word := ((List.range 25).map fun i => f (i % 5) (i / 5)).toArray

/-- One round. -/
def round (a : Array Word) (k : Word) : Array Word :=
  let c := ((List.range 5).map fun x => (List.range 5).foldl (fun w y => w ^^^ lane a x y) 0).toArray
  let d := fun x => c.getD ((x + 4) % 5) 0 ^^^ (c.getD ((x + 1) % 5) 0).rotateLeft 1
  let a := lanes fun x y => lane a x y ^^^ d x
  let b := lanes fun x y =>
    let u := (x + 3 * y) % 5
    (lane a u x).rotateLeft (rotations.getD (u + 5 * x) 0)
  lanes fun x y =>
    let w := lane b x y ^^^ (~~~ lane b (x + 1) y &&& lane b (x + 2) y)
    if x = 0 ∧ y = 0 then w ^^^ k else w

/-- The permutation. -/
def permute (a : Array Word) : Array Word := roundConstants.foldl round a

/-- A block of 72 bytes is absorbed. -/
def absorb (a : Array Word) (block : List Byte) : Array Word :=
  permute (lanes fun x y =>
    let i := x + 5 * y
    if i < 9 then lane a x y ^^^ BitVec.ofNat 64 (Word.ofBytes ((block.drop (8 * i)).take 8)) else lane a x y)

/-- The padded message in blocks. -/
def blocks : Nat → List Byte → List (List Byte)
  | 0, _ => []
  | n + 1, m =>
    if m.length < 72 then [(m ++ [0x06#8] ++ List.replicate (71 - m.length) 0#8).modify 71 fun b => b ||| 0x80#8]
    else m.take 72 :: blocks n (m.drop 72)

/-- SHA3-512 of some bytes: 64 bytes. -/
def sha3 (m : List Byte) : List Byte :=
  let a := (blocks (m.length / 72 + 1) m).foldl absorb (lanes fun _ _ => 0)
  (List.range 8).flatMap fun i => Word.bytes 8 (lane a i (i / 5)).toNat

end Sys2Proof.Sha3
end

