-- ==== Sys2Proof/Machine/Flash.lean ====
section
/-!
DEFINITION. The boot flash (R483, R484, R529): its bytes, and the commands that software gives it.
-/
namespace Sys2Proof.Machine

/-- Bytes of the flash. -/
def State.flashBytes (s : State) (a n : Nat) : List Byte := readCells flashDefault s.flash a n

/-- The flash with bytes written. -/
def State.flashStore (s : State) (a : Nat) (bs : List Byte) : State :=
  { s with flash := writeCells flashDefault s.flash a bs }

/-- A sector of 64 KiB. -/
def flashSector := 65536

/-- The flash with a sector erased. -/
def State.flashEraseAt (s : State) (a : Nat) : State :=
  { s with flash := Tab.clear s.flash fun k => decide (a ≤ k) && decide (k < a + flashSector) }

/-- R529 allows flash writes. -/
def State.flashOk (s : State) : Bool := s.flag R.PWR_STATUS F.PWR_STATUS_FLASH_WR_OK

/-- The operations of TOP_FLASH_CTL. -/
def foREAD := 1
def foPROGRAM := 2
def foERASE := 3

/-- The results of a flash command. -/
def frOK := 0
def frFORBIDDEN := 1
def frRANGE := 2
def frDEVICE_ERROR := 3

/-- Bytes from an address on lie in part in the defect-record or journal regions (R483, R484). -/
def flashProtected (a n : Nat) : Bool := decide (a < 0x1C00000) && decide (0x800000 < a + n)

/-- A flash command starts (R484): what its end will report, as far as its start decides it. -/
def State.flashStart (s : State) (op : Nat) : State :=
  if s.flag R.TOP_FLASH_STATUS F.TOP_FLASH_STATUS_BUSY ∨ op = 0 then s
  else
    let a := s.fld R.TOP_FLASH_ADDR F.TOP_FLASH_ADDR_ADDR
    let n := if op = foERASE then flashSector else s.fld R.TOP_FLASH_CTL F.TOP_FLASH_CTL_LEN
    let result :=
      if op = foREAD then frOK
      else if !s.flashOk then frFORBIDDEN
      else if flashProtected a n || (op == foERASE && a % flashSector != 0) then frRANGE
      else frOK
    State.setFld { s with boot := { s.boot with flash := some (op, a, n, result) } } R.TOP_FLASH_STATUS
      F.TOP_FLASH_STATUS_BUSY 1

/-- The bytes of the transfer window. -/
def State.flashWindow (s : State) (n : Nat) : List Byte :=
  ((List.range 512).flatMap fun j => Word.bytes 8 (s.reg (R.TOP_FLASH_BUF j)).toNat).take n

/-- The transfer window with its first bytes replaced. -/
def State.setFlashWindow (s : State) (bs : List Byte) : State :=
  (splitUnits 8 0 (allBytes bs)).foldl (fun s u =>
    let r := R.TOP_FLASH_BUF (u.1 / 8)
    s.setReg r (BitVec.ofNat 64 (Word.ofBytes (mergeBytes (Word.bytes 8 (s.reg r).toNat) u.2)))) s

/-- What a READ finds: the format of the wear records is internal to the module, so their bytes are free (R550). -/
def State.flashRead (s : State) (a n : Nat) : List Byte × State :=
  (List.range n).foldl (fun (acc : List Byte × State) i =>
    if s.wear.saved.isSome && decide (0x1400000 ≤ a + i) && decide (a + i < 0x1C00000) then
      let (b, t) := acc.2.freeByte
      (acc.1 ++ [b], t)
    else (acc.1 ++ s.flashBytes (a + i) 1, acc.2)) ([], s)

/-- A flash command that may change the flash does so: a PROGRAM clears bits, an ERASE sets them. A device error leaves
the bytes that the command touches open. -/
def State.flashAct (s : State) (op a n : Nat) (error : Bool) : State :=
  if op = foREAD then
    let (bs, s) := if error then s.freeBytes n else s.flashRead a n
    s.setFlashWindow bs
  else if error then
    let (bs, s) := s.freeBytes n
    s.flashStore a bs
  else if op = foPROGRAM then s.flashStore a (List.zipWith (· &&& ·) (s.flashBytes a n) (s.flashWindow n))
  else s.flashEraseAt a

/-- A flash command completes (R484). -/
def State.flashDone (s : State) (error : Bool) : State :=
  match s.boot.flash with
  | none => s
  | some (op, a, n, result) =>
    let s := if result = frOK then s.flashAct op a n error else s
    let s : State := { s with boot := { s.boot with flash := none } }
    (s.setFld R.TOP_FLASH_STATUS F.TOP_FLASH_STATUS_BUSY 0).setFld R.TOP_FLASH_STATUS F.TOP_FLASH_STATUS_RESULT
      (if result = frOK ∧ error then frDEVICE_ERROR else result)

end Sys2Proof.Machine
end

