-- ==== Sys2Proof/Machine/Snp.lean ====
section
/-!
DEFINITION. Snapshots, the change journal's way to memory and flash, and wear (20_snapshots_journal_wear).
-/
namespace Sys2Proof.Machine

/-- The offsets of a register's repetitions. -/
def regOffsets : List (Nat × Nat) → Nat → List Nat
  | [], b => [b]
  | (stride, count) :: ds, b => (List.range count).flatMap fun i => regOffsets ds (b + stride * i)

/-- The register maps of the blocks (R56). -/
def regMaps : List (List RegDef) :=
  [RegMap.top, RegMap.eic, RegMap.mbx, RegMap.wear, RegMap.pwr, RegMap.thm, RegMap.rgl, RegMap.adt, RegMap.tgl,
    RegMap.lnk, RegMap.sbf, RegMap.stk, RegMap.msc, RegMap.dmv, RegMap.nme, RegMap.dsp, RegMap.tdi, RegMap.hkp]

/-- The offsets of the registers that have snapshot copies, ascending (R535, R541). -/
def copyOffsets : List Nat :=
  (((regMaps.flatMap id).flatMap fun d => regOffsets d.dims d.base).filter fun a => !noCopy a).mergeSort (· ≤ ·)

/-- What a read of a register shows of the value `w` stored where it shows it: SBF_BANK shows the bank map (R121). -/
def State.shown (s : State) (off : Nat) (w : Word) : Word :=
  let r := off % 0x1000000
  if s.buffer.placed && decide (0x1000000 ≤ off) && decide (R.SBF_BANK 0 0 % 0x1000000 ≤ r) &&
      decide (r < R.SBF_BANK 0 4224 % 0x1000000) then
    Reg.withBits w F.SBF_BANK_LOGICAL.hi F.SBF_BANK_LOGICAL.lo
      (s.sbLogical (off / 0x1000000 - 1) ((r - R.SBF_BANK 0 0 % 0x1000000) / 8))
  else w

/-- Where the value that a register shows is stored (R457). -/
def storeOf (off : Nat) : Nat :=
  match Reg.lookup off with
  | some (d, _) => off - d.shows
  | none => off

/-- The value of a register's copy (R535). -/
def State.copyOf (s : State) (off : Nat) : Word :=
  s.shown off (Tab.get (Reg.resetValue s.fuses) s.snap.copies (storeOf off))

/-- A BEAT trigger is armed (R535, R540); it replaces an armed one. -/
def State.snapArm (s : State) (at' : Nat) (husk : Option (Nat × Nat)) : State :=
  State.setFld { s with snap := { s.snap with armed := some (at', husk) } } R.SNP_STATUS F.SNP_STATUS_ARMED 1

/-- What a write of SNP_ARM does: CANCEL disarms (R552), ARM arms at AT and sends the pod's SNAP (R539). -/
def State.snapArmed (s : State) (v : Word) : State :=
  let s : State := if F.SNP_ARM_CANCEL.isSet v then
      State.setFld { s with snap := { s.snap with armed := none } } R.SNP_STATUS F.SNP_STATUS_ARMED 0
    else s
  if F.SNP_ARM_ARM.isSet v then
    let at' := F.SNP_ARM_AT.of v
    let s := s.snapArm at' none
    if s.flag R.SNP_CTL F.SNP_CTL_POD_SEND then s.sendSnap (s.fld R.SNP_STATUS F.SNP_STATUS_NEXT_ID) at' else s
  else s

/-- The states of the store (R537). -/
def snEMPTY := 0
def snHELD := 1
def snDUMPING := 2

/-- The state of the store. -/
def State.snapState (s : State) : Nat := s.fld R.SNP_STATUS F.SNP_STATUS_STATE

/-- What a write of SNP_CTL does: a release (R537). -/
def State.snapRelease (s : State) (v : Word) : State :=
  if !F.SNP_CTL_RELEASE.isSet v then s
  else if s.snapState = snHELD then s.setFld R.SNP_STATUS F.SNP_STATUS_STATE snEMPTY
  else if s.snapState = snDUMPING then { s with snap := { s.snap with release := true } }
  else s

/-- What a write of SNP_TRIG does (R535). -/
def State.snapTrig (s : State) (v : Word) : State := if F.SNP_TRIG_GO.isSet v then s.latch 2 none false else s

/-- A rising edge on SNAP_IN (R535, R579). -/
def State.snapPin (s : State) : State := if s.flag R.SNP_CTL F.SNP_CTL_PIN_EN then s.latch 3 none false else s

/-- A SNAP husk that is no duplicate acts by its AT (R540). -/
def State.snapAct (s : State) (origin id at' : Nat) : State :=
  if !s.flag R.SNP_CTL F.SNP_CTL_POD_EN then s
  else if at' = 0 then s.latch 5 (some (origin, id)) false
  else if s.beatNow < at' then s.snapArm at' (some (origin, id))
  else { s with snap := { s.snap with late := some (origin, id) } }

/-- A SNAP husk is received on a port (R540): a duplicate is counted; any other is forwarded, with HOPS raised (R391),
and acts. -/
def State.snapRx (s : State) (p : Nat) (h : Husk) : State :=
  let id := Word.ofBytes (h.payload.take 2)
  let origin := Word.ofBytes ((h.payload.drop 2).take 1) % 64
  let at' := Word.ofBytes ((h.payload.drop 8).take 6)
  if Tab.get (fun _ => 0) s.snap.seen origin = id + 1 then s.bump R.SNP_CNT F.SNP_CNT_DUP
  else
    let s : State := { s with snap := { s.snap with seen := Tab.set (fun _ => 0) s.snap.seen origin (id + 1) } }
    let onward := s.podPorts.filter (· != p)
    let s : State := if s.flag R.SNP_CTL F.SNP_CTL_POD_FWD then
        let start := if 63 < h.hops + 1 ∧ onward ≠ [] then s.auditHusk p 13 h.header else s
        onward.foldl (fun s q =>
          if 63 < h.hops + 1 then s.bump R.TGL_CNT F.TGL_CNT_HOPS_DROP
          else (s.bump (R.TGL_PORT_CNT2 q) F.TGL_PORT_CNT2_FORWARDED).enqueue q (.husk { h with hops := h.hops + 1 })) start
      else s
    s.snapAct origin id at'

/-- Where a pod address for a dump or a payload leads: this module's shared buffer (false), or the host window of the
host bridge (true); with the module and the local address (R455, R541). -/
def State.dumpTarget (s : State) (pa : Nat) : Option (Bool × Nat × Nat) :=
  let m := pa / 2 ^ 41
  let a := pa % 2 ^ 41
  if m = s.ownId ∧ regionOf a = .buffer then some (false, m, a)
  else if s.bridge = some m ∧ regionOf a = .host then some (true, m, a)
  else none

/-- The requester of dumps and of the firmware's own accesses: context 0, class RGL_SRC_CLASS.FW (R541). -/
def State.fwAccess (s : State) : Access := ⟨0, s.fwClass, 0, 300000⟩

/-- One part of a dump is written, unless the dump has ended: its status so far, and the writes unanswered. -/
def State.dumpPart (w : Waiter) (pa : Nat) (acc : Nat × Nat × State) (part : Nat × List Byte) : Nat × Nat × State :=
  let (status, left, s) := acc
  if status != scDONE then acc
  else
    match s.dumpTarget (pa + part.1) with
    | none => (scDESCRIPTOR_ERROR, left, s)
    | some (false, _, a) =>
      let (c, s) := s.memWrite s.fwAccess a (allBytes part.2)
      (c, left, s)
    | some (true, m, a) =>
      (scDONE, left + 1, s.sendRequest { Husk.zero with
        typ := Husk.WR, dest := m, cls := s.fwClass, len := part.2.length, rid := Config.packageRid.toNat, addr := a,
        payload := part.2 } w)

/-- A dump writes its bytes to a pod address in parts of at most 16 KiB (R541). -/
def State.dumpWrite (s : State) (pa : Nat) (bs : List Byte) (w : Waiter) : Nat × Nat × State :=
  ((cutRun 16384 pa bs.length).map fun u => (u.1 - pa, (bs.drop (u.1 - pa)).take u.2)).foldl (State.dumpPart w pa)
    (scDONE, 0, s)

/-- The header of a snapshot image (R541). -/
def State.snapHeader (s : State) (entries written : Nat) : List Byte :=
  let f := fun x => s.fld R.SNP_STATUS x
  Word.bytes 8 (f F.SNP_STATUS_SNAP_ID + 2 ^ 16 * f F.SNP_STATUS_ORIGIN + 2 ^ 24 * f F.SNP_STATUS_TRIGGER +
    2 ^ 28 * f F.SNP_STATUS_LATE) ++ Word.bytes 8 s.snap.beat ++ Word.bytes 8 s.snap.ns ++
    Word.bytes 8 (entries + 2 ^ 32 * written) ++ List.replicate 32 0

/-- The image of the held snapshot in so many bytes, with its entries and those it holds (R541): a header that does not
fit is left out with everything else. -/
def State.snapImage (s : State) (len : Nat) : Nat × Nat × List Byte :=
  let n := copyOffsets.length
  let k := min n ((len - 64) / 16)
  (n, k, if len < 64 then []
    else s.snapHeader n k ++ (copyOffsets.take k).flatMap fun a => Word.bytes 8 a ++ Word.bytes 8 (s.copyOf a).toNat)

/-- A dump ends (R537, R541). -/
def State.snapDumpEnd (s : State) : State :=
  match s.snap.dump with
  | some (n, k, status, 0) =>
    let free := s.flag R.SNP_CTL F.SNP_CTL_AUTO_REL || s.snap.release
    let s : State := { s with snap := { s.snap with dump := none, release := false } }
    let r := R.SNP_STATUS
    let s := (((s.setFld r F.SNP_STATUS_STATE (if free then snEMPTY else snHELD)).setFld r F.SNP_STATUS_DUMP_DONE 1).setFld
      r F.SNP_STATUS_TRUNC (if k < n then 1 else 0)).setFld r F.SNP_STATUS_DUMP_STATUS status
    s.raise 777
  | _ => s

/-- What a write of SNP_DUMP_CTL does (R541): a GO outside HELD is discarded. -/
def State.snapDump (s : State) (v : Word) : State :=
  if F.SNP_DUMP_CTL_GO.isSet v ∧ s.snapState = snHELD then
    let (n, k, bs) := s.snapImage (s.fld R.SNP_DUMP_CTL F.SNP_DUMP_CTL_LEN)
    let s := ((s.setFld R.SNP_STATUS F.SNP_STATUS_STATE snDUMPING).setFld R.SNP_STATUS F.SNP_STATUS_DUMP_DONE
      0).setFld R.SNP_STATUS F.SNP_STATUS_TRUNC 0
    let pa := 64 * s.fld R.SNP_DUMP_ADDR F.SNP_DUMP_ADDR_ADDR
    let (status, left, s) := s.dumpWrite pa bs (.dump false)
    { s with snap := { s.snap with dump := some (n, k, status, left) } }
  else s

/-- A journal entry as 48 bytes (R544). -/
def JournalEntry.bytes (e : JournalEntry) : List Byte :=
  Word.bytes 8 e.seq ++ Word.bytes 8 e.beat ++
    Word.bytes 8 (e.off + 2 ^ 32 * e.rid + 2 ^ 46 * e.module + (if e.remote then 2 ^ 52 else 0) +
      (if e.i3c then 2 ^ 53 else 0)) ++
    Word.bytes 8 e.old.toNat ++ Word.bytes 8 e.new.toNat ++ Word.bytes 8 e.ns

/-- A journal dump ends (R547). -/
def State.journalDumpEnd (s : State) : State :=
  match s.snap.journalDump with
  | some (first, status, 0) =>
    let s : State := { s with snap := { s.snap with journalDump := none } }
    let s := ((s.setFld R.JRN_DUMP_CNT F.JRN_DUMP_CNT_BUSY 0).setFld R.JRN_DUMP_CNT F.JRN_DUMP_CNT_STATUS status).setFld
      R.JRN_DUMP_STATUS F.JRN_DUMP_STATUS_FIRST first
    s.raise 785
  | _ => s

/-- What a write of JRN_DUMP_CTL does (R547): the entries held from FIRST_SEQ on, at most COUNT of them. A FIRST_SEQ that
is not below NEXT_SEQ completes at once. -/
def State.journalDump (s : State) (v : Word) : State :=
  if F.JRN_DUMP_CTL_GO.isSet v ∧ s.flag R.JRN_DUMP_CNT F.JRN_DUMP_CNT_BUSY = false then
    let want := s.fld R.JRN_DUMP_CTL F.JRN_DUMP_CTL_FIRST_SEQ
    let s := s.setFld R.JRN_DUMP_CNT F.JRN_DUMP_CNT_BUSY 1
    if s.fld R.JRN_STATUS F.JRN_STATUS_NEXT_SEQ ≤ want then
      State.journalDumpEnd { s with snap := { s.snap with journalDump := some (want, scDONE, 0) } }
    else
      let l := (s.journal.reverse.filter fun e => decide (want ≤ e.seq)).take (s.fld R.JRN_DUMP_CNT F.JRN_DUMP_CNT_COUNT)
      let first := (l.head?.map JournalEntry.seq).getD want
      let pa := 64 * s.fld R.JRN_DUMP_ADDR F.JRN_DUMP_ADDR_ADDR
      let (status, left, s) := s.dumpWrite pa (l.flatMap JournalEntry.bytes) (.dump true)
      { s with snap := { s.snap with journalDump := some (first, status, left) } }
  else s

/-- A write of a dump is answered (R541, R547). -/
def State.dumpAnswer (s : State) (journal : Bool) (status : Nat) : State :=
  if journal then
    { s with snap := { s.snap with
        journalDump := s.snap.journalDump.map fun d => (d.1, if d.2.1 = scDONE then status else d.2.1, d.2.2 - 1) } }
  else
    { s with snap := { s.snap with
        dump := s.snap.dump.map fun d => (d.1, d.2.1, if d.2.2.1 = scDONE then status else d.2.2.1, d.2.2.2 - 1) } }

/-- The flash journal area: its start, its sectors, and the entries of one (R546). -/
def jrnBase := 0xC00000
def jrnSectors := 128
def jrnEntries := 1365

/-- The address of an entry of a sector. -/
def jrnEntryAt (sector i : Nat) : Nat := jrnBase + flashSector * sector + 16 + 48 * i

/-- The CRC-32C of a sector's entries (R546). -/
def State.jrnCrc (s : State) (sector : Nat) : Nat := (crc32c (s.flashBytes (jrnEntryAt sector 0) (48 * jrnEntries))).toNat

/-- The sector and place of the next entry: a full sector is followed by the oldest, which is erased first. -/
def State.jrnRoom (s : State) (seq : Nat) : State :=
  let s : State :=
    if s.jrnAt.2 < jrnEntries then s else { s with jrnAt := ((s.jrnAt.1 + 1) % jrnSectors, 0) }
  if s.jrnAt.2 = 0 then
    let a := jrnBase + flashSector * s.jrnAt.1
    (s.flashEraseAt a).flashStore a (Word.bytes 8 seq)
  else s

/-- One entry goes to flash (R546). -/
def State.jrnStore (s : State) (e : JournalEntry) : State :=
  let s := s.jrnRoom e.seq
  let s := s.flashStore (jrnEntryAt s.jrnAt.1 s.jrnAt.2) e.bytes
  let s := s.flashStore (jrnBase + flashSector * s.jrnAt.1 + 8) (Word.bytes 8 (s.jrnCrc s.jrnAt.1))
  State.setFld { s with jrnAt := (s.jrnAt.1, s.jrnAt.2 + 1), flushed := e.seq + 1 } R.JRN_CNT F.JRN_CNT_FLASHED e.seq

/-- The entries that have not reached flash, oldest first. -/
def State.jrnWaiting (s : State) : List JournalEntry := s.journal.reverse.filter fun e => decide (s.flushed ≤ e.seq)

/-- PWR, or MGT, is restarting (R479). -/
def State.pwrRestarts (s : State) : Bool := (s.core (s.coreFor 1)).state != csRUNNING

/-- Entries are copied to flash (R546), while R529 allows, and not past the end of the sector in hand. -/
def State.journalFlush (s : State) (n : Nat) : State :=
  if s.flashOk then
    let room := if s.jrnAt.2 < jrnEntries then jrnEntries - s.jrnAt.2 else jrnEntries
    (s.jrnWaiting.take (min n room)).foldl State.jrnStore s
  else s

/-- The last entry in a sector whose header CRC is correct: its SEQ, and its place (R545). -/
def State.jrnLast (s : State) (sector : Nat) : Option (Nat × Nat) :=
  let a := jrnBase + flashSector * sector
  if Word.ofBytes (s.flashBytes (a + 8) 8) = s.jrnCrc sector then
    ((List.range jrnEntries).reverse.find? fun i =>
      (s.flashBytes (jrnEntryAt sector i) 48).any fun b => b != 0xFF#8).map fun i =>
        (Word.ofBytes (s.flashBytes (jrnEntryAt sector i) 6), i)
  else none

/-- At a cold start SEQ goes on from the last entry in flash (R545). -/
def State.jrnStart (s : State) : State :=
  let best := (List.range jrnSectors).foldl (fun (b : Option (Nat × Nat × Nat)) k =>
    match s.jrnLast k, b with
    | some (q, i), some (q', _, _) => if q' < q then some (q, k, i) else b
    | some (q, i), none => some (q, k, i)
    | none, _ => b) none
  match best with
  | some (q, k, i) =>
    (State.setFld { s with jrnAt := (k, i + 1), flushed := q + 1 } R.JRN_STATUS F.JRN_STATUS_NEXT_SEQ (q + 1)).setFld
      R.JRN_CNT F.JRN_CNT_FLASHED q
  | none => s

/-- The register of a wear indicator. -/
def wearReg : Wearing → Nat
  | .age d k => R.WEAR_AGE d k
  | .stack m => R.WEAR_STK m
  | .link p => R.WEAR_LNK p
  | .charge d => R.WEAR_CHG d
  | .flash => R.WEAR_FLASH

/-- The code of a wear indicator in WORST. -/
def wearCode : Wearing → Nat
  | .age _ _ => 1
  | .stack _ => 2
  | .link _ => 3
  | .charge _ => 4
  | .flash => 5

/-- The limit of a wear indicator (R548). -/
def State.wearLimit (s : State) : Wearing → Nat
  | .age _ _ => 40000
  | .stack _ => 1000000
  | .link p => s.fld (R.LNK_CFG p) F.LNK_CFG_MIN_EYE
  | .charge _ => 60000
  | .flash => 100000

/-- Every wear indicator. -/
def wearings : List Wearing :=
  ((finList 8).flatMap fun d => (finList 64).map fun k => .age d k) ++ (finList 24).map .stack ++ (finList 32).map .link ++
    (finList 8).map .charge ++ [.flash]

/-- The daily values of an indicator, oldest first. -/
def State.wearDays (s : State) (w : Wearing) : List Nat := Tab.get (fun _ => []) s.wear.daily (wearReg w)

/-- 4,495 times the least-squares slope of 30 daily values, per day (R549). -/
def slopeSum (l : List Nat) : Int := (l.zipIdx.map fun e => (2 * (e.2 : Int) - 29) * e.1).sum

/-- A register of an indicator shows its latest value, and its slope once 30 values stand (R554). -/
def State.showWear (s : State) (w : Wearing) : State :=
  let l := s.wearDays w
  let s := s.setFld (wearReg w) F.WEAR_FLASH_VALUE (l.getLastD 0)
  s.setFld (wearReg w) F.WEAR_FLASH_SLOPE (if l.length = 30 then (256 * slopeSum l / 4495 % 2 ^ 32).toNat else 0)

/-- An indicator takes its daily value (R548). -/
def State.wearDaily (s : State) (e : Wearing × BitVec 32) : State :=
  let l := s.wearDays e.1 ++ [e.2.toNat]
  State.showWear { s with wear := { s.wear with
    daily := Tab.set (fun _ => []) s.wear.daily (wearReg e.1) (l.drop (l.length - 30)) } } e.1

/-- The months that an indicator leaves, as a fraction, with its code (R549): none without 30 values, or where it does
not move toward its limit. An indicator past its limit leaves none. -/
def State.wearMonths (s : State) (w : Wearing) : Option (Nat × Nat × Nat) :=
  let l := s.wearDays w
  let falls := match w with | .link _ => true | _ => false
  let slope := if falls then -slopeSum l else slopeSum l
  if l.length = 30 ∧ 0 < slope then
    let value := l.getLastD 0
    let gap := if falls then value - s.wearLimit w else s.wearLimit w - value
    some (gap * 4495 * 100, slope.toNat * 3044, wearCode w)
  else none

/-- The least of some fractions, the first of equal ones. -/
def leastMonths : List (Nat × Nat × Nat) → Option (Nat × Nat × Nat)
  | [] => none
  | x :: l =>
    match leastMonths l with
    | some y => if y.1 * x.2.1 < x.1 * y.2.1 then some y else some x
    | none => some x

/-- PWR computes the end of life once an hour (R549); HOURS counts the hours powered. -/
def State.wearCompute (s : State) : State :=
  if s.pwrRestarts then s
  else
    let r := R.WEAR_STATUS
    let hours := s.fld r F.WEAR_STATUS_HOURS
    let before := s.fld r F.WEAR_STATUS_EOL_MONTHS
    let rated := if hours < 720 then [(60 * 1461 - 2 * hours, 1461, 0)] else []
    let (eol, worst) := match leastMonths (rated ++ wearings.filterMap s.wearMonths) with
      | some (n, d, c) => (min 254 (n / d), c)
      | none => (255, 0)
    let s := ((s.setFld r F.WEAR_STATUS_EOL_MONTHS eol).setFld r F.WEAR_STATUS_WORST worst).setFld r F.WEAR_STATUS_HOURS
      (min F.WEAR_STATUS_HOURS.max (hours + 1))
    let t := s.fld R.WEAR_CTL F.WEAR_CTL_EOL_THRESH
    if t ≤ before ∧ eol < t then s.raise 788 else s

/-- The wear records go to flash (R550), while R529 allows. -/
def State.wearSave (s : State) : State :=
  if s.flashOk then
    { s with wear := { s.wear with saved := some (s.fld R.WEAR_STATUS F.WEAR_STATUS_HOURS, s.wear.daily) } }
  else s

/-- The sprout restores the wear records (R550). -/
def State.wearRestore (s : State) : State :=
  match s.wear.saved with
  | some (hours, daily) =>
    let s : State := { s with wear := { s.wear with daily := daily } }
    wearings.foldl State.showWear (s.setFld R.WEAR_STATUS F.WEAR_STATUS_HOURS hours)
  | none => s

end Sys2Proof.Machine
end

