-- ==== Sys2Proof/Machine/Germ.lean ====
section
/-!
DEFINITION. Firmware images and their check (R461 to R463), the defect record in flash (R502, R503), the spare map of the
banks (R121), the cold and the warm reset (R8, R486), and the germ (R464).
-/
namespace Sys2Proof.Machine

/-- A little-endian field of some bytes. -/
def fieldAt (l : List Byte) (off n : Nat) : Nat := Word.ofBytes ((l.drop off).take n)

/-- Bytes [lo, hi) are 0. -/
def zeroAt (l : List Byte) (lo hi : Nat) : Bool := ((l.drop lo).take (hi - lo)).all fun b => b == 0#8

/-- The header of a firmware image, the body after it (R461). -/
def imageHeader := 7552

/-- KIND of an image. -/
def ikSPROUT := 1
def ikFULL := 2

/-- The targets of the segments in use (R462). -/
def imageTargets (l : List Byte) : List Nat := (List.range (min 5 (fieldAt l 24 4))).map fun i => fieldAt l (128 + 16 * i) 1

/-- A segment entry keeps its reserved bytes at 0 and names a target; one that is not in use is 0 (R461, R462). -/
def segmentGood (l : List Byte) (i : Nat) : Bool :=
  let e := (l.drop (128 + 16 * i)).take 16
  if i < fieldAt l 24 4 then decide (fieldAt e 0 1 ≤ 4) && zeroAt e 1 4 else zeroAt e 0 16

/-- Step 1 of R463: the ranges and reserved bytes of R461 and R462, for an image that must be of a kind. -/
def imageFormat (l : List Byte) (kind : Nat) : Bool :=
  let body := fieldAt l 28 4
  fieldAt l 0 4 == 0x4D524946 && fieldAt l 4 2 == kind && fieldAt l 6 2 == 1 &&
    decide (1 ≤ fieldAt l 24 4) && decide (fieldAt l 24 4 ≤ 5) && decide (1 ≤ body) &&
    decide (body ≤ if kind = ikSPROUT then 1048576 else 25165824) && decide (l.length = imageHeader + body) &&
    zeroAt l 96 128 && zeroAt l 208 320 && zeroAt l 7539 7552 && (List.range 5).all (segmentGood l) &&
    (if kind = ikSPROUT then zeroAt l 16 24 && imageTargets l == [0]
      else decide (fieldAt l 16 2 ≤ fieldAt l 18 2) && decide (imageTargets l).Nodup)

/-- Every segment that a mode needs is present, and each lies within the body (R463, step 6). -/
def imageSegments (l : List Byte) (unified : Bool) : Bool :=
  (if unified then [4] else [0, 1, 2, 3]).all (fun t => (imageTargets l).contains t) &&
    (List.range (fieldAt l 24 4)).all fun i =>
      decide (fieldAt l (132 + 16 * i) 4 + fieldAt l (136 + 16 * i) 4 ≤ fieldAt l 28 4)

/-- The measurement of an image (R463). -/
def imageMeasure (l : List Byte) : List Byte := Sha3.sha3 (l.take 320)

/-- What a verifier reports of an image (R463): the step that fails, 0 for none. -/
def State.imageCheck (s : State) (l : List Byte) (kind : Nat) : Nat :=
  let pk := (l.drop 320).take 2592
  if !imageFormat l kind then 1
  else if Sha3.sha3 pk != s.fuses.keyHash then 2
  else if !Config.mldsaVerify pk (imageMeasure l) ((l.drop 2912).take 4627) then 3
  else if Sha3.sha3 (l.drop imageHeader) != (l.drop 32).take 64 then 4
  else if fieldAt l 12 4 < (if kind = ikSPROUT then s.fuses.sproutSvn else s.fuses.fullSvn) then 5
  else if kind = ikFULL ∧ imageSegments l s.fw.unified = false then 6
  else 0

/-- What the header of an image says. -/
def imageInfo (l : List Byte) : ImageInfo :=
  ⟨fieldAt l 8 4, fieldAt l 12 4, fieldAt l 16 2, fieldAt l 18 2, fieldAt l 20 4, imageMeasure l⟩

/-- The image in a sprout slot, if it verifies (R464, R483). -/
def State.sproutSlot (s : State) (slot : Nat) : Option ImageInfo :=
  let base := 0x200000 * slot
  let body := Word.ofBytes (s.flashBytes (base + 28) 4)
  if body ≤ 1048576 then
    let l := s.flashBytes base (imageHeader + body)
    if s.imageCheck l ikSPROUT = 0 then some (imageInfo l) else none
  else none

/-- A defect entry as 16 bytes (R503). -/
def DefectEntry.bytes (e : DefectEntry) : List Byte :=
  Word.bytes 8 (e.kind + 2 ^ 4 * e.source + 2 ^ 8 * e.a + 2 ^ 16 * e.b) ++ Word.bytes 8 e.beat

/-- The defect entry that 16 bytes spell. -/
def defectOf (l : List Byte) : DefectEntry :=
  let w := fieldAt l 0 8
  ⟨Word.slice w 3 0, Word.slice w 7 4, Word.slice w 12 8, Word.slice w 28 16, fieldAt l 8 6⟩

/-- The defect-record region and the entries it holds (R502). -/
def defectBase := 0x800000
def defectRoom := 4096

/-- The entries in the defect record, in order. -/
def State.defectRecord (s : State) : List DefectEntry :=
  (((List.range defectRoom).map fun i => s.flashBytes (defectBase + 16 * i) 16).takeWhile fun l =>
    l.any fun b => b != 0xFF#8).map defectOf

/-- SCH, or MGT, writes the waiting entries (R502). -/
def State.defectFlush (s : State) (n : Nat) : State :=
  let now := s.boot.waiting.take n
  let s := now.zipIdx.foldl (fun (s : State) e =>
    s.flashStore (defectBase + 16 * (s.boot.recorded + e.2)) e.1.bytes) s
  { s with boot := { s.boot with waiting := s.boot.waiting.drop n, recorded := s.boot.recorded + now.length } }

/-- The physical banks of a die that are disabled, with the spares that replace the logical ones (R121, R501). -/
def spareMap (bad : List Nat) : List (Nat × Nat) :=
  ((List.range 4096).filter bad.contains).zip (((List.range 128).map (4096 + ·)).filter fun b => !bad.contains b)

/-- The banks of a die are placed around those that are disabled. -/
def State.placeBanks (s : State) (d : Nat) (bad : List Nat) : State :=
  { s with buffer := { s.buffer with
      bankOf := (spareMap bad).foldl (fun t e => Tab.set bankDefault t (4096 * d + e.1) e.2)
        (s.buffer.bankOf.clear fun k => k / 4096 == d) } }

/-- The units of a type that the fuses mark bad, by INDEX_A, as INDEX_B. -/
def State.fuseBad (s : State) (kind a : Nat) : List Nat :=
  (s.fuses.bad.filter fun e => e.1 == kind && e.2.1 == a).map fun e => e.2.2

/-- A firmware core runs, or does not (R438, R481). -/
def State.setCoreState (s : State) (c st : Nat) : State :=
  let s := s.setCore c { s.core c with state := st }
  let s := s.setFld (R.EIC_C_STATUS c) F.EIC_C_STATUS_IN_RESET (if st = csRUNNING then 0 else 1)
  if st = csRUNNING then s else s.setFld (R.EIC_C_STATUS c) F.EIC_C_STATUS_ASLEEP 0

/-- The germ on core 0 (R464): the bank map of the fuses, the defect record, and the sprout from slot A or B. A module
with BSCAN_EN high, or without REFCLK, stays in GERM (R577, R584). -/
def State.germBoot (s : State) : State :=
  let s := s.setCoreState 0 csRUNNING
  if s.pins.bscan ∨ s.pins.refclk = false then s
  else
    let s := (List.range 8).foldl (fun (s : State) d => s.placeBanks d (s.fuseBad dkBANK d)) s
    let known := s.defectRecord
    let s : State := { s with boot := { s.boot with known := known, recorded := known.length } }
    let found := if s.boot.sfdp then
        match s.sproutSlot 0 with
        | some i => some (0, i)
        | none => (s.sproutSlot 1).map fun i => (1, i)
      else none
    match found with
    | some (slot, i) =>
      let s : State := { s with fw := { s.fw with sprout := some i }, power := { s.power with dieRails := true } }
      (s.setFld R.TOP_STATUS F.TOP_STATUS_SPROUT_SLOT slot).enterTop stSPROUT
    | none => State.fail { s with fw := { s.fw with loop := true } } fcSPROUT

/-- The module after a cold reset (R8, R514): flash, fuses and what else needs no power are kept. -/
def State.coldReset (s : State) (pins : PowerPins) : State :=
  State.germBoot (State.jrnStart { State.reset with
    fuses := s.fuses, flash := s.flash, out := s.out, pending := s.pending, free := s.free,
    wear := ⟨[], s.wear.saved⟩,
    power := { State.reset.power with lastOff := s.power.lastOff },
    pins := { State.reset.pins with refclk := s.pins.refclk, straps := pins.addr, bscan := pins.bscan },
    boot := { State.reset.boot with sfdp := pins.sfdp } })

/-- The fields that show what stays powered through a warm reset: power stages (R512), the hold-up bank, site rails
(R515). -/
def State.keepPower (s old : State) : State :=
  let keep := fun (s : State) (r : Nat) (f : Fld) => s.setFld r f (old.fld r f)
  let s := keep (keep (keep s R.PWR_STATUS F.PWR_STATUS_STAGES_OK) R.PWR_STATUS F.PWR_STATUS_HOLDUP_READY) R.PWR_HOLDUP
    F.PWR_HOLDUP_STATE
  (List.range 8).foldl (fun s d => keep s (R.TDI_SITE_STATUS d) F.TDI_SITE_STATUS_POWERED) s

/-- A warm reset (R8, R486): the journal ring and SEQ survive it (R545), and so do memory contents, local time, and the
defect entries that wait for the flash; no work leaves a record. -/
def State.warmReset (s : State) : State :=
  if s.pins.bscan then s
  else
    let t : State := { State.reset with
      fuses := s.fuses, now := s.now, flash := s.flash, dram := s.dram, sram := s.sram, out := s.out,
      pending := s.pending, free := s.free, journal := s.journal, flushed := s.flushed, jrnAt := s.jrnAt,
      wear := ⟨[], s.wear.saved⟩,
      buffer := { State.reset.buffer with valid := s.buffer.valid, syndrome := s.buffer.syndrome },
      stackState := { State.reset.stackState with syndrome := s.stackState.syndrome, tag := s.stackState.tag },
      power := { s.power with moduleOt := [], hottest := none },
      pins := { s.pins with reply := none },
      boot := { State.reset.boot with
        sfdp := s.boot.sfdp, portsFree := s.boot.portsFree, waiting := s.boot.waiting } }
    ((t.setReg R.JRN_STATUS (s.reg R.JRN_STATUS)).keepPower s).germBoot

/-- What a write of TOP_CTL does (R486). -/
def State.topCtl (s : State) (v : Word) : State :=
  if F.TOP_CTL_WARM_RESET.isSet v ∧ F.TOP_CTL_KEY.of v = 0xD824 then s.warmReset else s

end Sys2Proof.Machine
end

