-- ==== Sys2Proof/Machine/Fw.lean ====
section
/-!
DEFINITION. The firmware cores and their restarts (R478 to R480), the course of an activation (R475 to R477), and the
mailboxes: memory, GO, ACK, checks and responses (R446 to R453).
-/
namespace Sys2Proof.Machine

/-- The requester identity of a firmware core (R381). -/
def coreRid (c : Nat) : Nat := 1024 + c

/-- The mailboxes. -/
def mbBULK := 16
def mbIDLE := 0
def mbBUSY := 1
def mbDONE := 2

/-- Offsets in a mailbox's memory (R458). -/
def mbRequest := 0
def mbPayload := 0x40
def mbResponse := 0x2000
def mbAnswer := 0x2040

/-- What an unlisted byte of mailbox memory reads as. -/
def mailDefault (_ : Nat) : Byte := 0

/-- Bytes of a mailbox's memory. -/
def State.mailBytes (s : State) (i off n : Nat) : List Byte := readCells mailDefault s.fw.mail (0x4000 * i + off) n

/-- The state with bytes of it replaced. -/
def State.mailStore (s : State) (i off : Nat) (bs : List Byte) : State :=
  { s with fw := { s.fw with mail := writeCells mailDefault s.fw.mail (0x4000 * i + off) bs } }

/-- A word of the request header (R447). -/
def State.mbWord (s : State) (i w : Nat) : Nat := Word.ofBytes (s.mailBytes i (mbRequest + 8 * w) 8)

/-- Fields of a request. -/
def State.mbMajor (s : State) (i : Nat) : Nat := Word.slice (s.mbWord i 0) 15 0
def State.mbOpcode (s : State) (i : Nat) : Nat := Word.slice (s.mbWord i 0) 47 32
def State.mbSeq (s : State) (i : Nat) : Nat := Word.slice (s.mbWord i 1) 31 0
def State.mbLen (s : State) (i : Nat) : Nat := Word.slice (s.mbWord i 1) 63 32
def State.mbBulk (s : State) (i : Nat) : Nat := Word.slice (s.mbWord i 2) 47 0

/-- `n` bytes of a host mailbox's request payload; missing bytes are 0 (R450). -/
def State.mbBytes (s : State) (i n : Nat) : List Byte :=
  let k := min n (s.mbLen i)
  s.mailBytes i mbPayload k ++ List.replicate (n - k) 0

/-- The state of a mailbox. -/
def State.mbState (s : State) (i : Nat) : Nat := s.fld (R.MBX_STATUS i) F.MBX_STATUS_STATE

/-- The state with that changed. -/
def State.setMbState (s : State) (i st : Nat) : State := s.setFld (R.MBX_STATUS i) F.MBX_STATUS_STATE st

/-- A response stands in a mailbox: STATE is DONE, and the vector is triggered when IRQ_EN is 1 (R440, R449). -/
def State.mbPresent (s : State) (i : Nat) : State :=
  let s := s.setMbState i mbDONE
  if s.flag (R.MBX_CFG i) F.MBX_CFG_IRQ_EN then s.hvTrigger (s.fld (R.MBX_CFG i) F.MBX_CFG_VECTOR) else s

/-- RESULT values of R448. -/
def rsOK := 0
def rsBUSY := 1
def rsVERSION_REFUSED := 2
def rsBAD_OPCODE := 3
def rsBAD_ARGUMENT := 4
def rsWRONG_STATE := 5
def rsVERIFY_FAILED := 6

/-- The VERSION of the image that answers (R450, R469). -/
def State.responder (s : State) : Nat :=
  match s.fw.running, s.fw.sprout with
  | some i, _ => i.version
  | none, some i => i.version
  | none, none => 0

/-- A response is written (R447, R449): MAJOR is the session's, or before a session the request's. -/
def State.mbRespond (s : State) (i status result : Nat) (payload : List Byte) : State :=
  let seq := s.mbSeq i
  let w0 := (s.fw.session.getD (s.mbMajor i)) % 2 ^ 16 + 2 ^ 16 * (Config.interfaceMinor s.responder).toNat +
    2 ^ 32 * s.mbOpcode i + 2 ^ 48 * status + 2 ^ 56 * result
  let s := s.mailStore i mbResponse (Word.bytes 8 w0 ++ Word.bytes 8 (seq + 2 ^ 32 * payload.length) ++ Word.bytes 8 0 ++
    Word.bytes 8 s.beatNow)
  let s := s.mailStore i mbAnswer payload
  let s := (s.setFld (R.MBX_STATUS i) F.MBX_STATUS_LAST_VALID 1).setFld (R.MBX_STATUS i) F.MBX_STATUS_LAST_SEQ seq
  s.mbPresent i

/-- The opcodes (R451). -/
def opVERSION := 0x1
def opHELLO := 0x2
def opATTEST := 0x3
def opID_KEY := 0x4
def opFW_LOAD := 0x10
def opFW_ACTIVATE := 0x11
def opFW_STATUS := 0x12
def opQUIESCE := 0x20
def opDEFECTS := 0x30

/-- A full image runs. -/
def State.fullRuns (s : State) : Bool := s.fw.running.isSome

/-- The core that serves an opcode (R451). -/
def State.serves (s : State) (op : Nat) : Nat :=
  if s.fw.unified || !s.fullRuns || s.fw.loop then 0
  else if op = opATTEST ∨ op = opID_KEY ∨ op = opFW_LOAD then 0
  else 2

/-- The states in which an opcode is answered (R451). FAULT counts as later than the others when a full image runs. -/
def State.answeredIn (s : State) (op : Nat) : Bool :=
  let st := s.topState
  let late := [stTRAINING, stFILLING, stSELFTEST, stLINKS_DEGRADED, stREADY, stQUIESCED].contains st ||
    (st == stFAULT && s.fullRuns)
  if op = opVERSION ∨ op = opATTEST ∨ op = opID_KEY then st != stGERM
  else if op = opHELLO then st == stAWAIT_FULL || late
  else if op = opFW_LOAD then [stAWAIT_FULL, stREADY, stLINKS_DEGRADED].contains st
  else if op = opFW_STATUS then [stREADY, stLINKS_DEGRADED, stQUIESCED].contains st
  else if op = opDEFECTS then [stSELFTEST, stLINKS_DEGRADED, stREADY, stQUIESCED].contains st || (st == stFAULT && s.fullRuns)
  else [stREADY, stLINKS_DEGRADED].contains st

/-- The opcodes of a mailbox. -/
def opKnown (i op : Nat) : Bool :=
  if i = mbBULK then op == opFW_LOAD
  else [opVERSION, opHELLO, opATTEST, opID_KEY, opFW_ACTIVATE, opFW_STATUS, opQUIESCE, opDEFECTS].contains op

/-- The module-wide opcodes (R451). -/
def opModuleWide (op : Nat) : Bool := op == opFW_LOAD || op == opFW_ACTIVATE || op == opQUIESCE

/-- Another module-wide request is BUSY. -/
def State.moduleWideBusy (s : State) (i : Nat) : Bool :=
  (List.range 17).any fun k => k != i && s.mbState k == mbBUSY && opModuleWide (s.mbOpcode k)

/-- The reserved fields of the payloads (R448, R472, R475, R504). -/
def State.mbReserved (s : State) (i : Nat) : Bool :=
  let op := s.mbOpcode i
  if op = opATTEST then !zeroAt (s.mbBytes i 72) 65 72
  else if op = opFW_ACTIVATE then Word.slice (fieldAt (s.mbBytes i 8) 0 8) 62 48 != 0
  else if op = opDEFECTS then !zeroAt (s.mbBytes i 8) 2 8
  else false

/-- A request is malformed (R448). -/
def State.mbMalformed (s : State) (i : Nat) : Bool :=
  Word.slice (s.mbWord i 2) 63 48 != 0 || Word.slice (s.mbWord i 3) 63 48 != 0 ||
    (if i = mbBULK then decide (67108864 < s.mbLen i)
      else decide (4096 < s.mbLen i) || s.mbBulk i != 0 || s.mbReserved i)

/-- What a request is answered with before its opcode is served (R448, R450, R451, R470, R480); none when it is served. -/
def State.mbRefusal (s : State) (i : Nat) : Option (Nat × Nat) :=
  let op := s.mbOpcode i
  let basic := op == opVERSION || op == opATTEST || op == opID_KEY
  if s.mbMalformed i then some (scDESCRIPTOR_ERROR, 0)
  else if (s.topState == stREFUSED || s.fw.loop) && !(basic && i != mbBULK) then some (scDONE, rsWRONG_STATE)
  else if !opKnown i op then some (scDONE, rsBAD_OPCODE)
  else if (s.core (s.serves op)).state != csRUNNING then some (scDONE, rsBUSY)
  else if !s.answeredIn op then some (scDONE, rsWRONG_STATE)
  else
    let refused := match s.fw.session with
      | some m => op != opVERSION && op != opHELLO && s.mbMajor i != m
      | none => false
    if refused then some (scDONE, rsVERSION_REFUSED)
    else if opModuleWide op && s.moduleWideBusy i then some (scDONE, rsBUSY)
    else none

/-- A GO (R449, R452): a repeated SEQ presents the existing response again; a request that is refused is answered. -/
def State.mbGo (s : State) (i : Nat) : State :=
  let r := R.MBX_STATUS i
  if s.mbState i = mbBUSY then s.bump r F.MBX_STATUS_GO_DISCARDED
  else if s.flag r F.MBX_STATUS_LAST_VALID && s.fld r F.MBX_STATUS_LAST_SEQ == s.mbSeq i then s.mbPresent i
  else
    let s := (s.setMbState i mbBUSY).raise (800 + i)
    match s.mbRefusal i with
    | some (status, result) => s.mbRespond i status result []
    | none => s

/-- A serving core takes the request of an opcode in a mailbox that is BUSY: it is refused or served. -/
def State.mbServe (s : State) (i op : Nat) (act : State → State) : State :=
  if s.mbState i = mbBUSY ∧ s.mbOpcode i = op ∧ (s.core (s.serves op)).state = csRUNNING then
    match s.mbRefusal i with
    | some (status, result) => s.mbRespond i status result []
    | none => act s
  else s

/-- The module proceeds after the response to QUIESCE (R402, R454): the quiesce is over and LEAVE is sent. -/
def State.quiesceLeave (s : State) : State :=
  match s.fw.quiesce with
  | some (_, _, true) => State.leavePod { s with fw := { s.fw with quiesce := none } }
  | _ => s

/-- A write of MBX_CTL (R449, R454). -/
def State.mbCtl (s : State) (i : Nat) (v : Word) : State :=
  let s := if F.MBX_CTL_ACK.isSet v ∧ s.mbState i = mbDONE then
      let s := s.setMbState i mbIDLE
      if s.fw.quiesce.any fun q => q.1 == i then s.quiesceLeave else s
    else s
  if F.MBX_CTL_GO.isSet v then s.mbGo i else s

/-- The limits that a quiesce has put on queues and rings are lifted. -/
def State.quiesceLift (s : State) : State :=
  s.movers.rings.foldl (fun (s : State) e => s.setRing e.1 { s.ring e.1 with limit := none }) { s with
    fw := { s.fw with quiesce := none } }

/-- A mailbox request that a restarting core was serving is lost (R453). -/
def State.mbLose (s : State) (c : Nat) : State :=
  (List.range 17).foldl (fun s i =>
    let op := s.mbOpcode i
    if s.mbState i = mbBUSY ∧ s.serves op = c then
      let s := (s.setMbState i mbIDLE).setFld (R.MBX_STATUS i) F.MBX_STATUS_LOST 1
      if op = opFW_LOAD then { s with fw := { s.fw with bulk := none } }
      else if op = opQUIESCE then s.quiesceLift
      else s
    else s) s

/-- Local time in fabric cycles that 10 s take (R480). -/
def tenSeconds := 12500000000

/-- The reasons of a restart (R481). -/
def crWATCHDOG := 1
def crCORE_FAULT := 2
def crACTIVATION := 3

/-- A core restarts alone (R439, R453, R478), or is held after eight restarts within 10 s (R480). -/
def State.coreRestart (s : State) (c reason : Nat) : State :=
  let s := (s.mbLose c).eicRestart c
  let s : State := if c = 0 then { s with fw := { s.fw with report := none } } else s
  let x := s.core c
  let recent := s.now :: x.recent.filter fun t => decide (s.now - t ≤ tenSeconds)
  let s := s.setCore c { x with reason := reason, restarts := x.restarts + 1, beat := s.beatNow, recent := recent }
  let s := (s.setCoreState c csRESTARTING).raise 817
  if recent.length < 8 then s
  else
    let s := ((s.setCoreState c csHELD).raise 818).fail fcCORE_HELD
    if c = 0 then State.setCoreState { s with fw := { s.fw with loop := true } } 0 csRUNNING else s

/-- An emergency is in force (R476, R521). -/
def State.emergency (s : State) : Bool := s.flag R.PWR_STATUS F.PWR_STATUS_EMERGENCY

/-- The core whose restart an emergency holds: PWR, or MGT in unified mode (R476, R521). -/
def State.pwrCore (s : State) : Nat := s.coreFor 1

/-- A core's watchdog expires, or the core faults (R478, R521). -/
def State.watchdog (s : State) (c : Nat) (fault : Bool) : State :=
  let reason := if fault then crCORE_FAULT else crWATCHDOG
  if (s.core c).state ≠ csRUNNING then s
  else if s.emergency && c == s.pwrCore then { s with fw := { s.fw with heldRestart := some (s.fw.heldRestart.getD reason) } }
  else s.coreRestart c reason

/-- A restart that an emergency held is made once it is cleared. -/
def State.releaseRestart (s : State) : State :=
  match s.fw.heldRestart with
  | some reason => State.coreRestart { s with fw := { s.fw with heldRestart := none } } s.pwrCore reason
  | none => s

/-- The cores that an activation restarts together, in order (R477). -/
def State.actStages (s : State) : List (List Nat) :=
  if s.fw.unified then [[0]] else [[1], [3, 4, 5, 6, 7, 8, 9, 10], [2], [0]]

/-- A stage of an activation begins, or the last one has ended (R477). -/
def State.actNext (s : State) (stage : Nat) : State :=
  match s.actStages[stage]? with
  | some l => l.foldl (fun s c => s.coreRestart c crACTIVATION) { s with fw := { s.fw with actStage := stage } }
  | none =>
    State.raise { s with fw := { s.fw with
      running := s.fw.staged, staged := none, act := acNONE, actStage := 0 } } 820

/-- An activation begins. -/
def State.actBegin (s : State) : State := State.actNext { s with fw := { s.fw with act := acACTIVATING } } 0

/-- The edge that an activation is armed for (R475, R476): an emergency makes it pending. -/
def State.actEdge (s : State) : State :=
  if s.fw.act = acARMED ∧ s.fw.actAt ≤ s.beatNow then
    if s.emergency then State.raise { s with fw := { s.fw with act := acPENDING } } 819 else s.actBegin
  else s

/-- A pending activation begins (R476). -/
def State.actDeferred (s : State) : State := if s.fw.act = acPENDING ∧ s.emergency = false then s.actBegin else s

/-- The doorbell FIFOs hand on what they held, when SCH runs again (R206). -/
def State.doorbellsResume (s : State) : State :=
  s.liveQueues.foldl (fun s k => (s.setRing k { s.ring k with known := s.qTail k }).showFifo k) s

/-- A restarting core runs again (R477, R478). -/
def State.coreRuns (s : State) (c : Nat) : State :=
  if (s.core c).state ≠ csRESTARTING then s
  else
    let s := s.setCoreState c csRUNNING
    let due := s.fw.act = acACTIVATING ∧
      (s.actStages.getD s.fw.actStage []).all fun k => (s.core k).state != csRESTARTING
    let stage := s.fw.actStage + 1
    let s := if c = s.coreFor 2 then s.doorbellsResume else s
    let s := if c = s.ctlCore then s.ctlResume else s
    if due then s.actNext stage else s

end Sys2Proof.Machine
end

