-- ==== Sys2Proof/Machine/Power.lean ====
section
/-!
DEFINITION. Power (19_power_thermal): stages and rails, the hardware limiter and the emergency (R519 to R521), input loss
and the hold-up flush (R522, R523), and the housekeeping round (R525 to R530).
-/
namespace Sys2Proof.Machine

/-- The state with the power logic's own state changed. -/
def State.onPower (s : State) (f : PowerState → PowerState) : State := { s with power := f s.power }

/-- The limiter acts (R520). -/
def State.acting (s : State) : Bool := s.flag R.PWR_STATUS F.PWR_STATUS_ACTING

/-- The conditions of the limiter, as bits of PRESENT. -/
def lcUV := 0
def lcOC := 1
def lcOT := 2

/-- The stretch level of a condition (R519). -/
def State.limitLevel (s : State) (c : Nat) : Nat :=
  s.fld R.PWR_LIM_CFG (if c = lcUV then F.PWR_LIM_CFG_UV_LEVEL else if c = lcOC then F.PWR_LIM_CFG_OC_LEVEL
    else F.PWR_LIM_CFG_OT_LEVEL)

/-- The engine clocks of a die are gated, or not (R24, R520). -/
def State.gateEngines (s : State) (d : Nat) (on : Bool) : State :=
  [2 * d, 2 * d + 1].foldl (fun (s : State) n => s.setFld (R.NME_STATUS n) F.NME_STATUS_CLK_GATED (if on then 1 else 0)) s

/-- The limiter acts on a new condition over a scope of dies (R519 to R521). -/
def State.limitAct (s : State) (c : Nat) (scope : List Nat) : State :=
  let r := R.PWR_LIM_STATUS
  let s := (s.setFld r F.PWR_LIM_STATUS_PRESENT (setBit (s.fld r F.PWR_LIM_STATUS_PRESENT) c)).setFld r
    F.PWR_LIM_STATUS_SEEN (setBit (s.fld r F.PWR_LIM_STATUS_SEEN) c)
  let s := s.bump r F.PWR_LIM_STATUS_ACTIONS
  let s := if s.emergency then s
    else (s.setFld R.PWR_STATUS F.PWR_STATUS_EMERGENCY 1).setFld R.PWR_EMERG F.PWR_EMERG_SINCE s.beatNow
  let s := s.setFld R.PWR_STATUS F.PWR_STATUS_ACTING 1
  let s := scope.foldl (fun s d => (s.clamp d).gateEngines d true) s
  let level := max (s.fld R.TGL_BEAT_STRETCH F.TGL_BEAT_STRETCH_LIMITER_LEVEL) (s.limitLevel c)
  ((s.setFld R.TGL_BEAT_STRETCH F.TGL_BEAT_STRETCH_LIMITER_LEVEL level).stretchPump).raise 32

/-- A condition of the limiter is present. -/
def State.limitPresent (s : State) (c : Nat) : Bool := bit (s.fld R.PWR_LIM_STATUS F.PWR_LIM_STATUS_PRESENT) c

/-- A comparator trips (R519). -/
def State.comparator (s : State) (c : Nat) : State :=
  if s.limitPresent c then s else s.limitAct c (List.range 8)

/-- A condition is no longer present. -/
def State.limitGone (s : State) (c : Nat) : State :=
  s.setFld R.PWR_LIM_STATUS F.PWR_LIM_STATUS_PRESENT (clearBit (s.fld R.PWR_LIM_STATUS F.PWR_LIM_STATUS_PRESENT) c)

/-- The number of a housekeeping channel (R525), and whether it is a module channel. -/
def channelOf (d j : Nat) : Nat := 48 * d + j
def isModuleChannel (j : Nat) : Bool := decide (44 ≤ j)

/-- Some channel of a die, or with `m` some module channel, has its OT condition. -/
def State.dieOt (s : State) (d : Nat) : Bool :=
  (List.range 44).any fun j => s.flag (R.HKP_CH_VAL d j) F.HKP_CH_VAL_OVER_THR

/-- OT_DIES and PRESENT follow the channels. -/
def State.showOt (s : State) : State :=
  let dies := (List.range 8).filter s.dieOt
  let s := s.setFld R.PWR_LIM_STATUS F.PWR_LIM_STATUS_OT_DIES (idMask dies)
  if dies.isEmpty && s.power.moduleOt.isEmpty then s.limitGone lcOT else s

/-- An OT condition of a channel begins (R519, R531). -/
def State.otBegin (s : State) (d j : Nat) : State :=
  let s := (s.setFld (R.HKP_CH_VAL d j) F.HKP_CH_VAL_OVER_THR 1).bump R.THM_CNT F.THM_CNT_OT
  let scope := if isModuleChannel j then List.range 8 else [d]
  let s := if isModuleChannel j then s.onPower fun x => { x with moduleOt := x.moduleOt ++ [channelOf d j] } else s
  let s := (s.limitAct lcOT scope).setFld R.THM_STATUS F.THM_STATUS_THROTTLED
    (scope.foldl setBit (s.fld R.THM_STATUS F.THM_STATUS_THROTTLED))
  (s.raise (if isModuleChannel j then 64 else 48 + d)).showOt

/-- An OT condition of a channel ends (R519). -/
def State.otEnd (s : State) (d j : Nat) : State :=
  ((s.setFld (R.HKP_CH_VAL d j) F.HKP_CH_VAL_OVER_THR 0).onPower fun x =>
    { x with moduleOt := x.moduleOt.filter (· != channelOf d j) }).showOt

/-- 5 °C in the LSB of a temperature. -/
def fiveDegrees : Int := 80

/-- A condition ends by itself (R519): a comparator releases, or a channel reads 5 °C or more below its THR. -/
def State.limiterRelease (s : State) : LimiterEnd → State
  | .uv => s.limitGone lcUV
  | .oc => s.limitGone lcOC
  | .channel d j =>
    let v := R.HKP_CH_VAL d.val j.val
    let t := asSigned 16 (s.fld v F.HKP_CH_VAL_VALUE)
    let thr := asSigned 16 (s.fld (R.HKP_CH_CFG d.val j.val) F.HKP_CH_CFG_THR)
    if s.flag v F.HKP_CH_VAL_OVER_THR && decide (t ≤ thr - fiveDegrees) then s.otEnd d.val j.val else s

/-- No condition has been present for HOLD (R521): clamps and gating are released. -/
def State.limiterExpire (s : State) : State :=
  if s.acting && s.fld R.PWR_LIM_STATUS F.PWR_LIM_STATUS_PRESENT == 0 then
    let s := (List.range 8).foldl (fun s d => (s.unclamp d).gateEngines d false) s
    (s.setFld R.PWR_STATUS F.PWR_STATUS_ACTING 0).setFld R.THM_STATUS F.THM_STATUS_THROTTLED 0
  else s

/-- An emergency is cleared (R521): by PWR, or by hardware. -/
def State.emergencyEnd (s : State) (byHw : Bool) : State :=
  if s.emergency && !s.acting then
    let s := (s.setFld R.PWR_STATUS F.PWR_STATUS_EMERGENCY 0).setFld R.PWR_EMERG F.PWR_EMERG_BY_HW (if byHw then 1 else 0)
    let s := ((s.setFld R.TGL_BEAT_STRETCH F.TGL_BEAT_STRETCH_LIMITER_LEVEL 0).stretchPump).raise 33
    s.releaseRestart
  else s

/-- A write of PWR_EMERG (R521). -/
def State.emergencyClear (s : State) (v : Word) : State :=
  if F.PWR_EMERG_CLEAR.isSet v then s.emergencyEnd false else s

/-- A power stage reports a fault (R512). -/
def State.stageFault (s : State) (n : Nat) : State :=
  let on := s.fld R.PWR_STATUS F.PWR_STATUS_STAGES_OK
  if bit on n then (s.setFld R.PWR_STATUS F.PWR_STATUS_STAGES_OK (clearBit on n)).raise 36 else s

/-- A rail raised at power good, SPROUT or TRAINING does not reach regulation in time (R515). -/
def State.railTimeout (s : State) : State :=
  if [stGERM, stSPROUT, stTRAINING].contains s.topState then s.fail fcTIMEOUT else s

/-- The limit of a start-up state passes (R485): it holds outside an emergency, and not in the halted germ (R584). -/
def State.stateTimeout (s : State) : State :=
  if [stGERM, stSPROUT, stTRAINING, stFILLING, stSELFTEST].contains s.topState && !s.emergency && !s.pins.bscan then
    s.fail fcTIMEOUT
  else s

/-- The causes of PWR_LAST_OFF. -/
def loTHERMAL := 3
def lossCode : LossCause → Nat
  | .inputLoss => 1
  | .overvoltage => 2
  | .removed => 4

/-- What the hold-up flush writes, in order (R522): PWR_LAST_OFF, the journal entries, the wear records, the defect
entries. `n` items are written in time, each while R529 allows. -/
def State.holdupFlush (s : State) (n : Nat) : State :=
  if !s.flashOk || n == 0 then s
  else
    let s := s.onPower fun x => { x with lastOff := some (s.reg R.PWR_LAST_OFF) }
    let entries := s.jrnWaiting.take (n - 1)
    let s := entries.foldl State.jrnStore s
    let left := n - 1 - entries.length
    if left = 0 then s else s.wearSave.defectFlush (min (left - 1) (defectRoom - s.boot.recorded))

/-- The registers of what loses its rails at input loss: the dies' blocks and the ports' lanes. -/
def unpowered (off : Nat) : Bool := decide (0x1000000 ≤ off) || (decide (0xb00000 ≤ off) && decide (off < 0xc00000))

/-- Everything that runs on the dies stops, and no completion, record or token is written (R522). -/
def State.shedLoads (s : State) : State :=
  let z := State.reset
  ({ s with
      lanes := [], ports := [], tags := [], tagWait := [], routeHeld := [], movers := z.movers, nme := z.nme,
      adt := z.adt, buffer := z.buffer, stackState := z.stackState, slices := [], sites := [], owed := [], dram := [], sram := [],
      power := { s.power with dieRails := false, stackRails := false } } : State).resetRegs unpowered

/-- Input loss (R522). -/
def State.inputLoss (s : State) (cause channel written : Nat) : State :=
  if s.power.lost ∨ s.power.on = false then s
  else
    let s := s.onPower fun x => { x with closed := false, lost := true, locked := cause == loTHERMAL }
    let s := s.shedLoads
    let s := s.setReg R.PWR_LAST_OFF (BitVec.ofNat 64 (cause * 2 ^ 60 + channel * 2 ^ 48 + s.beatNow))
    s.holdupFlush written

/-- The management domain is switched off, 20 ms after input loss (R522): only flash and fuses keep anything. -/
def State.holdupEnd (s : State) : State :=
  if s.power.lost then
    { State.reset with
      fuses := s.fuses, flash := s.flash, out := s.out, pending := s.pending, free := s.free, wear := ⟨[], s.wear.saved⟩,
      power := { State.reset.power with closed := false, on := false, locked := s.power.locked, lastOff := s.power.lastOff },
      pins := { State.reset.pins with refclk := s.pins.refclk }, boot := { State.reset.boot with sfdp := s.boot.sfdp } }
  else s

/-- The input returns (R523): a warm reset before the bank is exhausted, else a cold one. A thermal shutdown keeps the
switch open (R527). -/
def State.inputReturn (s : State) (pins : PowerPins) : State :=
  if s.power.locked then s
  else if s.power.on = false then s.coldReset pins
  else if s.power.lost then (s.onPower fun x => { x with closed := true, lost := false }).warmReset
  else s

/-- The input switch closes (R514, R527). -/
def State.switchClose (s : State) (fell : Bool) : State :=
  if s.power.closed || s.power.lost || (s.power.locked && !fell) then s
  else s.onPower fun x => { x with closed := true, locked := false }

/-- Power good (R514): once the input switch is closed. -/
def State.powerGood (s : State) (pins : PowerPins) : State := if s.power.closed then s.coldReset pins else s

/-- The states of PWR_HOLDUP. -/
def huCHARGING := 1
def huREADY := 2
def huHELD := 3

/-- PWR_HOLDUP.STATE follows what the bank does (R524, R530). -/
def State.showHoldup (s : State) : State :=
  s.setFld R.PWR_HOLDUP F.PWR_HOLDUP_STATE
    (if !s.flag R.PWR_STATUS F.PWR_STATUS_CHARGE_OK then huHELD
      else if s.flag R.PWR_STATUS F.PWR_STATUS_HOLDUP_READY then huREADY else huCHARGING)

/-- The bank reaches or leaves READY (R524). -/
def State.holdupChange (s : State) (ready : Bool) : State :=
  if s.flag R.PWR_STATUS F.PWR_STATUS_HOLDUP_READY == ready then s
  else ((s.setFld R.PWR_STATUS F.PWR_STATUS_HOLDUP_READY (if ready then 1 else 0)).showHoldup).raise 35

/-- KIND of a channel is a temperature: diode, thermistor, stack report or regulator sensor (R534). -/
def isTemperature (kind : Nat) : Bool := [1, 2, 3, 6].contains kind

/-- What a reading of a module channel shows elsewhere: the input (R532), the flash window (R529), the bank (R530). -/
def State.moduleReading (s : State) (k : Nat) (reading : Option Nat) : State :=
  let within := fun (lo hi : Int) => match reading with
    | some v => decide (lo ≤ asSigned 16 v) && decide (asSigned 16 v ≤ hi)
    | none => false
  let v := reading.getD 0
  match k with
  | 0 =>
    let ok := within 0 1360
    if s.flashOk == ok then s
    else (s.setFld R.PWR_STATUS F.PWR_STATUS_FLASH_WR_OK (if ok then 1 else 0)).raise 38
  | 4 => s.setFld R.PWR_STATUS F.PWR_STATUS_VIN v
  | 5 => s.setFld R.PWR_STATUS F.PWR_STATUS_IIN v
  | 8 => s.setFld R.PWR_HOLDUP F.PWR_HOLDUP_V v
  | 9 => (s.setFld R.PWR_STATUS F.PWR_STATUS_CHARGE_OK (if within 80 1120 then 1 else 0)).showHoldup
  | _ => s

/-- What a reading of a site diode shows in the TDI (R426). -/
def State.diodeReading (s : State) (d j : Nat) (reading : Option Nat) : State :=
  let r := R.TDI_DIODE d
  let (t, f) := if j = 0 then (F.TDI_DIODE_T0, F.TDI_DIODE_FAULT0) else (F.TDI_DIODE_T1, F.TDI_DIODE_FAULT1)
  match reading with
  | some v => (s.setFld r t v).setFld r f 0
  | none => s.setFld r f 1

/-- A channel's input is open or shorted (R525): it acts as no limit. -/
def State.channelFault (s : State) (d j : Nat) : State :=
  let r := R.HKP_CH_VAL d j
  let new := !s.flag r F.HKP_CH_VAL_FAULT
  let s := (s.setFld r F.HKP_CH_VAL_VALID 0).setFld r F.HKP_CH_VAL_FAULT 1
  let s := if s.flag r F.HKP_CH_VAL_OVER_THR then s.otEnd d j else s
  if new then (s.bump R.THM_CNT F.THM_CNT_FAULTS).raise (if j ≤ 1 then 84 + d else 56 + d) else s

/-- The limits of a channel act on a reading (R519, R527). -/
def State.channelLimits (s : State) (d j v written : Nat) : State :=
  let cfg := R.HKP_CH_CFG d j
  let t := asSigned 16 v
  let on := s.flag cfg F.HKP_CH_CFG_LIMIT_EN && isTemperature (s.fld cfg F.HKP_CH_CFG_KIND)
  let thr := s.fld cfg F.HKP_CH_CFG_THR
  let shut := s.fld cfg F.HKP_CH_CFG_SHUT
  let past := s.flag (R.HKP_CH_VAL d j) F.HKP_CH_VAL_OVER_THR
  let s :=
    if on && thr != 0 then
      if !past && decide (asSigned 16 thr ≤ t) then s.otBegin d j
      else if past && decide (t ≤ asSigned 16 thr - fiveDegrees) then s.otEnd d j
      else s
    else if past then s.otEnd d j
    else s
  if on && shut != 0 && decide (asSigned 16 shut ≤ t) then s.inputLoss loTHERMAL (channelOf d j) written else s

/-- The round ends with the last channel (R525, R533). -/
def State.roundEnd (s : State) : State :=
  let s := s.bump R.THM_CNT F.THM_CNT_ROUNDS
  let s := match s.power.hottest with
    | some (t, i) => (s.setFld R.THM_STATUS F.THM_STATUS_HOT_T (t % 2 ^ 16).toNat).setFld R.THM_STATUS F.THM_STATUS_HOT_CH i
    | none => s
  s.onPower fun x => { x with hottest := none }

/-- A valid temperature counts for HOT_T. -/
def State.noteHot (s : State) (d j v : Nat) : State :=
  if isTemperature (s.fld (R.HKP_CH_CFG d j) F.HKP_CH_CFG_KIND) then
    s.onPower fun x => { x with
      hottest := match x.hottest with
        | some (t, i) => if t < asSigned 16 v then some (asSigned 16 v, channelOf d j) else some (t, i)
        | none => some (asSigned 16 v, channelOf d j) }
  else s

/-- A channel of the housekeeping round is measured (R525). -/
def State.measure (s : State) (d j : Nat) (reading : Option Nat) (written : Nat) : State :=
  let cfg := R.HKP_CH_CFG d j
  let kind := s.fld cfg F.HKP_CH_CFG_KIND
  let go := fun (s : State) =>
    let reading := if kind = 3 then some (16 * s.fld (R.STK_STATUS (3 * d + (j - 5))) F.STK_STATUS_TEMP) else reading
    let s := if j ≤ 1 then s.diodeReading d j reading else s
    match reading with
    | none =>
      if kind = 1 ∨ kind = 2 then
        let s := s.channelFault d j
        if isModuleChannel j then s.moduleReading (4 * d + (j - 44)) none else s
      else s
    | some v =>
      let r := R.HKP_CH_VAL d j
      let s := ((s.setFld r F.HKP_CH_VAL_VALID 1).setFld r F.HKP_CH_VAL_FAULT 0).setFld r F.HKP_CH_VAL_VALUE v
      let s := if isModuleChannel j then s.moduleReading (4 * d + (j - 44)) (some v) else s
      (s.noteHot d j v).channelLimits d j v written
  let s := if s.flag cfg F.HKP_CH_CFG_EN && kind != 0 then go s else s
  if d = 7 ∧ j = 47 then s.roundEnd else s

/-- p_base of R517 in 1/10,000 W: V × I over the die and stack rail channels. -/
def State.basePower (s : State) : Int :=
  ((List.range 8).map fun d => ([8, 10, 12, 14, 16].map fun j =>
    asSigned 16 (s.fld (R.HKP_CH_VAL d j) F.HKP_CH_VAL_VALUE) *
      asSigned 16 (s.fld (R.HKP_CH_VAL d (j + 1)) F.HKP_CH_VAL_VALUE)).sum).sum

/-- site_w of R517, in W: p_in × eff rounded down, less p_base and the margin, and not below 0. -/
def State.siteWatts (s : State) : Nat :=
  let b := fun f => s.fld R.PWR_BUDGET f
  let eff := b F.PWR_BUDGET_EFF
  let stages := (bitsOf 8 (s.fld R.PWR_STATUS F.PWR_STATUS_STAGES_OK)).length
  let out := min (min (b F.PWR_BUDGET_P_MAX * eff) (s.fld R.PWR_STATUS F.PWR_STATUS_VIN * 3 * eff)) (132000 * stages) / 100
  (((out : Int) - b F.PWR_BUDGET_MARGIN_W) * 10000 - s.basePower).toNat / 10000

/-- r_d of R518. -/
def State.siteRequest (s : State) (d : Nat) : Nat :=
  max grantFloor (min (s.fld (R.TDI_PWR_STATUS d) F.TDI_PWR_STATUS_REQ_W) (s.fld (R.TDI_PWR_LIMIT d) F.TDI_PWR_LIMIT_MAX_W))

/-- The sites that hold a top die. -/
def State.topDies (s : State) : List Nat := (List.range 8).filter fun d => s.siteKind d == 1

/-- SITE_W is computed (R517); source 37 is raised when it falls below the sum of requests (R531). -/
def State.budget (s : State) : State :=
  let w := s.siteWatts
  let s := s.setFld R.PWR_BUDGET F.PWR_BUDGET_SITE_W (min F.PWR_BUDGET_SITE_W.max w)
  let short := decide (w < (s.topDies.map s.siteRequest).sum)
  let s' := s.onPower fun x => { x with short := short }
  if short && !s.power.short then s'.raise 37 else s'

/-- The grant of a site under R518. -/
def State.shareOf (s : State) (d : Nat) : Nat :=
  let w := s.fld R.PWR_BUDGET F.PWR_BUDGET_SITE_W
  let total := (s.topDies.map s.siteRequest).sum
  if total ≤ w then s.siteRequest d else s.siteRequest d * w / total

end Sys2Proof.Machine
end

