-- ==== Sys2Proof/Machine/Tdi.lean ====
section
/-!
DEFINITION. The top-die interface up to its command buffers (15_top_die_interface): command words and data flits as they
arrive, the violations that fence a port, and response words.
-/
namespace Sys2Proof.Machine

/-- OP of R414. -/
def tdRD := 1
def tdWR := 2
def tdAT := 3
def tdATR := 4
def tdFENCE := 5
def tdWAITTOK := 6

/-- The fields of a command word (R414). -/
def tdOp (w : BitVec 128) : Nat := Word.slice w.toNat 3 0
def tdHint (w : BitVec 128) : Nat := Word.slice w.toNat 5 4
def tdTag (w : BitVec 128) : Nat := Word.slice w.toNat 15 6
def tdLen (w : BitVec 128) : Nat := Word.slice w.toNat 21 16
def tdAop (w : BitVec 128) : Nat := Word.slice w.toNat 25 22
def tdAsz (w : BitVec 128) : Nat := Word.slice w.toNat 26 26
def tdAddr (w : BitVec 128) : Nat := Word.slice w.toNat 79 32
def tdSid (w : BitVec 128) : Nat := Word.slice w.toNat 87 80

/-- The even parity of the low `n` bits of a number. -/
def parity (n v : Nat) : Nat := (bitsOf n v).length % 2

/-- CHK of a command word (R414). -/
def tdChk (w : BitVec 128) : Nat :=
  ((List.range 7).map fun i => parity 16 (Word.slice w.toNat (16 * i + 15) (16 * i)) * 2 ^ i).sum +
    parity 8 (Word.slice w.toNat 119 112) * 2 ^ 7

/-- The parity bits of a data flit (R411). -/
def flitParity (data : Nat) : Byte :=
  BitVec.ofNat 8 ((List.range 8).map fun i => parity 64 (Word.slice data (64 * i + 63) (64 * i)) * 2 ^ i).sum

/-- The data flits that follow a command (R415). -/
def tdFlits (w : BitVec 128) : Nat :=
  if tdOp w = tdWR then tdLen w + 1 else if tdOp w = tdAT ∨ tdOp w = tdATR then 1 else 0

/-- A command still waits for data flits. -/
def SiteCommand.lacking (c : SiteCommand) : Bool := decide (c.flits.length < tdFlits c.word)

/-- The data flits that a command holds in the buffer. -/
def SiteCommand.held (c : SiteCommand) : Nat := (c.flits.filter fun f => !f.isEmpty).length

/-- The status and configuration registers of a request port. -/
def tdStatus (k : Nat) : Nat := R.TDI_PORT_STATUS (k / 64) (k % 64)
def tdCfg (k : Nat) : Nat := R.TDI_PORT_CFG (k / 64) (k % 64)

/-- The state with a request port replaced; OUTSTANDING follows (R428). -/
def State.setSitePort (s : State) (k : Nat) (x : SitePort) : State :=
  State.setFld { s with sites := Tab.set (fun _ => ⟨[], []⟩) s.sites k x } (tdStatus k) F.TDI_PORT_STATUS_OUTSTANDING
    (x.queue.length + x.out.length)

/-- A response word (R417). -/
def tdResponse (status tag idx last rspv : Nat) (data : Bool) (ccrd dcrd : Nat) : Word :=
  let n := status + tag * 2 ^ 8 + idx * 2 ^ 18 + last * 2 ^ 24 + (if data then 2 ^ 25 else 0) + rspv * 2 ^ 26 +
    ccrd * 2 ^ 32 + dcrd * 2 ^ 36
  BitVec.ofNat 64 (n + ((List.range 7).map fun i => parity 8 (Word.slice n (8 * i + 7) (8 * i)) * 2 ^ i).sum * 2 ^ 56)

/-- Credits go back to a top die (R413): a word that answers no tag (R417). -/
def State.siteCredits (s : State) (k ccrd dcrd : Nat) : State :=
  s.emit (.siteWord (k / 64) (k % 64) (tdResponse 0 0 0 0 0 false ccrd dcrd) none)

/-- A tag is answered (R418): its flits in ascending IDX, the last with LAST and the status; without flits one word. -/
def State.siteAnswer (s : State) (k tag status : Nat) (flits : List (List Byte)) : State :=
  let n := flits.length
  if n = 0 then s.emit (.siteWord (k / 64) (k % 64) (tdResponse status tag 0 1 1 false 0 0) none)
  else
    flits.zipIdx.foldl (fun (s : State) e =>
      let last := e.2 + 1 = n
      s.emit (.siteWord (k / 64) (k % 64)
        (tdResponse (if last then status else 0) tag e.2 (if last then 1 else 0) 1 true 0 0)
        (some (e.1, flitParity (Word.ofBytes e.1))))) s

/-- Bytes as data flits, the last filled with zeros. -/
def toFlits (bs : List Byte) : List (List Byte) :=
  (List.range ((bs.length + 63) / 64)).map fun i =>
    let f := (bs.drop (64 * i)).take 64
    f ++ List.replicate (64 - f.length) 0#8

/-- The flits of an answer (R418): those of a read or of a returning atomic that ended with DONE or DATA_ERROR. -/
def answerFlits (op status : Nat) (bs : List Byte) : List (List Byte) :=
  if (op = tdRD ∨ op = tdATR) ∧ (status = scDONE ∨ status = scDATA_ERROR) then toFlits bs else []

/-- The site accepts traffic: a top die out of reset, while the module is neither QUIESCED nor in FAULT (R409, R427). -/
def State.siteOpen (s : State) (d : Nat) : Bool :=
  s.siteKind d == 1 && !s.siteReset d && s.topState != stQUIESCED && s.topState != stFAULT

/-- A port is fenced. -/
def State.siteFenced (s : State) (k : Nat) : Bool := s.flag (tdStatus k) F.TDI_PORT_STATUS_FENCED

/-- The number of fenced ports of a site changes. -/
def State.countFenced (s : State) (d : Nat) (up : Bool) : State :=
  let n := s.fld (R.TDI_SITE_STATUS d) F.TDI_SITE_STATUS_FENCED
  s.setFld (R.TDI_SITE_STATUS d) F.TDI_SITE_STATUS_FENCED (if up then n + 1 else n - 1)

/-- A command whose flits can no longer come is one whose data is discarded (R409, R421). -/
def SiteCommand.cut (c : SiteCommand) : SiteCommand :=
  if c.lacking then { c with bad := true, flits := c.flits ++ List.replicate (tdFlits c.word - c.flits.length) [] } else c

/-- The commands of a port that lack flits are cut. -/
def State.portCut (s : State) (k : Nat) : State :=
  let x := s.sitePort k
  s.setSitePort k { x with queue := x.queue.map SiteCommand.cut }

/-- A violation fences a port (R421). -/
def State.portFence (s : State) (k viol : Nat) : State :=
  let s := (s.setFld (tdStatus k) F.TDI_PORT_STATUS_FENCED 1).setFld (tdStatus k) F.TDI_PORT_STATUS_VIOL viol
  (((s.portCut k).countFenced (k / 64) true).bump (R.TDI_CNT (k / 64)) F.TDI_CNT_FENCINGS).raise (84 + k / 64)

/-- A tag of a port has a response outstanding (R421). -/
def SitePort.tagBusy (x : SitePort) (tag : Nat) : Bool :=
  (x.queue.any fun c => tdTag c.word == tag) || x.out.any fun r => r.tag == tag

/-- The WAITTOK commands of a port (R420). -/
def SitePort.waits (x : SitePort) : Nat := (x.queue.filter fun c => tdOp c.word == tdWAITTOK).length

/-- A command word arrives at an open site (R413, R414, R420, R421). -/
def State.siteCommand (s : State) (k : Nat) (w : BitVec 128) : State :=
  let x := s.sitePort k
  if s.siteFenced k then s
  else if 64 ≤ x.queue.length then s.portFence k 1
  else if Word.slice w.toNat 127 120 ≠ tdChk w then s.portFence k 4
  else if x.tagBusy (tdTag w) then s.portFence k 2
  else if tdOp w = tdWAITTOK ∧ 16 ≤ x.waits then (s.siteAnswer k (tdTag w) scDESCRIPTOR_ERROR []).siteCredits k 1 0
  else s.setSitePort k { x with queue := x.queue ++ [⟨w, [], false, false⟩] }

/-- The bytes of a data flit that a command takes (R415): for a WR those whose mask bits are set, for an atomic all. -/
def flitBytes (data : BitVec 512) (mask : BitVec 64) (w : BitVec 128) : List (Option Byte) :=
  (Word.bytes 64 data.toNat).zipIdx.map fun e => if tdOp w != tdWR || mask.getLsbD e.2 then some e.1 else none

/-- The first command that waits for a data flit takes it. -/
def giveFlit (f : BitVec 128 → List (Option Byte)) (bad : Bool) : List SiteCommand → List SiteCommand
  | [] => []
  | c :: cs =>
    if c.lacking then { c with flits := c.flits ++ [f c.word], bad := c.bad || bad } :: cs else c :: giveFlit f bad cs

/-- A data flit arrives at an open site (R411, R421). -/
def State.siteFlit (s : State) (k : Nat) (data : BitVec 512) (mask : BitVec 64) (par : Byte) : State :=
  let x := s.sitePort k
  if s.siteFenced k then s
  else if 256 ≤ (x.queue.map SiteCommand.held).sum then s.portFence k 1
  else if x.queue.any SiteCommand.lacking then
    s.setSitePort k { x with queue := giveFlit (flitBytes data mask) (flitParity data.toNat != par) x.queue }
  else s.portFence k 3

/-- UNFENCE (R421, R428): it ends a fencing when no response is outstanding. -/
def State.siteUnfence (s : State) (k : Nat) : State :=
  if s.siteFenced k && s.fld (tdStatus k) F.TDI_PORT_STATUS_OUTSTANDING == 0 then
    (s.setFld (tdStatus k) F.TDI_PORT_STATUS_FENCED 0).countFenced (k / 64) false
  else s

/-- CNT_CLR (R428). -/
def State.siteCntClr (s : State) (d : Nat) (v : Word) : State :=
  if F.TDI_CTL_CNT_CLR.isSet v then s.setReg (R.TDI_CNT d) 0 else s

end Sys2Proof.Machine
end

