-- ==== Sys2Proof/Machine/Effects.lean ====
section
/-!
DEFINITION. What register writes do beside their fields, block by block (R7, and the WO and W1S fields of each map).
-/
namespace Sys2Proof.Machine

/-- A switched-out requester is admitted afresh, or aborted (R82). -/
def State.resumeWork (s : State) (e : FaultEntry) (abort : Bool) : State :=
  let s := s.endFault e
  match e.work.who with
  | .queue k number => s.moverResume k number e.work abort
  | who => s.jobResume who e.work abort

/-- A write of ADT_RESUME (R82): one that names no outstanding fault has no effect. -/
def State.resumeWrite (s : State) (v : Word) : State :=
  match s.adt.faults.find? fun e => e.id == F.ADT_RESUME_FAULT_ID.of v with
  | some e => s.resumeWork e (F.ADT_RESUME_ABORT.isSet v)
  | none => s

/-- RETIRE (R90, R92): of an ACTIVE context other than 0. Its switched-out work ends with ABORTED, and an invalidation
of every page joins the queue without a sequence number. -/
def State.ctxRetire (s : State) (c : Nat) : State :=
  if c = 0 ∨ s.ctxState c ≠ cxACTIVE then s
  else
    let s := s.setFld (R.ADT_CTX_STATUS c) F.ADT_CTX_STATUS_STATE cxRETIRING
    let s := (s.adt.faults.filter fun e => e.work.ctx == c).foldl (fun s e => s.resumeWork e true) s
    { s with adt := { s.adt with invals := s.adt.invals ++ [⟨c, true, 0, 0, none, [], false⟩] } }

/-- A write of ADT_CTX_CMD (R92). -/
def State.ctxCommand (s : State) (v : Word) : State :=
  let c := F.ADT_CTX_CMD_CTX.of v
  match F.ADT_CTX_CMD_CMD.of v with
  | 1 => s.ctxActivate c
  | 2 => s.ctxRetire c
  | _ => s

/-- Several registers are cleared. -/
def State.clearRegs (s : State) (l : List Nat) : State := l.foldl (fun s r => s.setReg r 0) s

/-- The listed registers of a range lose some fields. -/
def State.clearFields (s : State) (lo hi : Nat) (fs : List Fld) : State :=
  ((s.regs.map Prod.fst).filter fun r => decide (lo ≤ r ∧ r < hi)).foldl (fun s r =>
    fs.foldl (fun s f => s.setFld r f 0) s) s

/-- A partition clear starts (R125): the requests that come while it runs are held, so that they find the valid bits
cleared. -/
def State.partitionClear (s : State) (d : Nat) (v : Word) : State :=
  let mask := F.SBF_PART_CLR_MASK.of v
  if mask = 0 then s else (s.sbClear d mask).setFld (R.SBF_PART_CLR d) F.SBF_PART_CLR_BUSY 1

/-- CNT_CLR of the buffer (R143). -/
def State.sbfCntClr (s : State) (d : Nat) (v : Word) : State :=
  if F.SBF_ERR_CTL_CNT_CLR.isSet v then
    (s.setReg (R.SBF_ERR_CNT d) 0).clearFields (R.SBF_BANK d 0) (R.SBF_BANK d 4224) [F.SBF_BANK_UE, F.SBF_BANK_CE]
  else s

/-- CNT_CLR of a stack controller (R172). -/
def State.stkCntClr (s : State) (m : Nat) (v : Word) : State :=
  if F.STK_ERR_CTL_CNT_CLR.isSet v then
    (s.clearRegs [R.STK_ERR_CNT m, R.STK_ERR_CNT2 m]).clearFields (R.STK_PC m 0) (R.STK_PC m 64)
      [F.STK_PC_UE, F.STK_PC_CE]
  else s

/-- POP of a buffer's record FIFO (R140). -/
def State.sbfPop (s : State) (d : Nat) (v : Word) : State :=
  if F.SBF_ERR_POP_POP.isSet v then s.setSbRecords d ((s.sbRecords d).drop 1) else s

/-- POP of a stack controller's record FIFO (R170). -/
def State.stkPop (s : State) (m : Nat) (v : Word) : State :=
  if F.STK_ERR_POP_POP.isSet v then s.setStkRecords m ((s.stkRecords m).drop 1) else s

/-- CNT_CLR of a slice (R200). -/
def State.mscCntClr (s : State) (m : Nat) (v : Word) : State :=
  if F.MSC_CTL_CNT_CLR.isSet v then s.clearRegs [R.MSC_CNT_RD m, R.MSC_CNT_MISC m, R.MSC_CNT_PF m] else s

/-- A write of MSC_CTL (R192, R195, R196, R200); `old` holds the EN in force. -/
def State.mscCtl (s : State) (m : Nat) (v old : Word) : State :=
  ((s.mscCntClr m v).setFld (R.MSC_CTL m) F.MSC_CTL_EN (F.MSC_CTL_EN.of old)).mscEnableWrite m (F.MSC_CTL_EN.isSet v)

/-- A write of DMV_CTL (R232). -/
def State.dmvCntClr (s : State) (g : Nat) (v : Word) : State :=
  if F.DMV_CTL_CNT_CLR.isSet v then
    s.clearRegs [R.DMV_CNT_RD g, R.DMV_CNT_WR g, R.DMV_CNT_DESC g, R.DMV_CNT_STALL g]
  else s

/-- A write of the control register of a queue or ring (R228, R232, R258, R263): RESET, then EN. -/
def State.queueCtl (s : State) (k : Nat) (v old : Word) : State :=
  let s := s.setReg (qCTL k) old
  let s := if F.DMV_Q_CTL_RESET.isSet v ∧ ¬ F.DMV_Q_CTL_RESET.isSet old then
    (if isJob k then s.jobRingReset k else s.queueReset k) else s
  if F.DMV_Q_CTL_EN.isSet v then s.qEnable k else s.qDisable k

/-- A write of NME_RING_ACT (R242); SLOTS_NEXT and AT are stored by the write. -/
def State.ringActWrite (s : State) (n : Nat) (v : Word) : State :=
  if F.NME_RING_ACT_ARM.isSet v then
    s.ringArm n (s.fld (R.NME_RING_ACT n) F.NME_RING_ACT_SLOTS_NEXT) (s.fld (R.NME_RING_ACT n) F.NME_RING_ACT_AT)
  else s

/-- A write of RGL_TDF_CTL (R345). -/
def State.tdfArm (s : State) (v : Word) : State :=
  if F.RGL_TDF_CTL_ARM.isSet v then s.setFld R.RGL_TDF_CTL F.RGL_TDF_CTL_ARMED 1 else s

/-- CNT_CLR of regulation (R357). -/
def State.rglCntClr (s : State) (v : Word) : State :=
  if F.RGL_CTL_CNT_CLR.isSet v then
    s.clearRegs ((List.range 24).flatMap fun m => R.RGL_STK_CNT m :: (List.range 16).map fun c => R.RGL_CNT m c)
  else s

/-- CNT_CLR and LOG_CLR of a port (R407). -/
def State.portCtl (s : State) (p : Nat) (v : Word) : State :=
  let s := if F.TGL_PORT_CTL_CNT_CLR.isSet v then s.clearRegs [R.TGL_PORT_CNT p, R.TGL_PORT_CNT2 p] else s
  if F.TGL_PORT_CTL_LOG_CLR.isSet v then
    s.resetRegs fun r => (R.TGL_AUD_STATUS p ≤ r && r < R.TGL_AUD_STATUS (p + 1)) ||
      (R.TGL_AUD_LOG p 0 0 ≤ r && r < R.TGL_AUD_LOG (p + 1) 0 0)
  else s

/-- A write of TGL_MC_DEF (R394): the master distributes the groups anew. -/
def State.groupWritten (s : State) : State := if s.isMaster then s.distribute [] else s

/-- A write of LNK_SAVED (R374): the saved settings are the ones written. -/
def State.savedWritten (s : State) (p : Nat) : State := s.setLane p { s.lane p with retrained := false }

/-- A write of TDI_PWR_GRANT (R423, R428): NEXT_W above MAX_W is reserved and leaves the field unchanged. -/
def State.grantWritten (s : State) (d : Nat) (v old : Word) : State :=
  let s := if s.fld (R.TDI_PWR_LIMIT d) F.TDI_PWR_LIMIT_MAX_W < F.TDI_PWR_GRANT_NEXT_W.of v then
    s.setFld (R.TDI_PWR_GRANT d) F.TDI_PWR_GRANT_NEXT_W (F.TDI_PWR_GRANT_NEXT_W.of old) else s
  if F.TDI_PWR_GRANT_ARM.isSet v then s.armGrant d else s

/-- The bits of sources 0 to 31, which no shared bitmap has, stay 0 (R457). -/
def State.sharedOnly (s : State) (r : Nat) : State := s.setReg r (s.reg r &&& ~~~ 0xFFFFFFFF#64)

/-- What writes of the package blocks do. -/
def State.effectPackage (s : State) (name : String) (ix : List Nat) (v : Word) : State :=
  let i := ix.getD 0 0
  match name with
  | "TOP_CTL" => s.topCtl v
  | "TOP_REQ_LINKS" => s.judgeLinks
  | "TOP_REQ_WIDTH" => s.judgeLinks
  | "TOP_FLASH_CTL" => s.flashStart (F.TOP_FLASH_CTL_OP.of v)
  | "MBX_CTL" => s.mbCtl i v
  | "JRN_DUMP_CTL" => s.journalDump v
  | "SNP_CTL" => s.snapRelease v
  | "SNP_TRIG" => s.snapTrig v
  | "SNP_ARM" => s.snapArmed v
  | "SNP_DUMP_CTL" => s.snapDump v
  | "PWR_EMERG" => s.emergencyClear v
  | "RGL_CTL" => (s.rglCntClr v).rglStart
  | "RGL_TDF_CTL" => s.tdfArm v
  | "RGL_STK_CFG" => s.rglStart
  | "RGL_MIN" => s.rglStart
  | "ADT_CTX_CMD" => s.ctxCommand v
  | "ADT_INV_ARG1" => s.invalEnqueue v
  | "ADT_RESUME" => s.resumeWrite v
  | _ => s

/-- What writes of the EIC's registers do (R430 to R440, R457). -/
def State.effectEic (s : State) (name : String) (ix : List Nat) (v : Word) : State :=
  let i := ix.getD 0 0
  match name with
  | "EIC_DOORBELL" => s.eicDoorbell v
  | "EIC_CTL" => s.eicCntClr v
  | "EIC_HV_TRIG" => s.hvTrigger (F.EIC_HV_TRIG_VECTOR.of v)
  | "EIC_PEND_SET" => (if i = 0 then s.sharedOnly (R.EIC_PEND_SET 0) else s).eicSettle
  | "EIC_EN_SET" => (if i = 0 then s.sharedOnly (R.EIC_EN_SET 0) else s).eicSettle
  | "EIC_PEND_CLR" => s.eicSettle
  | "EIC_EN_CLR" => s.eicSettle
  | "EIC_ROUTE" => s.eicSettle
  | "EIC_C_DOORBELL" => s.eicCDoorbell i v
  | "EIC_C_PEND_SET" => s.eicSettle
  | "EIC_C_PEND_CLR" => s.eicSettle
  | "EIC_C_EN_SET" => s.eicSettle
  | "EIC_C_EN_CLR" => s.eicSettle
  | "EIC_C_EOI" => s.eoi i v
  | "EIC_HV_ADDR" => s.hvTry i
  | "EIC_HV_MOD" => s.hvTry i
  | _ => s

/-- What writes of the TGL and LNK blocks do (R377, R407, R51). -/
def State.effectLinks (s : State) (name : String) (ix : List Nat) (v : Word) : State :=
  let i := ix.getD 0 0
  match name with
  | "TGL_POD_CFG" => s.hostPorts
  | "TGL_POD_CTL" => s.podLeaveWrite v
  | "TGL_HOST" => s.hostPorts
  | "TGL_PORT_CTL" => s.portCtl i v
  | "TGL_MC_DEF" => s.groupWritten
  | "TGL_BEAT_CTL" => s.beatCtl v
  | "TGL_BEAT_PERIOD" => s.periodWritten
  | "TGL_BEAT_STRETCH" => s.stretchPump
  | "LNK_CTL" => s.linkCtl i v
  | "LNK_SAVED" => s.savedWritten i
  | _ => s

/-- What writes of a die's memory blocks do (R143, R172, R200). -/
def State.effectMemory (s : State) (name : String) (ix : List Nat) (v old : Word) : State :=
  let d := ix.getD 0 0
  let m := 3 * d + ix.getD 1 0
  match name with
  | "SBF_PART_CLR" => s.partitionClear d v
  | "SBF_ERR_CTL" => s.sbfCntClr d v
  | "SBF_ERR_POP" => s.sbfPop d v
  | "STK_SCRUB_CTL" => s.stkRecap m
  | "STK_ERR_CTL" => s.stkCntClr m v
  | "STK_ERR_POP" => s.stkPop m v
  | "MSC_CTL" => s.mscCtl m v old
  | "MSC_INV_ALL" => if F.MSC_INV_ALL_GO.isSet v then s.mscInvalidateStart m else s
  | _ => s

/-- What writes of a die's mover, engine, dispatcher and top-die blocks do (R232, R262, R263, R428). -/
def State.effectDie (s : State) (name : String) (ix : List Nat) (v old : Word) : State :=
  let d := ix.getD 0 0
  let i := ix.getD 1 0
  let q := queueKey (32 * d + i) (ix.getD 2 0)
  match name with
  | "DMV_CTL" => s.dmvCntClr (32 * d + i) v
  | "DMV_Q_TAIL" => (s.setReg (qTAIL q) old).doorbell q v
  | "DMV_Q_CTL" => s.queueCtl q v old
  | "NME_CTL" => s.nmeCntClr (2 * d + i) v
  | "NME_RING_ACT" => s.ringActWrite (2 * d + i) v
  | "DSP_TOK_POST" => s.tokPostWrite d v
  | "DSP_TOK_CMD" => (s.tokClear d v).tokSet d v
  | "DSP_JR_TAIL" => (s.setReg (qTAIL (jobKey d i)) old).doorbell (jobKey d i) v
  | "DSP_JR_CTL" => s.queueCtl (jobKey d i) v old
  | "TDI_CTL" => s.siteCntClr d v
  | "TDI_PWR_GRANT" => s.grantWritten d v old
  | "TDI_PORT_CFG" => if F.TDI_PORT_CFG_UNFENCE.isSet v then s.siteUnfence (64 * d + i) else s
  | _ => s

end Sys2Proof.Machine
end

