-- ==== Sys2Proof/Machine/RegWrite.lean ====
section
/-!
DEFINITION. Accesses of register space (R6 to R10): which are carried out, what they store, what they do, and what the
change journal records of them (R543, R544).
-/
namespace Sys2Proof.Machine

/-- Mailbox memory in register space (R458): mailbox i at this base + 0x4000·i. -/
def mailBase := 0x210000
def inMail (off : Nat) : Bool := decide (mailBase ≤ off ∧ off < mailBase + 17 * 0x4000)

/-- Writes that a block discards whole: queue and ring set-up while the queue is not DISABLED (R203), shadow tables
while an activation is armed (R242, R345), owner entries of absent frames (R60), and flash commands while one runs
(R484). -/
def State.discards (s : State) (name : String) (ix : List Nat) : Bool :=
  let d := ix.getD 0 0
  let i := ix.getD 1 0
  let q := queueKey (32 * d + i) (ix.getD 2 0)
  match name with
  | "DMV_Q_RING" => s.qState q != qsDISABLED
  | "DMV_Q_CPL" => s.qState q != qsDISABLED
  | "DMV_Q_CFG" => s.qState q != qsDISABLED
  | "DSP_JR_RING" => s.qState (jobKey d i) != qsDISABLED
  | "DSP_JR_CPL" => s.qState (jobKey d i) != qsDISABLED
  | "DSP_JR_CFG" => s.qState (jobKey d i) != qsDISABLED
  | "NME_RING_TBL_E" => s.flag (R.NME_RING_ACT (2 * d + i)) F.NME_RING_ACT_ARMED
  | "NME_RING_TBL_W" => s.flag (R.NME_RING_ACT (2 * d + i)) F.NME_RING_ACT_ARMED
  | "RGL_TDF_MASK" => s.flag R.RGL_TDF_CTL F.RGL_TDF_CTL_ARMED
  | "ADT_OWN_FRAME" => s.flag (R.ADT_OWN_FRAME d) F.ADT_OWN_FRAME_ABSENT
  | "TOP_FLASH_CTL" => s.flag R.TOP_FLASH_STATUS F.TOP_FLASH_STATUS_BUSY
  | _ => false

/-- A write of SBF_INJECT whose ADDR lies outside its die's buffer leaves the register unchanged (R143). -/
def injectElsewhere (name : String) (ix : List Nat) (v : Word) : Bool :=
  name == "SBF_INJECT" &&
    !(regionOf (8 * F.SBF_INJECT_ADDR.of v) == .buffer && sbDie (8 * F.SBF_INJECT_ADDR.of v) == ix.getD 0 0)

/-- What a write does beside its fields. -/
def State.effect (s : State) (off : Nat) (name : String) (ix : List Nat) (v old : Word) : State :=
  if off < 0x100000 then s.effectPackage name ix v
  else if off < 0x200000 then s.effectEic name ix v
  else if off < 0xA00000 then s.effectPackage name ix v
  else if off < 0xC00000 then s.effectLinks name ix v
  else if off % 0x1000000 < 0x300000 then s.effectMemory name ix v old
  else s.effectDie name ix v old

/-- The register takes what a write of `v` stores (R7, R9, R10); owner entries reach the checkers later (R65). -/
def State.storeReg (s : State) (d : RegDef) (at' : Nat) (v : Word) : State :=
  let new := Reg.writeFields d.fields (s.reg at') v
  if d.name = "ADT_OWN_FRAME" ∨ d.name = "ADT_OWN_PART" then s.setOwner at' new else s.setReg at' new

/-- The journal entry of a write (R543): OLD and NEW are what a read returns before and after it. -/
def State.journalWrite (s : State) (d : RegDef) (off : Nat) (by' : Origin) (old new : Word) : State :=
  if d.cfg then s.journalEntry off by' (s.shown off old) (s.shown off new) else s

/-- A write of mailbox memory (R449, R458): the request area takes it unless the mailbox is BUSY, and the response area
is read only. -/
def State.mailWrite (s : State) (off : Nat) (v : Word) : State :=
  let i := (off - mailBase) / 0x4000
  let o := (off - mailBase) % 0x4000
  if mbResponse ≤ o ∨ s.mbState i = mbBUSY then s else s.mailStore i o (Word.bytes 8 v.toNat)

/-- A 64-bit write of an aligned offset of register space. A warm reset is journalled before it happens (R545). -/
def State.regWrite (s : State) (off : Nat) (v : Word) (by' : Origin) : State :=
  if inMail off then s.mailWrite off v
  else
    match Reg.lookup off with
    | none => s
    | some (d, ix) =>
      if s.discards d.name ix || injectElsewhere d.name ix v then s
      else
        let at' := off - d.shows
        let old := s.reg at'
        let s := s.storeReg d at' v
        if off = R.TOP_CTL then (s.journalWrite d off by' old (s.reg at')).effect off d.name ix v old
        else
          let s := s.effect off d.name ix v old
          s.journalWrite d off by' old (s.reg at')

/-- A write access of register space (R6): only an aligned one of 8 bytes is carried out. -/
def State.regWriteBytes (s : State) (off : Nat) (bs : List Byte) (by' : Origin) : State :=
  if bs.length = 8 ∧ off % 8 = 0 ∧ off < 2 ^ 28 then s.regWrite off (BitVec.ofNat 64 (Word.ofBytes bs)) by' else s

/-- The value of an aligned word of register space, without the effect of reading it. -/
def State.regPeek (s : State) (off : Nat) : Word :=
  if inMail off then
    BitVec.ofNat 64 (Word.ofBytes (s.mailBytes ((off - mailBase) / 0x4000) ((off - mailBase) % 0x4000) 8))
  else s.shown off (s.reg (storeOf off))

/-- The core whose EIC_C_CLAIM stands at an offset. -/
def claimAt (off : Nat) : Option Nat := (List.range 11).find? fun c => off == R.EIC_C_CLAIM c

/-- A word of a read that claims nothing. -/
def State.regWord (s : State) (off : Nat) : Word := if (claimAt off).isSome then 0 else s.regPeek off

/-- A read access of register space (R6): a discarded one returns zeros. -/
def State.regRead (s : State) (off len : Nat) : List Byte × State :=
  if len = 8 ∧ off % 8 = 0 then
    match claimAt off with
    | some c =>
      let (w, s) := s.claim c
      (Word.bytes 8 w.toNat, s)
    | none => (Word.bytes 8 (s.regPeek off).toNat, s)
  else if len = 4 ∧ off % 4 = 0 then
    ((Word.bytes 8 (s.regWord (off / 8 * 8)).toNat).drop (off % 8) |>.take 4, s)
  else if 16 ≤ len ∧ len % 8 = 0 ∧ off % 8 = 0 then
    ((List.range (len / 8)).flatMap fun i => Word.bytes 8 (s.regWord (off + 8 * i)).toNat, s)
  else (List.replicate len 0#8, s)

/-- A write of a register by a core's firmware. -/
def State.coreWrite (s : State) (c off : Nat) (v : Word) : State :=
  s.regWrite off v ⟨BitVec.ofNat 14 (coreRid c), BitVec.ofNat 6 s.ownId, false, false⟩

end Sys2Proof.Machine
end

