-- ==== Sys2Proof/Machine/Ezkai.lean ====
section
/-!
DEFINITION. The Ezkai configuration image (18_startup_configuration): its check (R487 to R489, R491 to R495) and what
applying its sections writes (R490, R493 to R495).
-/
namespace Sys2Proof.Machine

/-- The section types (R490). -/
def esIDENTITY := 0x1
def esMODE := 0x2
def esSTACK := 0x3
def esLINK := 0x4
def esTHERMAL := 0x5
def esPOD := 0x10
def esBEAT := 0x11
def esPOWER := 0x12
def esEVENTS := 0x13
def esOWNERS := 0x14
def esREGULATION := 0x15
def esUNITS := 0x16

/-- Every type that is not reserved. -/
def esTypes : List Nat :=
  [esIDENTITY, esMODE, esSTACK, esLINK, esTHERMAL, esPOD, esBEAT, esPOWER, esEVENTS, esOWNERS, esREGULATION, esUNITS]

/-- The types that are required. -/
def esRequired : List Nat := [esIDENTITY, esMODE, esSTACK, esLINK]

/-- An offset lies in a range. -/
def inRange (off lo hi : Nat) : Bool := decide (lo ≤ off) && decide (off < hi)

/-- The offsets of the UNITS section, within a die's region (R490). -/
def unitsOffset (r : Nat) : Bool :=
  let stk := r - 0x100000
  let msc := r - 0x200000
  inRange r 0x300000 0x340000 || inRange r 0x400000 0x680000
    || (inRange r 0x200000 0x230000 && [0x18, 0x20, 0x28].contains (msc % 0x10000))
    || (inRange r 0x100000 0x1C0000 && [0x18, 0x20].contains (stk % 0x40000))
    || r == 0x10 || r == 0x18 || r == 0x680010 || inRange r 0x680100 0x680300

/-- The offsets that a register list of a type may write (R490). -/
def ezAllowed (typ off : Nat) : Bool :=
  let die := inRange off 0x1000000 0x9000000
  if typ = esPOD then inRange off 0xA00000 0xA40000
  else if typ = esBEAT then inRange off 0xAF0000 0xAF0100
  else if typ = esPOWER then inRange off 0x600000 0x700000 || (die && off % 0x1000000 == 0x680018)
  else if typ = esEVENTS then
    inRange off 0x100000 0x200000 || (inRange off 0x200000 0x201100 && off % 0x100 == 0x10)
  else if typ = esOWNERS then inRange off 0x900000 0xA00000
  else if typ = esREGULATION then inRange off 0x800000 0x900000
  else die && unitsOffset (off % 0x1000000)

/-- The entries of a register list (R495): offset and value. -/
def ezEntries (body : List Byte) : List (Nat × Word) :=
  (List.range (body.length / 16)).map fun i => (fieldAt body (16 * i) 8, BitVec.ofNat 64 (fieldAt body (16 * i + 8) 8))

/-- Entry p of a LINK body (R493): word 1. -/
def ezLink (body : List Byte) (p : Nat) : Nat := fieldAt body (16 * p + 8) 8

/-- Its fields. -/
def elEn (w : Nat) : Nat := Word.slice w 0 0
def elMask (w : Nat) : Nat := Word.slice w 6 4
def elRequired (w : Nat) : Nat := Word.slice w 8 8
def elWidth (w : Nat) : Nat := Word.slice w 10 9
def elHost (w : Nat) : Nat := Word.slice w 11 11

/-- Word 1 of a port entry keeps its reserved values and bits out. -/
def ezLinkGood (w : Nat) : Bool :=
  !(elEn w == 1 && elMask w == 0) && !(elRequired w == 1 && elWidth w == 0) && decide (w < 2 ^ 12) &&
    Word.slice w 3 1 == 0 && Word.slice w 7 7 == 0

/-- Stack entry m of a STACK body (R492) keeps its reserved bits and bytes at 0. -/
def ezStackGood (body : List Byte) (m : Nat) : Bool :=
  decide (fieldAt body (80 * m) 1 < 8) && zeroAt body (80 * m + 1) (80 * m + 16)

/-- FLAGS of stack entry m, and the interleave byte of frame f (R492). -/
def ezStackFlags (body : List Byte) (m : Nat) : Nat := fieldAt body (80 * m) 1
def ezInterleave (body : List Byte) (f : Nat) : Nat := fieldAt body (1920 + f) 1

/-- The body rules of a type (R491 to R495), on a module with a serial number. -/
def ezBody (serial typ : Nat) (body : List Byte) : Bool :=
  if typ = esIDENTITY then
    let bind := fieldAt body 0 6
    body.length == 48 && zeroAt body 6 8 && zeroAt body 40 48 && (bind == 0 || bind == serial)
  else if typ = esMODE then body.length == 8 && decide (fieldAt body 0 1 ≤ 1) && zeroAt body 1 8
  else if typ = esSTACK then
    body.length == 2640 && (List.range 24).all (ezStackGood body) && (body.drop 1920).all fun b => decide (b.toNat ≤ 2)
  else if typ = esLINK then body.length == 512 && (List.range 32).all fun p => ezLinkGood (ezLink body p)
  else if typ = esTHERMAL then body.length == 3072
  else
    body.length % 16 == 0 && (ezEntries body).all fun e => e.1 % 8 == 0 && ezAllowed typ e.1

/-- The sections that some bytes hold, of which there must be so many and nothing else (R488, R489). -/
def ezSections : Nat → List Byte → Option (Tab (List Byte))
  | 0, l => if l.isEmpty then some [] else none
  | n + 1, l =>
    let len := fieldAt l 4 4
    let whole := 72 + (len + 7) / 8 * 8
    let body := (l.drop 72).take len
    if whole ≤ l.length ∧ zeroAt l 2 4 = true ∧ zeroAt l (72 + len) whole = true ∧ Sha3.sha3 body = (l.drop 8).take 64 then
      (ezSections n (l.drop whole)).map fun t => (fieldAt l 0 2, body) :: t
    else none

/-- The check of an image (R489): its sections when it passes. -/
def ezCheck (serial : Nat) (l : List Byte) : Option (Tab (List Byte)) :=
  let n := fieldAt l 6 2
  if fieldAt l 0 4 = 0x494B5A45 ∧ fieldAt l 4 2 = 1 ∧ 1 ≤ n ∧ n ≤ 16 ∧ zeroAt l 16 64 = true ∧
      Sha3.sha3 (l.take 64) = (l.drop 64).take 64 then
    match ezSections n (l.drop 128) with
    | some t =>
      let types := t.map Prod.fst
      if types.Nodup ∧ types.all esTypes.contains = true ∧ esRequired.all types.contains = true ∧
          (t.all fun e => ezBody serial e.1 e.2) = true then some t else none
    | none => none
  else none

/-- The image in an Ezkai slot, with its sections, when it passes (R483, R489). -/
def State.ezSlot (s : State) (slot : Nat) : Option (List Byte × Tab (List Byte)) :=
  let base := 0x400000 + 0x200000 * slot
  let total := Word.ofBytes (s.flashBytes (base + 8) 4)
  if 128 ≤ total ∧ total ≤ 2097152 then
    let l := s.flashBytes base total
    (ezCheck s.fuses.serial.toNat l).map fun t => (l, t)
  else none

/-- The body of a section of the image in use; an absent one is empty. -/
def State.ezSection (s : State) (typ : Nat) : List Byte := Tab.get (fun _ => []) s.boot.image typ

/-- A register list is applied (R490, R495). -/
def State.ezApply (s : State) (typ : Nat) : State :=
  (ezEntries (s.ezSection typ)).foldl (fun s e => s.coreWrite 0 e.1 e.2) s

/-- The THERMAL section is applied (R494). -/
def State.ezThermal (s : State) : State :=
  let body := s.ezSection esTHERMAL
  (List.range (body.length / 8)).foldl (fun s i =>
    s.coreWrite 0 (R.HKP_CH_CFG (i / 48) (i % 48)) (BitVec.ofNat 64 (fieldAt body (8 * i) 8))) s

/-- The LINK section is applied (R493): fields that it does not name keep their values. -/
def State.ezLinks (s : State) : State :=
  let body := s.ezSection esLINK
  let mask := fun (f : Nat → Nat) => idMask ((List.range 32).filter fun p => f (ezLink body p) == 1)
  let put := fun (s : State) (r : Nat) (f : Fld) (v : Nat) => s.coreWrite 0 r (Reg.withBits (s.reg r) f.hi f.lo v)
  let s := s.coreWrite 0 R.TOP_REQ_WIDTH
    (BitVec.ofNat 64 ((List.range 32).map fun p => elWidth (ezLink body p) * 4 ^ p).sum)
  let s := put s R.TOP_REQ_LINKS F.TOP_REQ_LINKS_REQUIRED (mask elRequired)
  let s := put s R.TGL_HOST F.TGL_HOST_PORTS (mask elHost)
  (List.range 32).foldl (fun s p =>
    let w := ezLink body p
    let s := s.coreWrite 0 (R.LNK_SAVED p) (BitVec.ofNat 64 (fieldAt body (16 * p) 8))
    let v := Reg.withBits (s.reg (R.LNK_CTL p)) F.LNK_CTL_WIDTH_MASK.hi F.LNK_CTL_WIDTH_MASK.lo (elMask w)
    s.coreWrite 0 (R.LNK_CTL p) (Reg.withBits v F.LNK_CTL_EN.hi F.LNK_CTL_EN.lo (elEn w))) s

/-- Flags of a stack in the image (R492): USE, MSC_EN and PF_EN. -/
def State.ezUse (s : State) (m : Nat) : Bool := bit (ezStackFlags (s.ezSection esSTACK) m) 0
def State.ezMscEn (s : State) (m : Nat) : Nat := ezStackFlags (s.ezSection esSTACK) m / 2 % 4

end Sys2Proof.Machine
end

