-- ==== Sys2Proof/Machine/Boot.lean ====
section
/-!
DEFINITION. Start-up after the germ (18_startup_configuration): the work of SPROUT, TRAINING, FILLING and SELFTEST, and
the two passes of the defect merge (R499 to R501).
-/
namespace Sys2Proof.Machine

/-- The sprout's work (R465, R485, R489): the Ezkai image, its SPROUT sections, the bridges. `bridges`: those that fail
their pattern. The wear record and the last power-off are read back from flash (R522, R550). -/
def State.sproutBoot (s : State) (bridges : Nat) : State :=
  if s.topState ≠ stSPROUT then s
  else
    let found := match s.ezSlot 0 with
      | some x => some (0, x)
      | none => (s.ezSlot 1).map fun x => (1, x)
    match found with
    | none => s.fail fcEZKAI
    | some (slot, l, t) =>
      let s : State := { s with
        fw := { s.fw with ezkai := Sha3.sha3 l, unified := fieldAt (Tab.get (fun _ => []) t esMODE) 0 1 == 1 }
        boot := { s.boot with image := t } }
      let s := (s.setFld R.TOP_STATUS F.TOP_STATUS_EZKAI_SLOT slot).setFld R.TOP_STATUS F.TOP_STATUS_IMAGE_ID
        (fieldAt l 12 4)
      let s := s.wearRestore
      let s := match s.power.lastOff with
        | some v => s.setReg R.PWR_LAST_OFF v
        | none => s
      let s := ((s.ezApply esPOD).ezApply esBEAT).ezLinks
      if bridges ≠ 0 then s.fail fcBRIDGE else s.enterTop stAWAIT_FULL

/-- The site straps are read, the rails come up, the sections of this point are applied and the stacks in use start to
train (R408, R485, R490, R515). -/
def State.enterTraining (s : State) (straps : Nat) : State :=
  let kind := fun d => straps / 4 ^ d % 4
  let s := (List.range 8).foldl (fun s d => s.setFld (R.TDI_SITE_STATUS d) F.TDI_SITE_STATUS_KIND (kind d))
    (s.enterTop stTRAINING)
  if (List.range 8).any (fun d => kind d == 0 || kind d == 3) then s.fail fcSITE
  else
    let s := (List.range 8).foldl (fun s d =>
      if s.siteKind d = 1 then (s.setFld (R.TDI_SITE_STATUS d) F.TDI_SITE_STATUS_POWERED 1).forceGrant d else s) s
    let s := ((s.ezThermal).ezApply esPOWER).ezApply esEVENTS
    let used := idMask ((List.range 24).filter s.ezUse)
    { s with power := { s.power with stackRails := used != 0 }, boot := { s.boot with training := used } }

/-- A stack ends its training (R145, R150, R497). -/
def State.stackTrained (s : State) (m : Nat) (r : TrainedStack) : State :=
  if s.topState = stTRAINING ∧ bit s.boot.training m = true then
    let s := (List.range 8).foldl (fun s j => s.setReg (R.STK_TRAINED m j) (r.words.getD j 0)) s
    { s with
      boot := { s.boot with
        training := clearBit s.boot.training m
        trained := if r.complete then setBit s.boot.trained m else s.boot.trained
        failed := if r.complete then s.boot.failed else setBit s.boot.failed m
        channels := Tab.set (fun _ => 0) s.boot.channels m r.channels.toNat }
      stackState := { s.stackState with rfm := Tab.set (fun _ => 0) s.stackState.rfm m r.rfm } }
  else s

/-- The merge of one unit (R500): its entry when it is disabled. -/
def State.merge (s : State) (kind a b : Nat) (failed : Bool) : Option DefectEntry :=
  if (s.fuseBad kind a).contains b then some ⟨kind, if failed then dsFUSE + dsTEST else dsFUSE, a, b, 0⟩
  else if failed then some ⟨kind, dsTEST + dsRETURN, a, b, 0⟩
  else s.boot.known.find? fun e => e.kind == kind && e.a == a && e.b == b

/-- The entries of units numbered below n of a type, of which some fail their tests. -/
def State.mergeAll (s : State) (kind a n : Nat) (failed : List Nat) : List DefectEntry :=
  (List.range n).filterMap fun b => s.merge kind a b (failed.contains b)

/-- The SOURCE bits of some entries together. -/
def sourcesOf (l : List DefectEntry) : Nat := l.foldl (fun n e => n ||| e.source) 0

/-- An entry is a run-time loss of this start (R502). -/
def State.lostNow (s : State) (e : DefectEntry) : Bool := e.source == dsRUNTIME && !s.boot.known.contains e

/-- Entries of a pass join the list, in the order of the types and before the losses of this start (R504), and TEST
entries of fuse-good units not recorded yet go to the defect record while it has room (R500, R502). -/
def State.addDefects (s : State) (l : List DefectEntry) : State :=
  let old := s.boot.defects.filter fun e => !s.lostNow e
  let all := ((List.range 16).flatMap fun k => (old ++ l).filter fun e => e.kind == k) ++ s.boot.defects.filter s.lostNow
  let new := l.filter fun e => e.source / dsTEST % 2 == 1 && e.source % 2 == 0 &&
    !s.boot.known.any fun k => k.kind == e.kind && k.a == e.a && k.b == e.b
  let room := defectRoom - s.boot.recorded - s.boot.waiting.length
  let s : State := { s with boot := { s.boot with defects := all, waiting := s.boot.waiting ++ new.take room } }
  let s := if room < new.length then s.setFld R.TOP_DEFECT F.TOP_DEFECT_REC_FULL 1 else s
  (s.setFld R.TOP_DEFECT F.TOP_DEFECT_ENTRIES all.length).setFld R.TOP_DEFECT F.TOP_DEFECT_RETURN_ANY
    (if all.any fun e => dsRETURN ≤ e.source then 1 else 0)

/-- The pseudo-channels of stack m that the merge disables (R145). -/
def State.mergePcs (s : State) (m : Nat) : List DefectEntry :=
  s.mergeAll dkPSEUDO_CHANNEL m 64
    ((bitsOf 32 (Tab.get (fun _ => 0) s.boot.channels m)).flatMap fun c => [2 * c, 2 * c + 1])

/-- The entry of stack m when the merge disables it, given those of its pseudo-channels (R150, R500). -/
def State.mergeStack (s : State) (m : Nat) (pcs : List DefectEntry) : Option DefectEntry :=
  match s.merge dkSTACK m 0 (bit s.boot.failed m) with
  | some e => some e
  | none => if 64 < 48 + pcs.length then some ⟨dkSTACK, sourcesOf pcs, m, 0, 0⟩ else none

/-- A stack is placed (R148 to R150, R163): a stack that has not completed training places no pseudo-channel. -/
def State.placeStack (s : State) (m : Nat) : State :=
  let pcs := s.mergePcs m
  let placed := if bit s.boot.trained m then (List.range 64).filter fun p => !pcs.any fun e => e.b == p else []
  let n := placed.length
  let off := decide (n < 48) || (s.mergeStack m pcs).isSome
  let st := R.STK_STATUS m
  let s := (List.range 64).foldl (fun s p =>
    if placed.contains p then s else s.setFld (R.STK_PC m p) F.STK_PC_STATE 1) s
  let s := s.setReg (R.STK_PC_MASK m) (BitVec.ofNat 64 (idMask placed))
  let s := ((s.setFld st F.STK_STATUS_PLACED n).setFld st F.STK_STATUS_SLOTS (15 * n / 32)).setFld st F.STK_STATUS_STATE
    (if off then 1 else 0)
  let s := s.setFld (R.STK_CAP m) F.STK_CAP_CAP (s.stkCap m)
  if off then s.raise (97 + 4 * m) else s

/-- A stack is disabled (R150). -/
def State.stackOff (s : State) (m : Nat) : Bool := s.fld (R.STK_STATUS m) F.STK_STATUS_STATE == 1

/-- The frames of the interleave group of a frame under a mode (R58). -/
def groupFrames (f mode : Nat) : List Nat :=
  let k := f / 30
  let i := f % 30
  if mode = 1 then (List.range 3).map fun j => 30 * (k / 3 * 3 + j) + i
  else if mode = 2 then (List.range 24).map fun j => 30 * j + i
  else [f]

/-- The frames that an image gives mixed modes in their group (R60): all that share a group with one whose mode differs. -/
def mixedFrame (mode : Nat → Nat) (f : Nat) : Bool :=
  [1, 2].any fun k =>
    let g := groupFrames f k
    g.any (fun x => mode x == k) && g.any fun x => mode x != k

/-- The frames take their modes and those absent are marked (R58, R60, R149); each mixed group raises 747. -/
def State.placeFrames (s : State) : State :=
  let body := s.ezSection esSTACK
  let mode := fun f => if mixedFrame (ezInterleave body) f then 0 else ezInterleave body f
  let lacks := fun (f : Nat) => s.stackOff (f / 30) || decide (s.fld (R.STK_STATUS (f / 30)) F.STK_STATUS_SLOTS ≤ f % 30)
  let t := (List.range 720).foldl (fun (s : State) f =>
    let s := s.setFld (R.ADT_OWN_FRAME f) F.ADT_OWN_FRAME_INTERLEAVE (mode f)
    if (groupFrames f (mode f)).any lacks then
      (s.setFld (R.ADT_OWN_FRAME f) F.ADT_OWN_FRAME_ABSENT 1).setFld (R.ADT_OWN_FRAME f) F.ADT_OWN_FRAME_MODE 0
    else s) s
  if (List.range 720).any (mixedFrame (ezInterleave body)) then t.raise 747 else t

/-- A slice is disabled and invalidated, or faulty (R197). -/
def State.placeSlice (s : State) (m : Nat) (failed : Bool) : State :=
  let s := (s.setFld (R.MSC_CTL m) F.MSC_CTL_EN 0).setSlice m SliceState.empty
  if s.stackOff m || (s.merge dkSLICE m 0 failed).isSome then
    (s.setFld (R.MSC_STATUS m) F.MSC_STATUS_FAULTY 1).raise (209 + 2 * m)
  else s

/-- TOP_CAP0 and TOP_CAP1 show what the memory pass leaves (R510). -/
def State.showMemory (s : State) : State :=
  let frames := ((List.range 720).filter fun f => !s.flag (R.ADT_OWN_FRAME f) F.ADT_OWN_FRAME_ABSENT).length
  let faulty := ((List.range 24).filter fun m => s.flag (R.MSC_STATUS m) F.MSC_STATUS_FAULTY).length
  let pcs := ((List.range 24).map fun m => 64 - s.fld (R.STK_STATUS m) F.STK_STATUS_PLACED).sum
  (((s.setFld R.TOP_CAP0 F.TOP_CAP0_FRAMES frames).setFld R.TOP_CAP0 F.TOP_CAP0_STACK_DISABLED
    (idMask ((List.range 24).filter s.stackOff))).setFld R.TOP_CAP1 F.TOP_CAP1_SLICES_FAULTY faulty).setFld R.TOP_CAP1
    F.TOP_CAP1_PC_DISABLED pcs

/-- The entries of the memory pass: pseudo-channels, stacks and slices (R500). A stack that is not in use has none
(R492). -/
def State.memoryDefects (s : State) (slices : Nat) : List DefectEntry :=
  (List.range 24).flatMap fun m =>
    let pcs := if bit s.boot.trained m then s.mergePcs m else []
    pcs ++ (if s.ezUse m then (s.mergeStack m pcs).toList else []) ++ (s.merge dkSLICE m 0 (bit slices m)).toList

/-- The memory pass, and entry into FILLING (R129, R164, R197, R490, R500). -/
def State.memoryPass (s : State) (slices : Nat) : State :=
  if s.topState = stTRAINING ∧ s.boot.training = 0 then
    let s := s.addDefects (s.memoryDefects slices)
    let s := (List.range 24).foldl State.placeStack s
    let s := (List.range 24).foldl (fun s m => s.placeSlice m (bit slices m)) s
    let s := s.placeFrames.showMemory.rglStart
    let s := ((s.ezApply esOWNERS).ezApply esREGULATION).ezApply esUNITS
    let s := (List.range 24).foldl (fun s m =>
      if s.stackOff m then s else (s.stkFill m).setFld (R.STK_FILL m) F.STK_FILL_BUSY 1) s
    s.sbClearAll.enterTop stFILLING
  else s

/-- The fill completes, and the slices are enabled as the image names (R164, R197, R492). -/
def State.fillDone (s : State) (times : List Nat) : State :=
  if s.topState = stFILLING then
    let s := (List.range 24).foldl (fun (s : State) m =>
      let r := R.STK_FILL m
      let s := if s.flag r F.STK_FILL_BUSY then
          ((s.setFld r F.STK_FILL_BUSY 0).setFld r F.STK_FILL_DONE 1).setFld r F.STK_FILL_TIME (times.getD m 0)
        else s
      let e := s.ezMscEn m
      s.coreWrite 0 (R.MSC_CTL m) (BitVec.ofNat 64 (e % 2 + 2 * (e / 2)))) s
    s.enterTop stSELFTEST
  else s

/-- The banks of a die are placed (R121, R122). -/
def State.placeDie (s : State) (d : Nat) (l : List DefectEntry) : State :=
  let bad := l.map DefectEntry.b
  let spares := spareMap bad
  let st := R.SBF_STATUS d
  let s := (s.setFld st F.SBF_STATUS_DISABLED bad.length).setFld st F.SBF_STATUS_SPARES_USED spares.length
  let s := bad.foldl (fun s b => s.setFld (R.SBF_BANK d b) F.SBF_BANK_STATE 2) s
  let s := spares.foldl (fun s e => s.setFld (R.SBF_BANK d e.2) F.SBF_BANK_STATE 0) (s.placeBanks d bad)
  if 128 < bad.length then (s.setFld st F.SBF_STATUS_ABSENT 1).raise (193 + 2 * d) else s

/-- The movers of a die are placed (R501): a name without a mover is vacant, and its queues read LOST (R232). -/
def State.placeMovers (s : State) (d : Nat) (l : List DefectEntry) : State :=
  let bad := l.map DefectEntry.b
  let good := [32, 33].filter fun p => !bad.contains p
  let names := ((List.range 32).filter bad.contains).zipIdx.map fun e => (e.1, good[e.2]?)
  (List.range 32).foldl (fun s i =>
    let g := 32 * d + i
    match names.find? fun e => e.1 == i with
    | none => s.setFld (R.DMV_STATUS g) F.DMV_STATUS_PHYS i
    | some (_, some p) => s.setFld (R.DMV_STATUS g) F.DMV_STATUS_PHYS p
    | some (_, none) =>
      (List.range 16).foldl (fun s q => s.setQState (queueKey g q) qsLOST) (s.setFld (R.DMV_STATUS g) F.DMV_STATUS_STATE 2)) s

/-- The entry of an engine that its row units leave vacant (R234, R503). -/
def vacantEngine (n : Nat) (l : List DefectEntry) : List DefectEntry :=
  if 100 < 96 + l.length then [⟨dkNME, sourcesOf l, n, 0, 0⟩] else []

/-- The row units of an engine are placed (R234). -/
def State.placeRows (s : State) (n : Nat) (l : List DefectEntry) : State :=
  let lost := (l.filter fun e => decide (e.b < 96)).length
  let good := 4 - (l.filter fun e => decide (96 ≤ e.b)).length
  let st := R.NME_STATUS n
  let s := (s.setFld st F.NME_STATUS_ROWS_USABLE (100 - l.length)).setFld st F.NME_STATUS_SPARES_USED (min lost good)
  if 100 < 96 + l.length then s.setEngineState n neVACANT else s

/-- NME_KAT shows the known-answer run of an engine (R260). -/
def State.showKat (s : State) (r : UnitTests) (n : Nat) : State :=
  let failed := (r.rows.filter fun e => e.1.val == n).length
  let sig := match r.signatures.find? fun e => e.1.val == n with
    | some e => e.2.toNat
    | none => 0
  let pass := failed == 0 && !r.ring.getLsbD n && !r.ring.getLsbD (eastOf n)
  let k := R.NME_KAT n
  let s := (((s.setFld k F.NME_KAT_SIG sig).setFld k F.NME_KAT_DONE 1).setFld k F.NME_KAT_PASS
    (if pass then 1 else 0)).setFld k F.NME_KAT_ROWS_FAILED failed
  if pass then s else s.raise (512 + 2 * n)

/-- An address lies in a buffer or a frame that is absent (R506). -/
def State.placedAbsent (s : State) (pa : Nat) : Bool :=
  let a := pa % 2 ^ 41
  s.isLocal pa && match regionOf a with
    | .buffer => s.sbAbsent a
    | .stack => s.frameAbsent a
    | _ => false

/-- The addresses of memory that a register names: ring and table bases, and both ends of the fault ring and of the
spill slots (R506). -/
def placedBy (name : String) (v : Word) : List Nat :=
  match name with
  | "DMV_Q_RING" => [F.DMV_Q_RING_BASE.of v * 64]
  | "DMV_Q_CPL" => [F.DMV_Q_CPL_BASE.of v * 32]
  | "DSP_JR_RING" => [F.DSP_JR_RING_BASE.of v * 128]
  | "DSP_JR_CPL" => [F.DSP_JR_CPL_BASE.of v * 32]
  | "ADT_CTX_TABLE" => [F.ADT_CTX_TABLE_BASE.of v * 4096]
  | "ADT_FAULT_RING" =>
    let a := F.ADT_FAULT_RING_BASE.of v * 32
    [a, a + 32 * 2 ^ F.ADT_FAULT_RING_SIZE.of v - 1]
  | "DSP_SPILL" => (List.range (F.DSP_SPILL_SLOTS.of v)).map fun i => (F.DSP_SPILL_BASE.of v + i) * 2 ^ 25
  | _ => []

/-- PLACE_ABSENT (R506): a register that the image has set names memory that is absent. -/
def State.checkPlaces (s : State) : State :=
  let bad := s.regs.any fun e =>
    match Reg.lookup e.1 with
    | some (d, _) => (placedBy d.name e.2).any s.placedAbsent
    | none => false
  if bad then s.setFld R.TOP_STATUS F.TOP_STATUS_PLACE_ABSENT 1 else s

/-- TOP_CAP0 and TOP_CAP1 show what the unit pass leaves (R510). -/
def State.showUnits (s : State) : State :=
  let movers := ((List.range 256).filter fun g => s.fld (R.DMV_STATUS g) F.DMV_STATUS_STATE != 2).length
  let spares := ((List.range 8).map fun d => s.fld (R.SBF_STATUS d) F.SBF_STATUS_SPARES_USED).sum
  (((s.setFld R.TOP_CAP0 F.TOP_CAP0_NME_ACTIVE
    (idMask ((List.range 16).filter fun n => s.engineState n != neVACANT))).setFld R.TOP_CAP0 F.TOP_CAP0_BUF_ABSENT
    (idMask ((List.range 8).filter fun d => s.flag (R.SBF_STATUS d) F.SBF_STATUS_ABSENT))).setFld R.TOP_CAP1
    F.TOP_CAP1_MOVERS movers).setFld R.TOP_CAP1 F.TOP_CAP1_SPARES_USED spares

/-- What a test of some type found, for one die or engine. -/
def found {n k : Nat} (l : List (Fin n × Fin k)) (a : Nat) : List Nat :=
  (l.filter fun e => e.1.val == a).map fun e => e.2.val

/-- The unit pass, and the way out of SELFTEST (R129, R260, R500, R501, R506, R507). -/
def State.unitPass (s : State) (r : UnitTests) : State :=
  if s.topState ≠ stSELFTEST then s
  else
    let s := (List.range 16).foldl (fun s n => s.showKat r n) s
    if r.ring ≠ 0 then s.fail fcRING
    else
      let banks := fun (d : Nat) => s.mergeAll dkBANK d 4224 (found r.banks d)
      let movers := fun (d : Nat) => s.mergeAll dkDATA_MOVER d 34 (found r.movers d)
      let rows := fun (n : Nat) => s.mergeAll dkROW_UNIT n 100 (found r.rows n)
      let t := (List.range 8).foldl (fun s d => (State.placeDie s d (banks d)).placeMovers d (movers d)) s
      let t := (List.range 16).foldl (fun s n => State.placeRows s n (rows n)) t
      let t := t.addDefects ((List.range 8).flatMap (fun d => banks d ++ movers d) ++
        (List.range 16).flatMap fun n => rows n ++ vacantEngine n (rows n))
      let t : State := { t with buffer := { t.buffer with placed := true } }
      let t := t.sbClearAll.checkPlaces.showUnits.showMet
      if t.linksMet then t.enterReady else t.enterTop stLINKS_DEGRADED

/-- Waiting defect entries are written to flash (R502): by SCH, or MGT, while R529 allows. -/
def State.flushDefects (s : State) : State :=
  if s.flashOk && (s.core (s.coreFor 2)).state == csRUNNING then s.defectFlush (defectRoom - s.boot.recorded) else s

/-- A package bridge fails (R20, R502). -/
def State.bridgeFailure (s : State) (b : Nat) : State :=
  if s.topState = stFAULT then s else (s.noteLoss dkBRIDGE b 0).fail fcBRIDGE

/-- The ring connection at the W port of an engine fails (R557), after 16 consecutive parity errors in one direction. -/
def State.ringConnectionFail (s : State) (n : Nat) : State :=
  let bad := fun p => decide (16 ≤ Tab.get (fun _ => 0) s.nme.ring.errors p)
  if s.topState ≠ stFAULT ∧ (bad (2 * n + 1) || bad (2 * westOf n)) = true then (s.noteLoss dkRING n 0).fail fcRING else s

end Sys2Proof.Machine
end

