-- ==== Sys2Proof/Machine/FwOps.lean ====
section
/-!
DEFINITION. What firmware serves in the mailboxes (16_interrupts_mailboxes, 17_firmware_processors): versions, HELLO,
attestation, loading and activation of the full image, status, quiesce, the defect list; and the round of site grants
(R518).
-/
namespace Sys2Proof.Machine

/-- The range of majors that the running full image supports, 0 when none runs. -/
def State.ifRange (s : State) : Nat × Nat :=
  match s.fw.running with
  | some i => (i.ifMin, i.ifMax)
  | none => (0, 0)

/-- The VERSION of an image, 0 when there is none. -/
def versionOf (i : Option ImageInfo) : Nat := (i.map ImageInfo.version).getD 0

/-- A measurement, 64 zero bytes when there is none (R473). -/
def measureOf (i : Option ImageInfo) : List Byte := (i.map ImageInfo.measure).getD (List.replicate 64 0)

/-- VERSION (R469). -/
def State.mbVersion (s : State) (i : Nat) : State :=
  s.mbServe i opVERSION fun s =>
    let (lo, hi) := s.ifRange
    s.mbRespond i scDONE rsOK
      (Word.bytes 2 lo ++ Word.bytes 2 hi ++ Word.bytes 2 (Config.interfaceMinor s.responder).toNat ++
        Word.bytes 2 s.topState ++ Word.bytes 4 (versionOf s.fw.sprout) ++ Word.bytes 4 (versionOf s.fw.running))

/-- The module refuses the driver (R468). -/
def State.enterRefused (s : State) : State := (s.enterTop stREFUSED).raise 822

/-- The verdicts of HELLO (R468). -/
def hvACCEPTED := 0
def hvDEFERRED := 1
def hvREFUSED := 2

/-- The payload of a HELLO response. -/
def State.helloBytes (s : State) (verdict : Nat) : List Byte :=
  Word.bytes 2 s.ifRange.1 ++ Word.bytes 2 s.ifRange.2 ++ Word.bytes 4 verdict

/-- The full image supports a driver's major. -/
def State.supports (s : State) (major : Nat) : Bool := decide (s.ifRange.1 ≤ major) && decide (major ≤ s.ifRange.2)

/-- HELLO (R468). -/
def State.mbHello (s : State) (i straps : Nat) : State :=
  s.mbServe i opHELLO fun s =>
    let major := s.mbMajor i
    let answer := fun (s : State) (verdict : Nat) => s.mbRespond i scDONE rsOK (s.helloBytes verdict)
    match s.fw.session, s.fw.running with
    | some m, _ => if major = m then answer s hvACCEPTED else s.mbRespond i scDONE rsVERSION_REFUSED []
    | none, none => answer { s with fw := { s.fw with deferred := some major } } hvDEFERRED
    | none, some _ =>
      if s.supports major then
        (answer { s with fw := { s.fw with session := some major } } hvACCEPTED).enterTraining straps
      else (answer s hvREFUSED).enterRefused

/-- The seed of the identity key (R471). -/
def State.idSeed (s : State) : List Byte := (Sha3.sha3 (s.fuses.secret ++ [0x44#8, 0x38#8, 0x32#8, 0x34#8, 0x2D#8, 0x49#8, 0x44#8])).take 32

/-- Bytes 0 to 511 of a report (R473). -/
def State.reportHead (s : State) (nonce : List Byte) : List Byte :=
  let about := s.fuses.serial.toNat + 2 ^ 48 * s.fld R.TOP_ID F.TOP_ID_FITTING +
    2 ^ 50 * (if s.fw.unified then 1 else 0) + 2 ^ 52 * s.topState
  let ezkai := if s.fw.ezkai.isEmpty then List.replicate 64 0#8 else s.fw.ezkai
  Word.bytes 4 0x52545441 ++ Word.bytes 2 1 ++ Word.bytes 2 0 ++ Word.bytes 8 about ++ nonce ++ Word.bytes 8 s.beatNow ++
    (List.range 64).map Config.germMeasure ++ measureOf s.fw.sprout ++ measureOf s.fw.running ++ measureOf s.fw.staged ++
    ezkai ++ (s.fuses.keyHash ++ List.replicate 64 0#8).take 64 ++ Word.bytes 4 (versionOf s.fw.sprout) ++
    Word.bytes 4 (versionOf s.fw.running) ++ Word.bytes 4 (versionOf s.fw.staged) ++
    Word.bytes 4 ((s.fw.running.map ImageInfo.svn).getD 0) ++ Word.bytes 1 s.fw.act ++ List.replicate 23 0#8

/-- A signed report (R473). -/
def State.report (s : State) (nonce : List Byte) : List Byte :=
  let head := s.reportHead nonce
  head ++ (List.range 4627).map (Config.mldsaSign s.idSeed (Sha3.sha3 head))

/-- ATTEST (R472). -/
def State.mbAttest (s : State) (i : Nat) : State :=
  s.mbServe i opATTEST fun s =>
    let req := s.mbBytes i 72
    let nonce := req.take 64
    match fieldAt req 64 1 with
    | 0 =>
      let l := s.report nonce
      State.mbRespond { s with fw := { s.fw with report := some (l, nonce) } } i scDONE rsOK (l.take 4096)
    | 1 =>
      match s.fw.report with
      | some (l, n) =>
        if n = nonce then s.mbRespond i scDONE rsOK (l.drop 4096) else s.mbRespond i scDONE rsBAD_ARGUMENT []
      | none => s.mbRespond i scDONE rsBAD_ARGUMENT []
    | _ => s.mbRespond i scDONE rsBAD_ARGUMENT []

/-- ID_KEY (R471). -/
def State.mbIdKey (s : State) (i : Nat) : State :=
  s.mbServe i opID_KEY fun s =>
    s.mbRespond i scDONE rsOK (Word.bytes 8 s.fuses.serial.toNat ++ (List.range 2592).map (Config.mldsaPublic s.idSeed))

/-- Every core that the mode runs starts (R459, R466). -/
def State.startCores (s : State) : State :=
  if s.fw.unified then s else (List.range 11).foldl (fun s c => s.setCoreState c csRUNNING) s

/-- The full image runs: a HELLO that was deferred is decided (R468). -/
def State.fullStarts (s : State) (info : ImageInfo) (straps : Nat) : State :=
  let s := State.startCores { s with fw := { s.fw with running := some info } }
  match s.fw.deferred with
  | some major =>
    let s : State := { s with fw := { s.fw with deferred := none } }
    if s.supports major then State.enterTraining { s with fw := { s.fw with session := some major } } straps
    else s.enterRefused
  | none => s

/-- The response payload of FW_LOAD (R467). -/
def loadBytes (l : List Byte) (step : Nat) : List Byte :=
  Word.bytes 4 (fieldAt l 8 4) ++ Word.bytes 4 step ++
    (if step = 1 ∨ step = 2 then List.replicate 64 0#8 else imageMeasure l)

/-- The image has been read (R466, R474). -/
def State.loadImage (s : State) (l : List Byte) (straps : Nat) : State :=
  let s : State := { s with fw := { s.fw with bulk := none } }
  let step := s.imageCheck l ikFULL
  let info := imageInfo l
  if s.topState = stAWAIT_FULL then
    if step = 0 then (s.mbRespond mbBULK scDONE rsOK (loadBytes l 0)).fullStarts info straps
    else s.mbRespond mbBULK scDONE rsVERIFY_FAILED (loadBytes l step)
  else
    let s : State := { s with fw := { s.fw with staged := none } }
    if step ≠ 0 then s.mbRespond mbBULK scDONE rsVERIFY_FAILED (loadBytes l step)
    else if versionOf s.fw.running < info.minPrev then s.mbRespond mbBULK scDONE rsBAD_ARGUMENT (loadBytes l 7)
    else (State.mbRespond { s with fw := { s.fw with staged := some info } } mbBULK scDONE rsOK (loadBytes l 0)).raise 821

/-- Where a bulk payload may lie (R455): 64-byte aligned memory, or the host window of the host bridge. -/
def State.bulkAllowed (s : State) (pa : Nat) : Bool :=
  pa % 64 == 0 && match regionOf (pa % 2 ^ 41) with
    | .buffer => true
    | .stack => true
    | .host => s.bridge == some (pa / 2 ^ 41)
    | _ => false

/-- The reads of a bulk payload leave over Thegief, at most 16 KiB each (R455). -/
def State.bulkReads (s : State) (pa n : Nat) : State :=
  let runs := cutRun 16384 (pa % 2 ^ 41) n
  let s : State := { s with fw := { s.fw with bulk := some (runs.length, scDONE, []) } }
  runs.foldl (fun s r =>
    s.sendRequest { Husk.zero with
      typ := Husk.RD, dest := pa / 2 ^ 41, cls := s.fwClass, len := r.2, rid := coreRid 0, addr := r.1 }
      (.bulk (r.1 - pa % 2 ^ 41))) s

/-- A read of a bulk payload has been answered; each part counts once. -/
def State.bulkAnswer (s : State) (off status : Nat) (bs : List Byte) : State :=
  match s.fw.bulk with
  | some (n, c, t) =>
    if t.any fun e => e.1 == off then s
    else { s with fw := { s.fw with bulk := some (n - 1, worse c status, Tab.put t off bs) } }
  | none => s

/-- FW_LOAD (R455, R466, R474): a payload in this module is read at once; one elsewhere when its reads have been
answered. -/
def State.fwLoad (s : State) (straps : Nat) : State :=
  s.mbServe mbBULK opFW_LOAD fun s =>
    let pa := s.mbBulk mbBULK
    let len := s.mbLen mbBULK
    let n := (len + 63) / 64 * 64
    match s.fw.bulk with
    | some (0, c, t) =>
      if c = scDONE then s.loadImage ((t.flatMap Prod.snd).take len) straps
      else State.mbRespond { s with fw := { s.fw with bulk := none } } mbBULK c 0 []
    | some _ => s
    | none =>
      if s.fw.act ≠ acNONE then s.mbRespond mbBULK scDONE rsWRONG_STATE []
      else if !s.bulkAllowed pa then s.mbRespond mbBULK scDONE rsBAD_ARGUMENT []
      else if s.inHouse pa then
        let (c, bs, s) := s.memRead ⟨0, s.fwClass, 0, 300001⟩ (pa % 2 ^ 41) n true
        if c = scDONE then s.loadImage (bs.take len) straps else s.mbRespond mbBULK c 0 []
      else if n = 0 then s.loadImage [] straps
      else s.bulkReads pa n

/-- FW_ACTIVATE (R475). -/
def State.mbActivate (s : State) (i : Nat) : State :=
  s.mbServe i opFW_ACTIVATE fun s =>
    let v := fieldAt (s.mbBytes i 8) 0 8
    let put := fun (act at' : Nat) =>
      State.mbRespond { s with fw := { s.fw with act := act, actAt := at' } } i scDONE rsOK []
    if s.fw.act = acACTIVATING then s.mbRespond i scDONE rsWRONG_STATE []
    else if bit v 63 then put acNONE s.fw.actAt
    else if s.fw.staged.isNone then s.mbRespond i scDONE rsWRONG_STATE []
    else put acARMED (v % 2 ^ 48)

/-- A core's entry in FW_STATUS (R481). -/
def CoreState.entry (x : CoreState) : List Byte :=
  Word.bytes 1 x.state ++ Word.bytes 1 x.reason ++ Word.bytes 2 0 ++ Word.bytes 4 (min x.restarts (2 ^ 32 - 1)) ++
    Word.bytes 8 x.beat

/-- FW_STATUS (R481). -/
def State.mbStatus (s : State) (i : Nat) : State :=
  s.mbServe i opFW_STATUS fun s =>
    let flag := fun (b : Bool) (k : Nat) => if b then 2 ^ k else 0
    let w := s.fw.act + flag s.fw.staged.isSome 3 + flag s.emergency 4 + flag s.fw.unified 5 + 2 ^ 16 * s.fw.actAt
    s.mbRespond i scDONE rsOK (Word.bytes 8 w ++ Word.bytes 4 (versionOf s.fw.running) ++
      Word.bytes 4 (versionOf s.fw.staged) ++ (List.range 11).flatMap fun c => (s.core c).entry)

/-- DEFECTS (R504). -/
def State.mbDefects (s : State) (i : Nat) : State :=
  s.mbServe i opDEFECTS fun s =>
    let first := fieldAt (s.mbBytes i 8) 0 2
    let l := (s.boot.defects.drop first).take 254
    let w := s.boot.defects.length % 2 ^ 16 + 2 ^ 16 * first + 2 ^ 32 * l.length +
      2 ^ 40 * s.fld R.TOP_DEFECT F.TOP_DEFECT_REC_FULL
    s.mbRespond i scDONE rsOK (Word.bytes 8 w ++ Word.bytes 8 (s.reg R.TOP_CAP0).toNat ++
      Word.bytes 8 (s.reg R.TOP_CAP1).toNat ++ Word.bytes 8 0 ++ l.flatMap DefectEntry.bytes)

/-- QUIESCE begins (R454): every queue and ring stops at the TAIL it holds; under ABORT its work is reset. -/
def State.mbQuiesce (s : State) (i : Nat) : State :=
  s.mbServe i opQUIESCE fun s =>
    let v := fieldAt (s.mbBytes i 8) 0 8
    let limit := v / 2 ^ 32
    if s.fw.quiesce.isSome then s
    else if limit = 0 ∨ 60000 < limit then s.mbRespond i scDONE rsBAD_ARGUMENT []
    else
      let s : State := { s with fw := { s.fw with quiesce := some (i, 0, false) } }
      let s := s.liveQueues.foldl (fun s k => s.setRing k { s.ring k with limit := some (s.qTail k) }) s
      if bit v 0 then s.resetWork else s

/-- LIMIT has passed: what has not completed is reset (R454). -/
def State.quiesceLimit (s : State) : State :=
  match s.fw.quiesce with
  | some (_, _, false) => s.resetWork
  | _ => s

/-- A queue or ring has completed its work up to the TAIL at which the quiesce stops it, or has been reset. -/
def State.quietQueue (s : State) (k : Nat) : Bool :=
  let x := s.ring k
  s.qState k == qsLOST || s.qState k == qsERROR ||
    (s.qDone k == s.startLimit k && s.qStarted k == s.qDone k && x.due.isEmpty && !x.writing && !x.fetching && !x.resetting)

/-- Every link tag of the module is free (R387, R454). -/
def State.tagsFree (s : State) : Bool := s.tagWait.isEmpty && s.tags.all fun e => e.2.busy.isNone

/-- The response to QUIESCE (R454), once the work has completed and every tag is free. -/
def State.quiesceDone (s : State) : State :=
  match s.fw.quiesce with
  | some (i, n, false) =>
    if s.liveQueues.all s.quietQueue && s.tagsFree then
      State.mbRespond { s with fw := { s.fw with quiesce := some (i, n, true) } } i scDONE rsOK (Word.bytes 8 (n % 2 ^ 32))
    else s
  | _ => s

/-- The budget is computed, and PWR, or MGT, arms every grant that changes (R517, R518). -/
def State.budgetRound (s : State) : State :=
  let s := s.budget
  if s.flag R.PWR_BUDGET F.PWR_BUDGET_MANUAL || (s.core s.pwrCore).state != csRUNNING then s
  else
    s.topDies.foldl (fun s d =>
      let g := R.TDI_PWR_GRANT d
      let now := if s.flag g F.TDI_PWR_GRANT_ARMED then s.fld g F.TDI_PWR_GRANT_NEXT_W
        else s.fld (R.TDI_PWR_STATUS d) F.TDI_PWR_STATUS_SCHED_W
      let w := s.shareOf d
      if w = now || s.siteReset d then s
      else s.coreWrite s.pwrCore g (BitVec.ofNat 64 (2 ^ 62 + 2 ^ 48 * w +
        (s.beatNow + s.fld R.PWR_BUDGET F.PWR_BUDGET_LEAD) % 2 ^ 48))) s

end Sys2Proof.Machine
end

