-- ==== Sys2Proof/Machine/Sideband.lean ====
section
/-!
DEFINITION. The sideband (22_connectors_ratings): the reference clock, the I3C target and the TAP (R577, R581 to R584).
-/
namespace Sys2Proof.Machine

/-- The state with its pins changed. -/
def State.onPins (s : State) (f : PinState → PinState) : State := { s with pins := f s.pins }

/-- REFCLK stops, or returns; a module that waits in GERM for it starts (R577). -/
def State.refclkLoss (s : State) : State := s.onPins fun x => { x with refclk := false }
def State.refclkReturn (s : State) : State :=
  let t := s.onPins fun x => { x with refclk := true }
  if s.pins.refclk = false ∧ s.power.on = true ∧ s.topState = stGERM then t.germBoot else t

/-- The I3C port answers (R581): from power good, through the hold-up. -/
def State.i3cLive (s : State) (act : State → State) : State := if s.power.on then act s else s

/-- The answer of the next private read (R582). -/
def State.i3cReply (s : State) (r : Option (Nat × Word)) : State := s.onPins fun x => { x with reply := r }

/-- A private write asks for what R582 does not give: the next private read answers DESCRIPTOR_ERROR with zeros. -/
def State.i3cBad (s : State) : State := s.i3cReply (some (scDESCRIPTOR_ERROR, 0))

/-- The offset in a private write, when it is one (R582): bits [2:0] and [31:28] are 0. -/
def i3cOffset (bs : List Byte) : Option Nat :=
  let off := fieldAt bs 1 4
  if off % 8 = 0 ∧ off < 2 ^ 28 then some off else none

/-- A private write (R582): 13 bytes with 0x02 write a register, 5 with 0x01 ask for a read. -/
def State.i3cWrite (s : State) (bs : List Byte) : State :=
  match bs.length, fieldAt bs 0 1, i3cOffset bs with
  | 13, 2, some off => s.regWrite off (BitVec.ofNat 64 (fieldAt bs 5 8)) ⟨0, BitVec.ofNat 6 s.ownId, false, true⟩
  | 5, 1, some off =>
    let (l, s) := s.regRead off 8
    s.i3cReply (some (scDONE, BitVec.ofNat 64 (Word.ofBytes l)))
  | _, _, _ => s.i3cBad

/-- A private read (R582): a status and 8 bytes of value. -/
def State.i3cRead (s : State) : State :=
  let (c, v) := s.pins.reply.getD (scDESCRIPTOR_ERROR, 0)
  (s.i3cReply none).emit (.answer .i3c c (Word.bytes 1 c ++ Word.bytes 8 v.toNat))

/-- The bytes of a CCC that reads go out. -/
def State.i3cSend (s : State) (bs : List Byte) : State := s.emit (.answer .i3c scDONE bs)

/-- The static address (R581). -/
def State.i3cStatic (s : State) : Nat := 0x28 + s.pins.straps.toNat

/-- ENTDAA assigns a dynamic address to a target that has none. -/
def State.i3cEntdaa (s : State) (a : BitVec 7) : State :=
  if s.pins.dynamic.isNone then s.onPins fun x => { x with dynamic := some a } else s

/-- SETDASA assigns one to the target of a static address. -/
def State.i3cSetdasa (s : State) (static a : BitVec 7) : State :=
  if static.toNat = s.i3cStatic then s.onPins fun x => { x with dynamic := some a } else s

/-- RSTDAA clears it. -/
def State.i3cRstdaa (s : State) : State := s.onPins fun x => { x with dynamic := none }

/-- GETPID: the provisioned ID, its most significant byte first. -/
def State.i3cPid (s : State) : State := s.i3cSend (Word.bytes 6 s.fuses.serial.toNat).reverse

/-- GETSTATUS: R581 gives the two bytes no meaning. -/
def State.i3cStatus (s : State) : State :=
  let (bs, s) := s.freeBytes 2
  s.i3cSend bs

/-- GETMWL and GETMRL: the greatest write and read lengths. -/
def maxWrite := 13
def maxRead := 9

/-- The TAP instructions that the state holds (R583). -/
def tapBYPASS := 0
def tapIDCODE := 1
def tapSAMPLE := 2
def tapEXTEST := 3

/-- What an instruction that captures shifts out goes to the test equipment. -/
def State.tapSend (s : State) (bs : List Byte) : State := s.emit (.answer .tap scDONE bs)

/-- The TAP takes an instruction. -/
def State.tapTake (s : State) (i : Nat) : State := s.onPins fun x => { x with tap := i }

/-- The IDCODE register (R583). -/
def State.idcode (s : State) : Nat :=
  s.fuses.rev.toNat % 16 * 2 ^ 28 + 0x0824 * 2 ^ 12 + Config.manufacturer.toNat * 2 + 1

/-- The boundary chain captures the pins, which shift out as `load` shifts in (R583). -/
def State.tapChain (s : State) (i : Nat) (pins load : BitVec 20) : State :=
  ((s.tapTake i).onPins fun x => { x with chain := load }).tapSend (Word.bytes 3 pins.toNat)

/-- EXTEST drives the pins from the chain while BSCAN_EN is high, and acts as BYPASS otherwise (R584). -/
def State.tapExtest (s : State) (pins load : BitVec 20) : State :=
  if s.pins.bscan then s.tapChain tapEXTEST pins load else s.tapTake tapBYPASS

end Sys2Proof.Machine
end

