-- ==== Sys2Proof/Machine/TdiIssue.lean ====
section
/-!
DEFINITION. The requests of a top die (R412 to R420): the checks of a command, its accesses, fences and token waits.
-/
namespace Sys2Proof.Machine

/-- The context and class of a port (R412). -/
def State.siteCtx (s : State) (k : Nat) : Nat := s.fld (tdCfg k) F.TDI_PORT_CFG_CTX
def State.siteClass (s : State) (k : Nat) : Nat := s.fld (tdCfg k) F.TDI_PORT_CFG_CLASS

/-- The requester identity of a port (R381). -/
def siteRid (k : Nat) : Nat := k / 64 * 2048 + 576 + k % 64

/-- A port's requester, with a stream of its own for each SID (R189). -/
def State.siteAccess (s : State) (k : Nat) (w : BitVec 128) : Access :=
  ⟨s.siteCtx k, s.siteClass k, tdHint w, 10000000 + k * 256 + tdSid w⟩

/-- The bytes that an RD or WR names (R414). -/
def tdBytes (w : BitVec 128) : Nat := 64 * (tdLen w + 1)

/-- The size of an atomic (R414). -/
def tdSize (w : BitVec 128) : Nat := if tdAsz w = 0 then 4 else 8

/-- A pod address breaks R53, or its run leaves its frame, partition or range (R416). The host window is reserved here
unless this module is the accepted bridge. -/
def State.badRun (s : State) (pa len : Nat) : Bool :=
  decide (2 ^ 47 ≤ pa) || !runInside (pa % 2 ^ 41) len ||
    (pa / 2 ^ 41 == s.ownId && regionOf (pa % 2 ^ 41) == .host && s.bridge != some s.ownId)

/-- The fields of a command that must be 0, or hold a reserved value (R414, R416). -/
def tdReserved (w : BitVec 128) : Bool :=
  let op := tdOp w
  op == 0 || decide (tdWAITTOK < op) ||
  Word.slice w.toNat 31 27 != 0 || Word.slice w.toNat 119 88 != 0 ||
  (if op = tdRD then tdHint w == 3 else tdHint w != 0) ||
  (op != tdRD && op != tdWR && tdLen w != 0) ||
  (if op = tdAT ∨ op = tdATR then tdAop w == 0 || decide (0xB < tdAop w)
    else if op = tdFENCE then tdAop w == 0 || decide (4 < tdAop w) || tdAsz w != 0
    else tdAop w != 0 || tdAsz w != 0) ||
  (op == tdWAITTOK && decide (2 ^ 19 ≤ tdAddr w))

/-- The address of a command breaks R53 or R416, or is that of an atomic outside the shared buffer (R133). -/
def State.tdBadAddr (s : State) (w : BitVec 128) : Bool :=
  let op := tdOp w
  if op = tdRD ∨ op = tdWR then tdAddr w % 64 != 0 || s.badRun (tdAddr w) (tdBytes w)
  else if op = tdAT ∨ op = tdATR then
    tdAddr w % tdSize w != 0 || s.badRun (tdAddr w) (tdSize w) || regionOf (tdAddr w % 2 ^ 41) != .buffer
  else false

/-- What a command is answered with without being carried out (R412, R416, R421); DONE when it is carried out. -/
def State.tdCheck (s : State) (k : Nat) (c : SiteCommand) : Nat :=
  if tdReserved c.word || s.tdBadAddr c.word then scDESCRIPTOR_ERROR
  else if !s.flag (tdCfg k) F.TDI_PORT_CFG_EN then scCONTEXT_REJECT
  else if c.bad then scDATA_ERROR
  else scDONE

/-- A command names a register. -/
def tdToReg (w : BitVec 128) : Bool :=
  (tdOp w == tdRD || tdOp w == tdWR) && regionOf (tdAddr w % 2 ^ 41) == .register

/-- The command leaves the buffer, and its credits go back (R413). -/
def State.siteTake (s : State) (k : Nat) (c : SiteCommand) : State :=
  let x := s.sitePort k
  (s.setSitePort k { x with queue := x.queue.filter fun y => tdTag y.word != tdTag c.word }).siteCredits k 1 c.held

/-- A command leaves the buffer and is answered. -/
def State.siteEnd (s : State) (k : Nat) (c : SiteCommand) (status : Nat) (bs : List Byte) : State :=
  (s.siteTake k c).siteAnswer k (tdTag c.word) status (answerFlits (tdOp c.word) status bs)

/-- The write of a register that a command carries, when it is one aligned 8-byte lane (R6, R415). -/
def tdLane (data : List (Option Byte)) : Option (Nat × List Byte) :=
  match givenRuns 0 data with
  | [(n, bs)] => if n % 8 = 0 ∧ bs.length = 8 then some (n, bs) else none
  | _ => none

/-- A husk of a port's (R381). -/
def State.siteHusk (s : State) (k typ pa len opx : Nat) (payload : List Byte) : Husk :=
  { Husk.zero with
    typ := typ, dest := pa / 2 ^ 41, cls := s.siteClass k, len := len, rid := siteRid k, addr := pa % 2 ^ 41,
    ctx := s.siteCtx k, opx := opx, payload := payload }

/-- The operands of an atomic, from its flit (R415): the swap or only operand, and the compare operand. -/
def tdOperands (c : SiteCommand) : List Byte × List Byte :=
  let bs := (c.flits.getD 0 []).map fun b => b.getD 0
  (bs.take (tdSize c.word), (bs.drop 8).take (tdSize c.word))

/-- The husks by which a request goes to another module, or to the host adapter (R55, R380). -/
def State.siteHusks (s : State) (k : Nat) (c : SiteCommand) : List Husk :=
  let w := c.word
  let pa := tdAddr w
  if tdOp w = tdRD then [s.siteHusk k Husk.RD pa (tdBytes w) (tdHint w) []]
  else if tdOp w = tdWR then
    if tdToReg w then
      match tdLane (c.flits.flatMap id) with
      | some (n, bs) => [s.siteHusk k Husk.WR (pa + n) 8 0 bs]
      | none => []
    else (givenRuns 0 (c.flits.flatMap id)).map fun r => s.siteHusk k Husk.WR (pa + r.1) r.2.length 0 r.2
  else
    let (x, y) := tdOperands c
    let body := if tdAop w = 2 then y ++ x else x
    [s.siteHusk k (if tdOp w = tdAT then Husk.AT else Husk.ATR) pa body.length (tdAop w) body]

/-- A request goes out over Thegief; one without a byte to write has nothing to wait for. -/
def State.siteSend (s : State) (k : Nat) (c : SiteCommand) : State :=
  let hs := s.siteHusks k c
  if hs.isEmpty then s.siteEnd k c scDONE []
  else
    let s := s.siteTake k c
    let x := s.sitePort k
    let s := s.setSitePort k { x with
      out := x.out ++ [⟨tdTag c.word, tdOp c.word, tdToReg c.word, hs.length, scDONE, []⟩] }
    hs.foldl (fun s h => s.sendRequest h (.site (k / 64) (k % 64) (tdTag c.word))) s

/-- A read of this module's memory or registers (R418). -/
def State.siteRead (s : State) (k : Nat) (c : SiteCommand) : State :=
  let a := tdAddr c.word % 2 ^ 41
  if regionOf a = .register then
    let r := s.regRead (a - regBase) (tdBytes c.word)
    r.2.siteEnd k c scDONE r.1
  else
    let r := s.memRead (s.siteAccess k c.word) a (tdBytes c.word) true
    r.2.2.siteEnd k c r.1 r.2.1

/-- A write of this module's memory or registers (R415): one of a register leaves the buffer first, as it may change the
port itself. -/
def State.siteWrite (s : State) (k : Nat) (c : SiteCommand) : State :=
  let a := tdAddr c.word % 2 ^ 41
  let data := c.flits.flatMap id
  if regionOf a = .register then
    let s := s.siteTake k c
    let s := match tdLane data with
      | some (n, bs) => s.regWriteBytes (a - regBase + n) bs
          ⟨BitVec.ofNat 14 (siteRid k), BitVec.ofNat 6 s.ownId, false, false⟩
      | none => s
    s.siteAnswer k (tdTag c.word) scDONE []
  else
    let r := s.memWrite (s.siteAccess k c.word) a data
    r.2.siteEnd k c r.1 []

/-- An atomic on this module's shared buffer (R415). -/
def State.siteAtomic (s : State) (k : Nat) (c : SiteCommand) : State :=
  let o := tdOperands c
  let o := if tdAop c.word = 2 then (o.2, o.1) else o
  let r := s.memAtomic (s.siteAccess k c.word) (tdAddr c.word % 2 ^ 41) (tdAop c.word) (tdSize c.word)
    (Word.ofBytes o.1) (Word.ofBytes o.2)
  r.2.2.siteEnd k c r.1 r.2.1

/-- A request of this module's memory or registers (R415, R418). -/
def State.siteLocal (s : State) (k : Nat) (c : SiteCommand) : State :=
  if tdOp c.word = tdRD then s.siteRead k c
  else if tdOp c.word = tdWR then s.siteWrite k c
  else if regionOf (tdAddr c.word % 2 ^ 41) ≠ .buffer then s.siteEnd k c scDESCRIPTOR_ERROR []
  else s.siteAtomic k c

/-- Writes of a port that a fence waits for (R105). -/
def State.siteWaiting (s : State) (k : Nat) : Bool :=
  s.fenceWaits fun w =>
    match w with
    | .site d p tag => 64 * d + p == k && (s.sitePort k).out.any fun r => r.tag == tag && r.op != tdRD
    | _ => false

/-- A FENCE of a kind is satisfied (R105, R419). -/
def State.siteFenceKept (s : State) (k kind : Nat) : Bool :=
  let x := s.sitePort k
  let reads := x.out.all fun r => r.op != tdRD && r.op != tdATR
  match kind with
  | 1 => reads
  | 2 => !s.siteWaiting k
  | 3 => reads && !s.siteWaiting k
  | _ => x.out.isEmpty

/-- An access of a register waits for the port's register accesses, and a write of one for every write (R101, R102). -/
def State.siteRegHeld (s : State) (k : Nat) (w : BitVec 128) : Bool :=
  tdToReg w && (s.sitePort k).out.any fun r => r.toReg || (tdOp w == tdWR && r.op != tdRD)

/-- Whether a WAITTOK's token is present (R420). -/
def State.siteToken (s : State) (w : BitVec 128) : Bool :=
  s.tokPresent (Word.slice (tdAddr w) 2 0) (Word.slice (tdAddr w) 14 3) (Word.slice (tdAddr w) 18 15)

/-- The WAITTOK commands that may wait: those before which no FENCE stands (R419, R420). -/
def SitePort.openWaits (x : SitePort) : List SiteCommand :=
  (x.queue.takeWhile fun c => tdOp c.word != tdFENCE).filter fun c => tdOp c.word == tdWAITTOK

/-- A WAITTOK begins to wait. -/
def State.siteWait (s : State) (k : Nat) (c : SiteCommand) : State :=
  let x := s.sitePort k
  s.setSitePort k { x with
    queue := x.queue.map fun y => if tdTag y.word = tdTag c.word then { y with waiting := true } else y }

/-- The oldest command of a port is answered or issued, unless it must wait: the state, and whether it went. -/
def State.siteHead (s : State) (k : Nat) (c : SiteCommand) : Bool × State :=
  let w := c.word
  if tdOp w = tdWAITTOK ∨ c.lacking then (false, s)
  else
    let st := s.tdCheck k c
    if st ≠ scDONE then (true, s.siteEnd k c st [])
    else if tdOp w = tdFENCE then
      if s.siteFenceKept k (tdAop w) then (true, s.siteEnd k c scDONE []) else (false, s)
    else if s.siteRegHeld k w then (false, s)
    else if tdAddr w / 2 ^ 41 = s.ownId ∧ regionOf (tdAddr w % 2 ^ 41) ≠ .host then (true, s.siteLocal k c)
    else (true, s.siteSend k c)

/-- One command of a port moves on: a WAITTOK that may wait, else the oldest. -/
def State.siteStep (s : State) (k : Nat) : Bool × State :=
  let x := s.sitePort k
  match x.openWaits.find? fun c => !c.waiting || s.siteToken c.word with
  | some c =>
    if c.waiting then (true, s.siteEnd k c scDONE [])
    else
      let st := s.tdCheck k c
      (true, if st = scDONE then s.siteWait k c else s.siteEnd k c st [])
  | none =>
    match x.queue with
    | c :: _ => s.siteHead k c
    | [] => (false, s)

/-- A port's commands move on as far as they can. -/
def State.sitePump : Nat → State → Nat → State
  | 0, s, _ => s
  | n + 1, s, k =>
    let (went, s) := s.siteStep k
    if went then State.sitePump n s k else s

/-- The commands of a port go on. A command moves at most twice: into its wait, and out. -/
def State.siteGo (s : State) (k : Nat) : State := s.sitePump (2 * (s.sitePort k).queue.length) k

/-- A response for a request over Thegief (R388, R418): the last one answers its tag. -/
def State.siteReturn (s : State) (k tag status : Nat) (bs : List Byte) : State :=
  let x := s.sitePort k
  match x.out.find? fun r => r.tag == tag with
  | none => s
  | some r =>
    let r := { r with left := r.left - 1, status := worse r.status status, data := r.data ++ bs }
    if r.left = 0 then
      ((s.setSitePort k { x with out := x.out.filter fun y => y.tag != tag }).siteAnswer k tag r.status
        (answerFlits r.op r.status r.data)).siteGo k
    else s.setSitePort k { x with out := x.out.map fun y => if y.tag = tag then r else y }

/-- WAIT_TMO has passed for a WAITTOK that waits (R420). -/
def State.siteWaitTimeout (s : State) (k tag : Nat) : State :=
  match (s.sitePort k).queue.find? fun c => tdTag c.word == tag && c.waiting with
  | some c => (s.siteEnd k c scTIMEOUT []).siteGo k
  | none => s

/-- The ports with commands that wait look again: a token may have come, or a write have reached its transmit queue. -/
def State.sitesGo (s : State) : State :=
  (s.sites.filter fun e => !e.2.queue.isEmpty).foldl (fun s e => s.siteGo e.1) s

/-- A command word of a row: an open site takes it, and the port goes on (R409, R412 to R420). -/
def State.tdiCommand (s : State) (d p op : Nat) (w : BitVec 128) : State :=
  let k := 64 * d + p
  if s.siteOpen d ∧ (tdOp w = op ∨ tdOp w = 0 ∨ tdWAITTOK < tdOp w) then (s.siteCommand k w).siteGo k else s

/-- A data flit: an open site takes it, and the port goes on. -/
def State.tdiFlit (s : State) (d p : Nat) (data : BitVec 512) (mask : BitVec 64) (par : Byte) : State :=
  let k := 64 * d + p
  if s.siteOpen d then (s.siteFlit k data mask par).siteGo k else s

end Sys2Proof.Machine
end

