-- ==== Sys2Proof/Machine/TglRx.lean ====
section
/-!
DEFINITION. Husks as a port receives them (R378 to R396, R404, R405): the checks of R384 and of audit mode, the requests
of other modules and of the host adapter, forwarding, multicast, barriers, responses and credit returns.
-/
namespace Sys2Proof.Machine

/-- LEN agrees with the payload and with the limits of the type (R380, R384). -/
def lenGood (h : Husk) : Bool :=
  let n := h.payload.length
  if h.typ = Husk.RD then n == 0 && decide (1 ≤ h.len ∧ h.len ≤ 16384)
  else h.len == n &&
    (if h.typ = Husk.WR then decide (1 ≤ n ∧ n ≤ 16384)
    else if h.typ = Husk.AT ∨ h.typ = Husk.ATR then (if h.opx = 2 then [8, 16].contains n else [4, 8].contains n)
    else if h.typ = Husk.MCW then decide (17 ≤ n ∧ n ≤ 16384)
    else if h.typ = Husk.BAR ∨ h.typ = Husk.SNAP then n == 16
    else if h.typ = Husk.MBAR then n == 32
    else if h.typ = Husk.RSP then decide (n ≤ 16384)
    else if h.typ = Husk.CRD then n == 0
    else true)

/-- The unit of a requester identity is one of R381. -/
def ridGood (rid : Nat) : Bool :=
  let u := rid % 2048
  decide (u < 514) || decide (576 ≤ u ∧ u < 640) || decide (1024 ≤ u ∧ u < 1035) || u == 2047

/-- A barrier's payload keeps its reserved bits 0 (R386). -/
def barrierGood (opx : Nat) (body : List Byte) : Bool :=
  decide (opx ≤ 1) && zeroAt body 8 16 && (opx != 0 || decide (Word.ofBytes (body.take 8) < 2 ^ 19))

/-- Reserved types, fields and values are not used (R379 to R384, R539). `host`: the husk comes from the adapter, whose
RID the bridge replaces. -/
def fieldsGood (hdr : BitVec 128) (h : Husk) (host : Bool) : Bool :=
  Husk.headerCanonical hdr && decide (1 ≤ h.typ ∧ h.typ ≤ Husk.SNAP) &&
    (!Husk.isRequest h.typ || host || ridGood h.rid) &&
    (if h.typ = Husk.RD then decide (h.opx ≤ 2)
    else if h.typ = Husk.AT ∨ h.typ = Husk.ATR then decide (1 ≤ h.opx ∧ h.opx ≤ 0xB)
    else if h.typ = Husk.WR ∨ h.typ = Husk.MCW then h.opx == 0
    else if h.typ = Husk.BAR then barrierGood h.opx h.payload
    else if h.typ = Husk.MBAR then barrierGood h.opx (h.payload.drop 16)
    else if h.typ = Husk.RSP then decide (h.status ≤ scABORTED)
    else if h.typ = Husk.SNAP then
      zeroAt h.payload 3 8 && zeroAt h.payload 14 16 && decide (((h.payload.getD 2 0)).toNat < 64)
    else true)

/-- The multicast prefix keeps its reserved bytes 0 (R383). -/
def prefixGood (h : Husk) : Bool := !multicastHusk h || zeroAt h.payload 9 16

/-- The response to a request (R385). -/
def responseTo (h : Husk) (src status : Nat) (data : List Byte) : Husk :=
  { Husk.zero with
    typ := Husk.RSP, dest := h.src, src := src, tag := h.tag, epoch := h.epoch, cls := h.cls, len := data.length,
    status := status, mc := multicastHusk h, payload := data }

/-- A request is answered. -/
def State.answerHusk (s : State) (h : Husk) (status : Nat) (data : List Byte) : State :=
  s.forwardHusk (responseTo h s.ownId status data)

/-- The bytes that a request names. -/
def huskRun (h : Husk) : Nat :=
  if h.typ = Husk.BAR then (if h.opx = 0 then 0 else 8)
  else if h.typ = Husk.AT ∨ h.typ = Husk.ATR then (if h.opx = 2 then h.len / 2 else h.len)
  else h.len

/-- A request's address breaks R53 or R385 at this module. -/
def State.badTarget (s : State) (h : Husk) : Bool :=
  if h.typ = Husk.BAR ∧ h.opx = 0 then false
  else
    !runInside h.addr (huskRun h) || (regionOf h.addr == .host && s.bridge != some s.ownId) ||
      (h.typ == Husk.BAR && (h.addr % 8 != 0 || (regionOf h.addr != .stack && regionOf h.addr != .buffer)))

/-- The requester of a husk from another module, with a stream of its own (R189, R385). -/
def huskAccess (h : Husk) : Access :=
  ⟨h.ctx, h.cls, if h.typ = Husk.RD then h.opx % 4 else 0, 100000 + h.src * 16384 + h.rid⟩

/-- An atomic of a husk (R380): compare operand first for CAS. -/
def State.huskAtomic (s : State) (h : Husk) : Nat × List Byte × State :=
  if regionOf h.addr != .buffer then (scDESCRIPTOR_ERROR, [], s)
  else
    let n := huskRun h
    s.memAtomic (huskAccess h) h.addr h.opx n (Word.ofBytes (h.payload.take n)) (Word.ofBytes ((h.payload.drop n).take n))

/-- An access of this module's memory or registers that a husk asks for (R385): its status and bytes. -/
def State.serveHusk (s : State) (h : Husk) : Nat × List Byte × State :=
  if regionOf h.addr = .register then
    if h.typ = Husk.RD then
      let r := s.regRead (h.addr - regBase) h.len
      (scDONE, r.1, r.2)
    else if h.typ = Husk.WR then
      (scDONE, [], s.regWriteBytes (h.addr - regBase) h.payload
        ⟨BitVec.ofNat 14 h.rid, BitVec.ofNat 6 h.src, true, false⟩)
    else (scDESCRIPTOR_ERROR, [], s)
  else if s.topState ≠ stREADY then (scABORTED, [], s)
  else if h.typ = Husk.RD then s.memRead (huskAccess h) h.addr h.len true
  else if h.typ = Husk.WR then
    let r := s.memWrite (huskAccess h) h.addr (allBytes h.payload)
    (r.1, [], r.2)
  else
    let r := s.huskAtomic h
    (r.1, if h.typ = Husk.ATR then r.2.1 else [], r.2.2)

/-- A barrier waits at the port it came on (R116). -/
def State.holdBarrier (s : State) (p : Nat) (h : Husk) : State :=
  s.setPort p { s.port p with barriers := (s.port p).barriers ++ [h] }

/-- A unicast request to this module (R385, R386). -/
def State.rxRequest (s : State) (p : Nat) (h : Husk) (hdr : BitVec 128) : State :=
  if s.badTarget h then (s.auditHusk p 14 hdr).answerHusk h scDESCRIPTOR_ERROR []
  else if h.typ = Husk.BAR then s.holdBarrier p h
  else if regionOf h.addr = .host then
    if h.typ = Husk.RD ∨ h.typ = Husk.WR then
      s.sendRequest { h with dest := s.ownId, hops := 0 } (.relay h.src h.tag h.epoch h.cls)
    else s.answerHusk h scDESCRIPTOR_ERROR []
  else
    let r := s.serveHusk h
    r.2.2.answerHusk h r.1 r.2.1

/-- A multicast copy goes into a port's fork queue, or is dropped (R395, R396). -/
def State.forkCopy (s : State) (q : Nat) (h : Husk) : State :=
  let x := s.port q
  if !s.portCarries q then s.failCopy h scLINK_DOWN 8
  else if forkRoom x.fork h then
    ((s.setPort q { x with fork := x.fork ++ [h] }).bump (R.TGL_PORT_CNT2 q) F.TGL_PORT_CNT2_FORWARDED).forkPump q
  else s.dropCopy q h

/-- A multicast write is delivered here (R395). -/
def State.deliverCopy (s : State) (p : Nat) (h : Husk) (hdr : BitVec 128) : State :=
  if h.typ = Husk.MBAR then s.holdBarrier p h
  else
    let bs := h.payload.drop 16
    if !runInside h.addr bs.length || (regionOf h.addr != .stack && regionOf h.addr != .buffer) then
      (s.auditHusk p 14 hdr).answerHusk h scDESCRIPTOR_ERROR []
    else if s.topState ≠ stREADY then s.answerHusk h scABORTED []
    else
      let r := s.memWrite (huskAccess h) h.addr (allBytes bs)
      r.2.answerHusk h r.1 []

/-- A received multicast (R395): delivery here, a copy on each branch but the one it came on, and a response for each
target that no branch reaches. -/
def State.rxMulticast (s : State) (p : Nat) (h : Husk) (hdr : BitVec 128) : State :=
  let mask := mcMask h.payload
  let g := mcGroup h.payload
  let tree := s.branches g
  let own := s.ownBit
  let here := (mask &&& own) != 0 && s.flag (R.TGL_MC_STATE g) F.TGL_MC_STATE_LOCAL
  let s := if here then s.deliverCopy p h hdr else s
  let onward := tree.filter fun b => b.1 != p && (mask &&& b.2) != 0
  let s := if 63 < h.hops + 1 ∧ onward ≠ [] then s.auditHusk p 13 hdr else s
  let s := onward.foldl (fun s b =>
    if 63 < h.hops + 1 then s.bump R.TGL_CNT F.TGL_CNT_HOPS_DROP
    else s.forkCopy b.1 { h with hops := h.hops + 1, payload := mcPrefix (mask &&& b.2) g ++ h.payload.drop 16 }) s
  let known := tree.foldl (fun (m : Word) b => m ||| b.2) own
  s.mcReport h (mask &&& ~~~ known) scLINK_DOWN

/-- The notification of a barrier that a port holds (R116): by its husk, its status. -/
def State.barrierNotify (s : State) (p : Nat) : State :=
  match (s.port p).barriers with
  | [] => s
  | h :: rest =>
    let s := s.setPort p { s.port p with barriers := rest }
    let body := if h.typ = Husk.MBAR then h.payload.drop 16 else h.payload
    let bad := h.opx = 1 ∧ s.badTarget { h with typ := Husk.BAR }
    if bad then s.answerHusk h scDESCRIPTOR_ERROR []
    else if h.opx = 1 ∧ s.topState ≠ stREADY then s.answerHusk h scABORTED []
    else
      let (c, s) := s.notify h.opx h.addr (Word.ofBytes (body.take 8)) h.ctx h.cls
      s.answerHusk h c []

/-- A husk for another module goes on, with HOPS raised, and counts at the port that it leaves by (R391, R407). -/
def State.passHusk (s : State) (p : Nat) (h : Husk) (hdr : BitVec 128) : State :=
  if 63 < h.hops + 1 then (s.bump R.TGL_CNT F.TGL_CNT_HOPS_DROP).auditHusk p 13 hdr
  else
    match s.route h.dest with
    | some q => (s.bump (R.TGL_PORT_CNT2 q) F.TGL_PORT_CNT2_FORWARDED).forwardHusk { h with hops := h.hops + 1 }
    | none => s

/-- A response that matches no busy tag is discarded and counted (R388). -/
def State.rxStale (s : State) (p : Nat) (busy : Bool) (hdr : BitVec 128) : State :=
  ((s.auditHusk p (if busy then 9 else 8) hdr).bump R.TGL_CNT F.TGL_CNT_STALE).portEvent p F.TGL_EVT_STALE

/-- How a multicast target ended: whether it failed, and its FLAGS (R223, R226, R396). -/
def mcEnd (status : Nat) : Bool × Nat :=
  if status = scDONE then (false, 0) else if status = scDATA_ERROR then (false, 1)
  else if status = scLINK_DOWN then (true, 8) else if status = scCONTEXT_REJECT then (true, 4)
  else if status = scTIMEOUT then (true, 32) else (true, 0)

/-- A response to a request of this module (R387, R388). -/
def State.rxResponse (s : State) (p pool : Nat) (h : Husk) (hdr : BitVec 128) : State :=
  let t := s.tag pool h.tag
  match t.busy with
  | none => s.rxStale p false hdr
  | some u =>
    if t.epoch ≠ h.epoch then s.rxStale p true hdr
    else if pool = poolMulticast then
      (s.mcResolve h.tag (BitVec.ofNat 64 (2 ^ h.src)) (mcEnd h.status).1 (mcEnd h.status).2).serveTagWait pool
    else ((s.freeTagAt pool h.tag).owe u.waiter h.status h.payload).serveTagWait pool

/-- A response goes back to the adapter under its own tag (R404). -/
def State.adapterAnswer (s : State) (p tag epoch cls status : Nat) (data : List Byte) : State :=
  if s.isHostPort p && s.linkState p == lkUP then
    s.enqueue p (.husk { Husk.zero with
      typ := Husk.RSP, src := s.ownId, tag := tag, epoch := epoch, cls := cls, len := data.length, status := status,
      payload := data })
  else s

/-- A response goes back to the module whose request the bridge has passed on (R404). -/
def State.relayAnswer (s : State) (src tag epoch cls status : Nat) (data : List Byte) : State :=
  s.forwardHusk { Husk.zero with
    typ := Husk.RSP, dest := src, src := s.ownId, tag := tag, epoch := epoch, cls := cls, len := data.length,
    status := status, payload := data }

/-- A request of the host adapter (R404), which this module serves or sends on in the class of host requests (R339): served
here, or sent on under a tag of the bridge's own. Its response carries the class of the adapter's husk (R379). -/
def State.rxAdapter (s : State) (p : Nat) (h : Husk) (hdr : BitVec 128) : State :=
  let mine := { h with
    src := s.ownId, rid := p / 4 * 2048 + 2047, hops := 0, cls := s.fld R.RGL_SRC_CLASS F.RGL_SRC_CLASS_HOST }
  let here := h.dest = s.ownId
  let reserved := regionOf h.addr = .reserved ∨ !runInside h.addr (huskRun h)
  if multicastHusk h then s
  else if (if here then s.badTarget h else decide (reserved ∧ ¬ (h.typ = Husk.BAR ∧ h.opx = 0))) then
    (s.auditHusk p 14 hdr).adapterAnswer p h.tag h.epoch h.cls scDESCRIPTOR_ERROR []
  else if !here then s.sendRequest mine (.adapter p h.tag h.epoch h.cls)
  else if h.typ = Husk.BAR then
    let r := s.notify h.opx h.addr (Word.ofBytes (h.payload.take 8)) h.ctx mine.cls
    r.2.adapterAnswer p h.tag h.epoch h.cls r.1 []
  else if regionOf h.addr = .host then
    if h.typ = Husk.RD ∨ h.typ = Husk.WR then s.sendRequest mine (.adapter p h.tag h.epoch h.cls)
    else s.adapterAnswer p h.tag h.epoch h.cls scDESCRIPTOR_ERROR []
  else
    let r := s.serveHusk mine
    r.2.2.adapterAnswer p h.tag h.epoch h.cls r.1 r.2.1

/-- A credit return that grants more pips than a pool has (R405, class 6). -/
def State.excessive (s : State) (p : Nat) (h : Husk) : Bool :=
  [(0, h.freed.1), (1, h.freed.2.1), (2, h.freed.2.2)].any fun e =>
    decide (third pipsWhole e.1 < (e.2 + 65536 - third (s.port p).sent e.1) % 65536)

/-- A credit return (R390): the far end's counts stand, and copies that waited for pips go on. -/
def State.rxCredit (s : State) (p : Nat) (h : Husk) (hdr : BitVec 128) : State :=
  let s := if s.excessive p h then s.auditHusk p 6 hdr else s
  ((s.setPort p { s.port p with granted := h.freed }).showPips p).forkPump p

/-- A request with the SRC, TAG and EPOCH of one not yet answered (R405, class 7). -/
def State.tagReused (s : State) (p : Nat) (h : Husk) : Bool :=
  ((s.port p).barriers.any fun b => b.src == h.src && b.tag == h.tag && b.epoch == h.epoch && b.typ != Husk.MBAR) ||
    s.tags.any fun e => (match e.2.busy with
      | some u => (match u.waiter with
        | .relay src tag epoch _ => src == h.src && tag == h.tag && epoch == h.epoch
        | _ => false)
      | none => false)

/-- A husk that the checks of R384 let through. -/
def State.rxGood (s : State) (p : Nat) (h : Husk) (hdr : BitVec 128) : State :=
  let kind := s.portKind p
  if h.typ = Husk.CRD then s.rxCredit p h hdr
  else if kind = pkHOST then
    if Husk.isRequest h.typ then s.rxAdapter p h hdr
    else if h.typ = Husk.RSP then s.rxResponse p poolHost h hdr
    else s
  else if kind ≠ pkPOD then s
  else if h.typ = Husk.SNAP then s.snapRx p h
  else if multicastHusk h then s.rxMulticast p h hdr
  else if h.dest ≠ s.ownId then s.passHusk p h hdr
  else if h.typ = Husk.RSP then s.rxResponse p (if h.mc then poolMulticast else h.src) h hdr
  else (if s.tagReused p h then s.auditHusk p 7 hdr else s).rxRequest p h hdr

/-- A husk comes in: it is counted, and its pips are freed (R390, R405). -/
def State.huskIn (s : State) (p : Nat) (hdr : BitVec 128) (payload : List Byte) : State :=
  let s := s.bump (R.TGL_PORT_CNT p) F.TGL_PORT_CNT_HUSKS_RX
  match pipPool (Husk.parse hdr payload).typ with
  | some pool =>
    let n := pipsOf payload.length
    (if s.overrun p pool n then s.auditHusk p 5 hdr else s).freePips p pool n
  | none => s

/-- A husk of a row's type, or of a reserved type, is received on a port in UP: its pips are freed, and it acts unless a
check of R384 discards it. -/
def State.rxHusk (s : State) (p t : Nat) (hdr : BitVec 128) (payload : List Byte) (crc : BitVec 32) : State :=
  let h := Husk.parse hdr payload
  if s.linkState p ≠ lkUP ∨ ¬ (h.typ = t ∨ h.typ = 0 ∨ Husk.SNAP < h.typ) then s
  else
    let s := s.huskIn p hdr payload
    if crc ≠ huskCrc hdr payload then (s.auditHusk p 1 hdr).bump (R.TGL_PORT_CNT p) F.TGL_PORT_CNT_CRC_ERR
    else if !lenGood h then s.auditHusk p 3 hdr
    else if !fieldsGood hdr h (s.portKind p == pkHOST) then s.auditHusk p 4 hdr
    else if !prefixGood h then s.auditHusk p 13 hdr
    else s.rxGood p h hdr

end Sys2Proof.Machine
end

