-- ==== Sys2Proof/Machine/Settle.lean ====
section
/-!
DEFINITION. What ends every command: the responses that have reached this module go to those who wait for them, and the
request ports of the sites go on. `State.done` is the outcome of a command.
-/
namespace Sys2Proof.Machine

/-- A response reaches its waiter. -/
def State.answer (s : State) (o : Owed) : State :=
  match o.waiter with
  | .vector v => s.hvEnded v o.status
  | .mover k number part => s.moverAnswer k number part o.status o.data
  | .site d p id => s.siteReturn (64 * d + p) id o.status o.data
  | .engine n id => (s.engineAnswer n id o.status o.data).spillTry n
  | .dump journal => s.dumpAnswer journal o.status
  | .faultRecord d => { s with adt := { s.adt with writing := some (d, .answered o.status) } }
  | .bulk offset => s.bulkAnswer offset o.status o.data
  | .record k => s.recordAnswer k o.status
  | .fetch k => s.fetchAnswer k o.status o.data
  | .adapter port tag epoch cls => s.adapterAnswer port tag epoch cls o.status o.data
  | .relay src tag epoch cls => s.relayAnswer src tag epoch cls o.status o.data

/-- So many responses reach their waiters, oldest first. -/
def State.settleOwed : Nat → State → State
  | 0, s => s
  | n + 1, s =>
    match s.owed with
    | [] => s
    | o :: rest => State.settleOwed n (State.answer { s with owed := rest } o)

/-- The responses that one command may see delivered; more wait for the next one. -/
def settleFuel := 4096

/-- In QUIESCED or FAULT no flit comes any more for the commands that lack one (R409). -/
def State.cutSites (s : State) : State :=
  if s.topState = stQUIESCED ∨ s.topState = stFAULT then s.sites.foldl (fun s e => s.portCut e.1) s else s

/-- A site that has drained in QUIESCED or FAULT is put in reset (R409). -/
def State.settleSites (s : State) : State :=
  if s.topState = stQUIESCED ∨ s.topState = stFAULT then
    (if (List.range 8).all s.siteReset then s else s.resetSites)
  else s

/-- What ends every command. -/
def State.settle (s : State) : State :=
  let s := s.settleOwed settleFuel
  (if s.sites.isEmpty then s else s.cutSites.sitesGo.settleOwed settleFuel).settleSites

/-- A command ends with this state. -/
def State.done (s : State) : Host.Outcome State Fault Refusal := .next s.settle

end Sys2Proof.Machine
end

