-- ==== Sys2Proof/Machine/Commands.lean ====
section
/-!
DEFINITION. What the meanings of the commands share: how a command runs, register writes whose maker no record names, and
the commands that bring several units together.
-/
namespace Sys2Proof.Machine

/-- A command runs: its effect, then what ends every command. It leaves the queue of waiting commands alone. -/
def State.act (s : State) (f : State → State) : Host.Outcome State Fault Refusal :=
  .next { (f s).settle with pending := s.pending }

/-- A write of a register that is not configuration-class, so that the journal does not name its maker (R543). -/
def State.plainWrite (s : State) (off : Nat) (v : Word) : State := s.regWrite off v ⟨0, 0, false, false⟩

/-- An admission that has ended goes to the unit that asked for it (R72, R79). -/
def State.admitted (s : State) (r : Option (Admitted × Admission × State)) : State :=
  match r with
  | none => s
  | some (a, w, s) =>
    match w.who with
    | .queue k number => s.moverAdmitted k number a w
    | .release k number => s.jobAdmitted k number a w
    | .sopen k number gen => s.sopenAdmitted k number gen a w

/-- SCH's write of a record of a die begins (R80). -/
def State.recordSend (s : State) (d : Nat) : State := (State.faultWrite { s with adt := { s.adt with turn := d } } d)

/-- SCH takes the next fault record (R80). -/
def State.faultCopy (s : State) : State :=
  if s.adt.writing.isNone ∧ s.faultSpace ∧ ¬ s.schRestarts then
    match s.nextFaultDie with
    | some d => s.recordSend d
    | none => s
  else s

/-- SCH's write of a fault record has completed (R80). -/
def State.faultWritten (s : State) : State :=
  match s.adt.writing with
  | some (d, .answered c) =>
    if c = scDONE then
      let s := State.popFault { s with adt := { s.adt with writing := none } } d
      s.setFld R.ADT_FAULT_HEAD F.ADT_FAULT_HEAD_HEAD (s.fld R.ADT_FAULT_HEAD F.ADT_FAULT_HEAD_HEAD + 1)
    else { s with adt := { s.adt with writing := some (d, .repeated) } }
  | _ => s

/-- SCH writes a record again (R80). -/
def State.faultAgain (s : State) : State :=
  match s.adt.writing with
  | some (d, .repeated) => if s.faultSpace ∧ ¬ s.schRestarts then s.faultWrite d else s
  | _ => s

/-- The invalidation at the head of the queue runs (R85): the movers that hold what it covers stop issuing (R86). -/
def State.invalidateRun (s : State) : State :=
  let s := s.invalRun fun v => s.moverHolders v ++ s.engineHolders v
  match s.invalHead with
  | some v => (v.waiting.filter fun u => decide (u < 256)).foldl (fun s g => s.moverHold v g) s
  | none => s

/-- A unit acknowledges (R86). -/
def State.invalidateAck (s : State) (u : Nat) : State := if u < 256 then s.moverAck u else s.engineAck (u - 256)

/-- A unit that has not acknowledged is fenced off and counts as having done so (R88). -/
def State.invalidateLose (s : State) (u : Nat) : State :=
  (if u < 256 then s.moverLost u else s.nmeLost (u - 256)).invalAck u

/-- The limit of an invalidation passes (R88). -/
def State.invalidateExpire (s : State) : State :=
  match s.invalHead with
  | some v =>
    ((v.waiting.foldl State.invalidateLose s).setFld R.ADT_INV_STATUS F.ADT_INV_STATUS_FENCED 1).raise 745
  | none => s

/-- A run of bytes lies in the shared buffer, and in one partition (R385). -/
def bufferRun (a len : Nat) : Bool := regionOf a == .buffer && runInside a len

/-- A run of bytes lies in stack memory, and in one frame (R385). -/
def stackRun (a len : Nat) : Bool := regionOf a == .stack && runInside a len

/-- Where the answer of an access at a buffer bank, and of one at a stack controller, comes from. -/
def State.answerBuffer (s : State) (a c : Nat) (bs : List Byte) : State := s.emit (.answer (.buffer a) c bs)
def State.answerStack (s : State) (a c : Nat) (bs : List Byte) : State := s.emit (.answer (.stack a) c bs)

/-- A read at a bank (R128). -/
def State.bufferRead (s : State) (a len ctx : Nat) (hit : Upset) : State :=
  if bufferRun a len then
    let (c, bs, s) := s.sbRead a len ctx hit
    s.answerBuffer a c bs
  else s.answerBuffer a scDESCRIPTOR_ERROR []

/-- A write at a bank (R130). -/
def State.bufferWrite (s : State) (a : Nat) (data : List (Option Byte)) (ctx : Nat) (hit : Upset) : State :=
  if bufferRun a data.length then
    let (c, s) := s.sbWrite a data ctx hit
    s.answerBuffer a c []
  else s.answerBuffer a scDESCRIPTOR_ERROR []

/-- An atomic at a bank (R133): a posted one returns no data. -/
def State.bufferAtomic (s : State) (a op size x y : Nat) (returning : Bool) (ctx : Nat) (hit : Upset) : State :=
  if bufferRun a size then
    let (c, bs, s) := s.sbAtomic a op size x y ctx hit
    s.answerBuffer a c (if returning then bs else [])
  else s.answerBuffer a scDESCRIPTOR_ERROR []

/-- A clear of partitions runs in a die (R125). -/
def State.clearing (s : State) (d : Nat) : Bool := s.flag (R.SBF_PART_CLR d) F.SBF_PART_CLR_BUSY

/-- A request at a bank waits while its die clears partitions (R125). -/
def State.holdBuffer (s : State) (a : Nat) (i : Instr) (act : State → State) : State :=
  if regionOf a = .buffer ∧ s.clearing (sbDie a) = true then
    { s with buffer := { s.buffer with held := s.buffer.held ++ [i] } }
  else act s

/-- The local address of a request at a bank. -/
def bufferAddr : Instr → Option Nat
  | .sbfRead a _ _ _ => some a.toNat
  | .sbfWrite a _ _ _ => some a.toNat
  | .sbfAtomic a _ _ _ _ _ _ _ => some a.toNat
  | _ => none

/-- A held request is served (R125). -/
def State.serveHeld (s : State) (i : Instr) : State :=
  match i with
  | .sbfRead a len ctx hit => s.bufferRead a.toNat len ctx.toNat hit
  | .sbfWrite a data ctx hit => s.bufferWrite a.toNat data ctx.toNat hit
  | .sbfAtomic a op size x y returning ctx hit =>
    s.bufferAtomic a.toNat op.toNat size x.toNat y.toNat returning ctx.toNat hit
  | _ => s

/-- A partition clear ends (R125): the held requests of its die are served in arrival order. -/
def State.partitionCleared (s : State) (d : Nat) : State :=
  if s.clearing d then
    let mine := fun (i : Instr) => match bufferAddr i with | some a => sbDie a == d | none => false
    let go := s.buffer.held.filter mine
    let s : State := { s with buffer := { s.buffer with held := s.buffer.held.filter fun i => !mine i } }
    go.foldl State.serveHeld (s.setFld (R.SBF_PART_CLR d) F.SBF_PART_CLR_BUSY 0)
  else s

/-- The scrubber of a die takes a block (R137), while it is enabled. -/
def State.bufferScrub (s : State) (a : Nat) (last : Bool) (hit : Upset) : State :=
  let r := R.SBF_SCRUB_CTL (sbDie a)
  if regionOf a = .buffer ∧ s.flag r F.SBF_SCRUB_CTL_EN = true then
    let s := s.sbScrubBlock a hit
    if last then s.bump r F.SBF_SCRUB_CTL_PASSES else s
  else s

/-- The bank of an access has not answered (R141). -/
def State.bankLost (s : State) (a src : Nat) : State :=
  if regionOf a = .buffer ∧ s.sbAbsent a = false ∧ s.sbFenced a = false then
    (s.sbFence a src).answerBuffer a scTIMEOUT []
  else s

/-- A read at a stack controller (R155). -/
def State.stackRead (s : State) (a len ctx cls : Nat) (hit : DramUpset) : State :=
  if stackRun a len then
    let (c, bs, s) := s.stkRead a len (some ctx) cls hit
    s.answerStack a c bs
  else s.answerStack a scDESCRIPTOR_ERROR []

/-- A write at a stack controller (R157, R158). -/
def State.stackWrite (s : State) (a : Nat) (data : List (Option Byte)) (ctx cls : Nat) (hit : DramUpset) : State :=
  if stackRun a data.length then
    let (c, s) := s.stkWrite a data ctx cls hit
    s.answerStack a c []
  else s.answerStack a scDESCRIPTOR_ERROR []

/-- The patrol of a stack takes a row (R165), while it is enabled. -/
def State.stackScrub (s : State) (m pc bank row : Nat) (last : Bool) (hit : DramUpset) : State :=
  let r := R.STK_SCRUB_CTL m
  if s.flag r F.STK_SCRUB_CTL_EN then
    let s := s.stkScrubRow m pc bank row hit
    if last then s.bump r F.STK_SCRUB_CTL_PASSES else s
  else s

/-- A pseudo-channel has been fenced under an access (R167): the access ends, and so does what the slice has there. -/
def State.pcGone (s : State) (a : Nat) : State := (s.mscFenced (s.stackOf a)).answerStack a scTIMEOUT []

/-- A command of an access is reported with a parity error (R167). -/
def State.stackParity (s : State) (a src : Nat) : State :=
  if inStack a ∧ s.frameAbsent a = false then
    let (fenced, s) := s.stkParity a src
    if fenced then s.pcGone a else s
  else s

/-- A read issued to a pseudo-channel has not returned (R167, R168). -/
def State.pcLost (s : State) (a src : Nat) : State :=
  let p := s.blockPlace (s.stackKey a)
  if inStack a ∧ s.frameAbsent a = false ∧ s.pcFenced p.m p.pc = false then (s.stkFence p src).pcGone a else s

/-- A read or write at a slice (R177, R180): within one line of stack memory. -/
def State.cacheRequest (s : State) (a len id : Nat) (i : Instr) : State :=
  if stackRun a len ∧ a / 128 = (a + len - 1) / 128 ∧ 0 < len then s.mscRequest i
  else s.emit (.answer (.slice (s.stackOf a) id) scDESCRIPTOR_ERROR [])

/-- The dispatcher fetches the next job of a ring (R245, R252). -/
def State.jobFetch (s : State) (k : Nat) : State := if s.mayFetch k then s.fetchItem k else s

/-- A core reads its claim register (R435): what it reads leaves as an answer. -/
def State.readClaim (s : State) (c skew size : Nat) : State :=
  let (bs, s) := s.regRead (R.EIC_C_CLAIM c + skew) size
  s.emit (.answer (.core c) scDONE bs)

/-- The register at which a bank of bitmaps is written. -/
def bankReg (shared core : Nat → Nat) : Bank → Nat
  | .shared w => shared w.val
  | .core c => core c.val

/-- The register of a recomputation (R347). -/
def rglReg : RglTarget → Nat
  | .minimum m c => R.RGL_MIN m.val c.val
  | .stack m => R.RGL_STK_CFG m.val
  | .control => R.RGL_CTL

/-- The cycles of an engine at which a fabric cycle passes (R5): those of its job, and those with a job running. -/
def State.engineTick (s : State) (n : Nat) : State :=
  let st := s.engineState n
  if st = neRUNNING ∨ st = neHELD ∨ st = neSPILLING then
    let s := s.setEngine n { s.engine n with cycles := (s.engine n).cycles + 2 }
    if st = neRUNNING then s.bump (R.NME_CNT_RUN n) F.NME_CNT_RUN_CYCLES 2 else s
  else s

/-- A fabric cycle passes with no command waiting (R5): local time, the ms since power good, the engines' cycles, and a
set of each slice that sweeps its arrays. -/
def State.tick (s : State) : State :=
  if s.power.on then
    let s : State := { s with now := s.now + 1 }
    let s := s.setFld R.TOP_STATE F.TOP_STATE_ELAPSED (min F.TOP_STATE_ELAPSED.max (s.now * 8 / 10 ^ 7))
    let s := (List.range 16).foldl State.engineTick s
    (List.range 24).foldl State.mscSweepCycle s
  else s

end Sys2Proof.Machine
end

