-- ==== Sys2Proof/Machine/Admission.lean ====
section
/-!
DEFINITION. The meanings of the commands of owner tables, contexts, admission, faults and invalidations (03_addressing_contexts), and the loss of a bridge or a ring connection.
-/
namespace Sys2Proof.Machine

/-- OWNER_ENTRY_WRITE (R65). -/
def execOwnerEntryWrite (at' : OwnerTarget) (v : Word) (by' : Origin)
    (s : State) : Host.Outcome State Fault Refusal :=
  s.act fun s => s.regWrite (ownerOffset at') v by'

/-- OWNER_ENTRY_APPLIED (R65). -/
def execOwnerEntryApplied (s : State) : Host.Outcome State Fault Refusal :=
  s.act fun s => s.ownersApplied

/-- CTX_ACTIVATE (R92). -/
def execCtxActivate (v : Word) (by' : Origin) (s : State) : Host.Outcome State Fault Refusal :=
  s.act fun s => s.regWrite R.ADT_CTX_CMD v by'

/-- CTX_RETIRE (R90). -/
def execCtxRetire (v : Word) (by' : Origin) (s : State) : Host.Outcome State Fault Refusal :=
  s.act fun s => s.regWrite R.ADT_CTX_CMD v by'

/-- CONTEXT_RETIRED (R90). -/
def execContextRetired (ctx : BitVec 12) (s : State) : Host.Outcome State Fault Refusal :=
  s.act fun s => s.retireStep ctx.toNat

/-- ADMIT (R74). -/
def execAdmit (d : Fin 8) (s : State) : Host.Outcome State Fault Refusal :=
  s.act fun s => s.admitted (s.admitStart d.val)

/-- ADMIT_TABLE_READ_DONE (R588). -/
def execAdmitTableReadDone (d : Fin 8) (s : State) : Host.Outcome State Fault Refusal :=
  s.act fun s => s.admitted (s.admitRead d.val)

/-- FAULT_RECORD_COPY (R80). -/
def execFaultRecordCopy (s : State) : Host.Outcome State Fault Refusal :=
  s.act fun s => s.faultCopy

/-- FAULT_RECORD_WRITE_DONE (R80). -/
def execFaultRecordWriteDone (s : State) : Host.Outcome State Fault Refusal :=
  s.act fun s => s.faultWritten

/-- FAULT_RECORD_RETRY (R80). -/
def execFaultRecordRetry (s : State) : Host.Outcome State Fault Refusal :=
  s.act fun s => s.faultAgain

/-- FAULT_RESUME (R82). -/
def execFaultResume (v : Word) (s : State) : Host.Outcome State Fault Refusal :=
  s.act fun s => s.plainWrite R.ADT_RESUME v

/-- FAULT_ABORT (R82). -/
def execFaultAbort (v : Word) (s : State) : Host.Outcome State Fault Refusal :=
  s.act fun s => s.plainWrite R.ADT_RESUME v

/-- INVALIDATE_ENQUEUE (R84). -/
def execInvalidateEnqueue (v : Word) (s : State) : Host.Outcome State Fault Refusal :=
  s.act fun s => s.plainWrite R.ADT_INV_ARG1 v

/-- INVALIDATE_RUN (R85). -/
def execInvalidateRun (s : State) : Host.Outcome State Fault Refusal :=
  s.act fun s => s.invalidateRun

/-- INVALIDATE_ACK (R86). -/
def execInvalidateAck (u : Fin 272) (s : State) : Host.Outcome State Fault Refusal :=
  s.act fun s => s.invalidateAck u.val

/-- INVALIDATE_TIMEOUT (R88). -/
def execInvalidateTimeout (s : State) : Host.Outcome State Fault Refusal :=
  s.act fun s => s.invalidateExpire

/-- BRIDGE_FAILURE (R20). -/
def execBridgeFailure (b : Fin 10) (s : State) : Host.Outcome State Fault Refusal :=
  s.act fun s => s.bridgeFailure b.val

/-- RING_CONNECTION_FAIL (R557). -/
def execRingConnectionFail (n : Fin 16) (s : State) : Host.Outcome State Fault Refusal :=
  s.act fun s => s.ringConnectionFail n.val

end Sys2Proof.Machine
end

