-- ==== Sys2Proof/Machine/Archive.lean ====
section
/-!
DEFINITION. The meanings of the commands of snapshots, the change journal and wear (20_snapshots_journal_wear).
-/
namespace Sys2Proof.Machine

/-- SNAP_ARM (R535). -/
def execSnapArm (v : Word) (by' : Origin) (s : State) : Host.Outcome State Fault Refusal :=
  s.act fun s => s.regWrite R.SNP_ARM v by'

/-- SNAP_CANCEL (R552). -/
def execSnapCancel (v : Word) (by' : Origin) (s : State) : Host.Outcome State Fault Refusal :=
  s.act fun s => s.regWrite R.SNP_ARM v by'

/-- SNAP_TRIG (R535). -/
def execSnapTrig (v : Word) (s : State) : Host.Outcome State Fault Refusal :=
  s.act fun s => s.plainWrite R.SNP_TRIG v

/-- SNAP_IN (R535). -/
def execSnapIn (s : State) : Host.Outcome State Fault Refusal :=
  s.act fun s => s.snapPin

/-- SNAP (R540). -/
def execSnap (p : Fin 32) (hdr : BitVec 128) (payload : List Byte) (crc : BitVec 32)
    (s : State) : Host.Outcome State Fault Refusal :=
  s.act fun s => s.rxHusk p.val Husk.SNAP hdr payload crc

/-- SNAP_RELEASE (R537). -/
def execSnapRelease (v : Word) (by' : Origin) (s : State) : Host.Outcome State Fault Refusal :=
  s.act fun s => s.regWrite R.SNP_CTL v by'

/-- SNAP_DUMP (R541). -/
def execSnapDump (v : Word) (s : State) : Host.Outcome State Fault Refusal :=
  s.act fun s => s.plainWrite R.SNP_DUMP_CTL v

/-- SNAP_DUMP_DONE (R541). -/
def execSnapDumpDone (s : State) : Host.Outcome State Fault Refusal :=
  s.act fun s => s.snapDumpEnd

/-- JOURNAL_FLUSH (R546). -/
def execJournalFlush (entries : Fin 1366) (s : State) : Host.Outcome State Fault Refusal :=
  s.act fun s => s.journalFlush entries.val

/-- JOURNAL_DUMP (R547). -/
def execJournalDump (v : Word) (s : State) : Host.Outcome State Fault Refusal :=
  s.act fun s => s.plainWrite R.JRN_DUMP_CTL v

/-- JOURNAL_DUMP_DONE (R547). -/
def execJournalDumpDone (s : State) : Host.Outcome State Fault Refusal :=
  s.act fun s => s.journalDumpEnd

/-- WEAR_EOL_COMPUTE (R549). -/
def execWearEolCompute (s : State) : Host.Outcome State Fault Refusal :=
  s.act fun s => s.wearCompute

/-- WEAR_RECORD_FLUSH (R550). -/
def execWearRecordFlush (s : State) : Host.Outcome State Fault Refusal :=
  s.act fun s => s.wearSave

/-- WEAR_DAILY_VALUE (R548). -/
def execWearDailyValue (values : List (Wearing × BitVec 32)) (s : State) : Host.Outcome State Fault Refusal :=
  s.act fun s => values.foldl State.wearDaily s

end Sys2Proof.Machine
end

