-- ==== Sys2Proof/Machine/Beats.lean ====
section
/-!
DEFINITION. The meanings of the commands of beats (02_beats).
-/
namespace Sys2Proof.Machine

/-- MASTER_EDGE (R35). -/
def execMasterEdge (sites : EdgeSites) (s : State) : Host.Outcome State Fault Refusal :=
  s.act fun s => s.masterEdge sites

/-- BEAT_IN_EDGE (R31). -/
def execBeatInEdge (cycles : Nat) (s : State) : Host.Outcome State Fault Refusal :=
  s.act fun s => s.beatInEdge cycles

/-- BEAT_IN_MISSED (R31). -/
def execBeatInMissed (sites : EdgeSites) (s : State) : Host.Outcome State Fault Refusal :=
  s.act fun s => s.beatInMissed sites

/-- BEAT_CNT_CLR (R51). -/
def execBeatCntClr (v : Word) (by' : Origin) (s : State) : Host.Outcome State Fault Refusal :=
  s.act fun s => s.regWrite R.TGL_BEAT_CTL v by'

/-- BEAT_PERIOD_WRITE (R30). -/
def execBeatPeriodWrite (v : Word) (by' : Origin) (s : State) : Host.Outcome State Fault Refusal :=
  s.act fun s => s.regWrite R.TGL_BEAT_PERIOD v by'

/-- SW_STRETCH_WRITE (R34). -/
def execSwStretchWrite (v : Word) (by' : Origin) (s : State) : Host.Outcome State Fault Refusal :=
  s.act fun s => s.regWrite R.TGL_BEAT_STRETCH v by'

/-- BEAT_SET_RX (R44). -/
def execBeatSetRx (p : Fin 32) (copies : List (List Byte)) (sites : EdgeSites)
    (s : State) : Host.Outcome State Fault Refusal :=
  s.act fun s => s.beatSetRx p.val copies sites

/-- MISSED_BEAT (R45). -/
def execMissedBeat (sites : EdgeSites) (s : State) : Host.Outcome State Fault Refusal :=
  s.act fun s => s.missedBeat sites

/-- FREE_RUN_EDGE (R46, R31). -/
def execFreeRunEdge (sites : EdgeSites) (s : State) : Host.Outcome State Fault Refusal :=
  s.act fun s => s.freeRunEdge sites

/-- BEAT_REJOIN_REQUIRED (R40). -/
def execBeatRejoinRequired (s : State) : Host.Outcome State Fault Refusal :=
  s.act fun s => s.rejoinRequired

/-- UPSTREAM_SWITCH (R41). -/
def execUpstreamSwitch (s : State) : Host.Outcome State Fault Refusal :=
  s.act fun s => s.upstreamFollow

/-- LATENCY_PROBE (R42). -/
def execLatencyProbe (p : Fin 32) (stamp : BitVec 16) (s : State) : Host.Outcome State Fault Refusal :=
  s.act fun s => s.latencyProbe p.val stamp

/-- PROBE_RX (R42). -/
def execProbeRx (p : Fin 32) (copies : List (List Byte)) (s : State) : Host.Outcome State Fault Refusal :=
  s.act fun s => s.probeRx p.val copies

/-- ECHO_RX (R42). -/
def execEchoRx (p : Fin 32) (copies : List (List Byte)) (counter : BitVec 16)
    (s : State) : Host.Outcome State Fault Refusal :=
  s.act fun s => s.echoRx p.val copies counter

end Sys2Proof.Machine
end

