-- ==== Sys2Proof/Machine/Buffer.lean ====
section
/-!
DEFINITION. The meanings of the commands of the shared buffer (05_shared_buffer).
-/
namespace Sys2Proof.Machine

/-- SBF_READ (R128). -/
def execSbfRead (a : BitVec 41) (len : Nat) (ctx : BitVec 12) (hit : Upset)
    (s : State) : Host.Outcome State Fault Refusal :=
  s.act fun s => s.holdBuffer a.toNat (.sbfRead a len ctx hit) fun s => s.bufferRead a.toNat len ctx.toNat hit

/-- SBF_WRITE (R130). -/
def execSbfWrite (a : BitVec 41) (data : List (Option Byte)) (ctx : BitVec 12) (hit : Upset)
    (s : State) : Host.Outcome State Fault Refusal :=
  s.act fun s => s.holdBuffer a.toNat (.sbfWrite a data ctx hit) fun s => s.bufferWrite a.toNat data ctx.toNat hit

/-- SBF_ATOMIC (R133). -/
def execSbfAtomic (a : BitVec 41) (op : BitVec 4) (size : Nat) (x y : Word) (returning : Bool) (ctx : BitVec 12) (hit : Upset)
    (s : State) : Host.Outcome State Fault Refusal :=
  s.act fun s => s.holdBuffer a.toNat (.sbfAtomic a op size x y returning ctx hit) fun s =>
    s.bufferAtomic a.toNat op.toNat size x.toNat y.toNat returning ctx.toNat hit

/-- PARTITION_CLEAR (R125). -/
def execPartitionClear (d : Fin 8) (v : Word) (by' : Origin) (s : State) : Host.Outcome State Fault Refusal :=
  s.act fun s => s.regWrite (R.SBF_PART_CLR d.val) v by'

/-- PARTITION_CLEAR_DONE (R125). -/
def execPartitionClearDone (d : Fin 8) (s : State) : Host.Outcome State Fault Refusal :=
  s.act fun s => s.partitionCleared d.val

/-- SBF_SCRUB (R137). -/
def execSbfScrub (a : BitVec 41) (last : Bool) (hit : Upset) (s : State) : Host.Outcome State Fault Refusal :=
  s.act fun s => s.bufferScrub a.toNat last hit

/-- BANK_FENCE (R141). -/
def execBankFence (a : BitVec 41) (source : Fin 5) (s : State) : Host.Outcome State Fault Refusal :=
  s.act fun s => s.bankLost a.toNat source.val

/-- SBF_ERR_POP (R140). -/
def execSbfErrPop (d : Fin 8) (v : Word) (s : State) : Host.Outcome State Fault Refusal :=
  s.act fun s => s.plainWrite (R.SBF_ERR_POP d.val) v

/-- SBF_CNT_CLR (R143). -/
def execSbfCntClr (d : Fin 8) (v : Word) (by' : Origin) (s : State) : Host.Outcome State Fault Refusal :=
  s.act fun s => s.regWrite (R.SBF_ERR_CTL d.val) v by'

/-- SBF_INJECT_ARM (R143). -/
def execSbfInjectArm (d : Fin 8) (v : Word) (by' : Origin) (s : State) : Host.Outcome State Fault Refusal :=
  s.act fun s => s.regWrite (R.SBF_INJECT d.val) v by'

end Sys2Proof.Machine
end

