-- ==== Sys2Proof/Machine/Cache.lean ====
section
/-!
DEFINITION. The meanings of the commands of the memory-side cache (07_memory_side_cache).
-/
namespace Sys2Proof.Machine

/-- MSC_READ (R177). -/
def execMscRead (a : BitVec 41) (len : Nat) (ctx : BitVec 12) (cls : Fin 16) (hint : Fin 3) (stream : Nat) (id : Nat) (tagErr : BitVec 16) (dataErr : Bool)
    (s : State) : Host.Outcome State Fault Refusal :=
  s.act fun s => s.cacheRequest a.toNat len id (.mscRead a len ctx cls hint stream id tagErr dataErr)

/-- MSC_WRITE (R180). -/
def execMscWrite (a : BitVec 41) (data : List (Option Byte)) (ctx : BitVec 12) (cls : Fin 16) (stream : Nat) (id : Nat) (tagErr : BitVec 16)
    (s : State) : Host.Outcome State Fault Refusal :=
  s.act fun s => s.cacheRequest a.toNat data.length id (.mscWrite a data ctx cls stream id tagErr)

/-- MB_HAND (R181). -/
def execMbHand (m : Fin 24) (index : Fin 64) (aged : Bool) (s : State) : Host.Outcome State Fault Refusal :=
  s.act fun s => s.mbHandAt m.val index.val aged

/-- MB_ENTRY_FREE (R182). -/
def execMbEntryFree (m : Fin 24) (index : Fin 64) (hit : DramUpset) (s : State) : Host.Outcome State Fault Refusal :=
  s.act fun s => s.mbFreeAt m.val index.val hit

/-- MR_ISSUE (R183). -/
def execMrIssue (m : Fin 24) (index : Fin 256) (s : State) : Host.Outcome State Fault Refusal :=
  s.act fun s => s.mrIssueAt m.val index.val

/-- MR_FILL (R183). -/
def execMrFill (m : Fin 24) (index : Fin 256) (hit : DramUpset) (s : State) : Host.Outcome State Fault Refusal :=
  s.act fun s => s.mrFillAt m.val index.val hit

/-- MSC_DISABLE (R192). -/
def execMscDisable (m : Fin 24) (v : Word) (by' : Origin) (s : State) : Host.Outcome State Fault Refusal :=
  s.act fun s => s.regWrite (R.MSC_CTL m.val) v by'

/-- MSC_DISABLE_DONE (R192). -/
def execMscDisableDone (m : Fin 24) (s : State) : Host.Outcome State Fault Refusal :=
  s.act fun s => s.mscDisabled m.val

/-- MSC_ENABLE (R195). -/
def execMscEnable (m : Fin 24) (v : Word) (by' : Origin) (s : State) : Host.Outcome State Fault Refusal :=
  s.act fun s => s.regWrite (R.MSC_CTL m.val) v by'

/-- MSC_INVALIDATE (R194). -/
def execMscInvalidate (m : Fin 24) (v : Word) (by' : Origin) (s : State) : Host.Outcome State Fault Refusal :=
  s.act fun s => s.regWrite (R.MSC_INV_ALL m.val) v by'

/-- MSC_INVALIDATE_DONE (R194). -/
def execMscInvalidateDone (m : Fin 24) (s : State) : Host.Outcome State Fault Refusal :=
  s.act fun s => s.mscInvalidated m.val

/-- MSC_CNT_CLR (R200). -/
def execMscCntClr (m : Fin 24) (v : Word) (by' : Origin) (s : State) : Host.Outcome State Fault Refusal :=
  s.act fun s => s.regWrite (R.MSC_CTL m.val) v by'

end Sys2Proof.Machine
end

