-- ==== Sys2Proof/Machine/Engines.lean ====
section
/-!
DEFINITION. The meanings of the commands of the neighbour ring, the dispatchers and the engines (09_nme_structure).
-/
namespace Sys2Proof.Machine

/-- RING_PACKET_RX (R239). -/
def execRingPacketRx (n : Fin 16) (west : Bool) (flips : Word) (spoiled : Bool)
    (s : State) : Host.Outcome State Fault Refusal :=
  s.act fun s => s.ringArrive n.val west.toNat flips spoiled

/-- RING_SLOT_START (R241). -/
def execRingSlotStart (n : Fin 16) (west : Bool) (slot : Fin 64) (s : State) : Host.Outcome State Fault Refusal :=
  s.act fun s => s.slotStart n.val west.toNat slot.val

/-- RING_CREDIT_RETURN (R239). -/
def execRingCreditReturn (n : Fin 16) (west : Bool) (s : State) : Host.Outcome State Fault Refusal :=
  s.act fun s => s.creditReturn n.val west.toNat

/-- RING_TABLE_ARM (R242). -/
def execRingTableArm (n : Fin 16) (v : Word) (by' : Origin) (s : State) : Host.Outcome State Fault Refusal :=
  s.act fun s => s.regWrite (R.NME_RING_ACT n.val) v by'

/-- RING_WAIT_TIMEOUT (R243). -/
def execRingWaitTimeout (n : Fin 16) (s : State) : Host.Outcome State Fault Refusal :=
  s.act fun s => s.ringTimeout n.val

/-- JOB_DOORBELL (R244). -/
def execJobDoorbell (d : Fin 8) (r : Fin 32) (v : Word) (s : State) : Host.Outcome State Fault Refusal :=
  s.act fun s => s.plainWrite (qTAIL (jobKey d.val r.val)) v

/-- JOB_FETCH (R252). -/
def execJobFetch (d : Fin 8) (r : Fin 32) (s : State) : Host.Outcome State Fault Refusal :=
  s.act fun s => s.jobFetch (jobKey d.val r.val)

/-- JOB_RELEASE (R251). -/
def execJobRelease (d : Fin 8) (s : State) : Host.Outcome State Fault Refusal :=
  s.act fun s => s.jobRelease d.val

/-- JOB_PROGRAM_LOAD (R293). -/
def execJobProgramLoad (n : Fin 16) (s : State) : Host.Outcome State Fault Refusal :=
  s.act fun s => s.programLoad n.val

/-- JOB_COMPLETE (R254). -/
def execJobComplete (d : Fin 8) (r : Fin 32) (s : State) : Host.Outcome State Fault Refusal :=
  s.act fun s => s.jobComplete (jobKey d.val r.val)

/-- DSP_TOK_POST (R248). -/
def execDspTokPost (d : Fin 8) (v : Word) (s : State) : Host.Outcome State Fault Refusal :=
  s.act fun s => s.plainWrite (R.DSP_TOK_POST d.val) v

/-- TOK_CLEAR (R263). -/
def execTokClear (d : Fin 8) (v : Word) (s : State) : Host.Outcome State Fault Refusal :=
  s.act fun s => s.plainWrite (R.DSP_TOK_CMD d.val) v

/-- TOK_SET (R263). -/
def execTokSet (d : Fin 8) (v : Word) (s : State) : Host.Outcome State Fault Refusal :=
  s.act fun s => s.plainWrite (R.DSP_TOK_CMD d.val) v

/-- SPILL_DONE (R255). -/
def execSpillDone (n : Fin 16) (s : State) : Host.Outcome State Fault Refusal :=
  s.act fun s => s.spillDone n.val

/-- RELOAD (R257). -/
def execReload (n : Fin 16) (s : State) : Host.Outcome State Fault Refusal :=
  s.act fun s => s.reload n.val

/-- JOB_RING_ENABLE (R244). -/
def execJobRingEnable (d : Fin 8) (r : Fin 32) (v : Word) (by' : Origin)
    (s : State) : Host.Outcome State Fault Refusal :=
  s.act fun s => s.regWrite (qCTL (jobKey d.val r.val)) v by'

/-- JOB_RING_RESET (R258). -/
def execJobRingReset (d : Fin 8) (r : Fin 32) (v : Word) (by' : Origin)
    (s : State) : Host.Outcome State Fault Refusal :=
  s.act fun s => s.regWrite (qCTL (jobKey d.val r.val)) v by'

/-- JOB_RING_RESET_DONE (R258). -/
def execJobRingResetDone (d : Fin 8) (r : Fin 32) (s : State) : Host.Outcome State Fault Refusal :=
  s.act fun s => s.jobRingResetDone (jobKey d.val r.val)

/-- NME_LOST (R259). -/
def execNmeLost (n : Fin 16) (s : State) : Host.Outcome State Fault Refusal :=
  s.act fun s => s.nmeLost n.val

/-- NME_CNT_CLR (R262). -/
def execNmeCntClr (n : Fin 16) (v : Word) (s : State) : Host.Outcome State Fault Refusal :=
  s.act fun s => s.plainWrite (R.NME_CTL n.val) v

/-- SR_SEED_WRITE (R280). -/
def execSrSeedWrite (n : Fin 16) (v : Word) (by' : Origin) (s : State) : Host.Outcome State Fault Refusal :=
  s.act fun s => s.regWrite (R.NME_SR_SEED n.val) v by'

end Sys2Proof.Machine
end

