-- ==== Sys2Proof/Machine/Interrupts.lean ====
section
/-!
DEFINITION. The meanings of the commands of the event and interrupt controller (16_interrupts_mailboxes).
-/
namespace Sys2Proof.Machine

/-- EIC_DOORBELL_ASSERT (R433). -/
def execEicDoorbellAssert (v : Word) (s : State) : Host.Outcome State Fault Refusal :=
  s.act fun s => s.plainWrite R.EIC_DOORBELL v

/-- EIC_DOORBELL_DEASSERT (R433). -/
def execEicDoorbellDeassert (v : Word) (s : State) : Host.Outcome State Fault Refusal :=
  s.act fun s => s.plainWrite R.EIC_DOORBELL v

/-- EIC_C_DOORBELL (R430). -/
def execEicCDoorbell (c : Fin 11) (v : Word) (s : State) : Host.Outcome State Fault Refusal :=
  s.act fun s => s.plainWrite (R.EIC_C_DOORBELL c.val) v

/-- PEND_SET (R433). -/
def execPendSet (at' : Bank) (v : Word) (s : State) : Host.Outcome State Fault Refusal :=
  s.act fun s => s.plainWrite (bankReg R.EIC_PEND_SET R.EIC_C_PEND_SET at') v

/-- PEND_CLR (R433). -/
def execPendClr (at' : Bank) (v : Word) (s : State) : Host.Outcome State Fault Refusal :=
  s.act fun s => s.plainWrite (bankReg R.EIC_PEND_CLR R.EIC_C_PEND_CLR at') v

/-- EN_SET (R433). -/
def execEnSet (at' : Bank) (v : Word) (by' : Origin) (s : State) : Host.Outcome State Fault Refusal :=
  s.act fun s => s.regWrite (bankReg R.EIC_EN_SET R.EIC_C_EN_SET at') v by'

/-- EN_CLR (R433). -/
def execEnClr (at' : Bank) (v : Word) (by' : Origin) (s : State) : Host.Outcome State Fault Refusal :=
  s.act fun s => s.regWrite (bankReg R.EIC_EN_CLR R.EIC_C_EN_CLR at') v by'

/-- CLAIM (R435). -/
def execClaim (c : Fin 11) (skew : Fin 8) (size : Nat) (s : State) : Host.Outcome State Fault Refusal :=
  s.act fun s => s.readClaim c.val skew.val size

/-- EOI (R436). -/
def execEoi (c : Fin 11) (v : Word) (s : State) : Host.Outcome State Fault Refusal :=
  s.act fun s => s.plainWrite (R.EIC_C_EOI c.val) v

/-- MASK_SET (R438). -/
def execMaskSet (c : Fin 11) (v : Word) (s : State) : Host.Outcome State Fault Refusal :=
  s.act fun s => s.plainWrite (R.EIC_C_MASK_SET c.val) v

/-- MASK_CLR (R438). -/
def execMaskClr (c : Fin 11) (v : Word) (s : State) : Host.Outcome State Fault Refusal :=
  s.act fun s => s.plainWrite (R.EIC_C_MASK_CLR c.val) v

/-- CORE_SLEEP (R438). -/
def execCoreSleep (c : Fin 11) (s : State) : Host.Outcome State Fault Refusal :=
  s.act fun s => s.coreSleep c.val

/-- HV_TRIG (R440). -/
def execHvTrig (v : Word) (s : State) : Host.Outcome State Fault Refusal :=
  s.act fun s => s.plainWrite R.EIC_HV_TRIG v

/-- HV_CEILING (R441). -/
def execHvCeiling (vec : Fin 4096) (s : State) : Host.Outcome State Fault Refusal :=
  s.act fun s => s.hvCeiling vec.val

/-- HV_RETRY (R443). -/
def execHvRetry (vec : Fin 4096) (s : State) : Host.Outcome State Fault Refusal :=
  s.act fun s => s.hvRetry vec.val

/-- EIC_CNT_CLR (R457). -/
def execEicCntClr (v : Word) (s : State) : Host.Outcome State Fault Refusal :=
  s.act fun s => s.plainWrite R.EIC_CTL v

end Sys2Proof.Machine
end

