-- ==== Sys2Proof/Machine/Lanes.lean ====
section
/-!
DEFINITION. The meanings of the commands of the lanes of Thegief (13_thegief_lanes).
-/
namespace Sys2Proof.Machine

/-- LINK_ENABLE (R370). -/
def execLinkEnable (p : Fin 32) (v : Word) (by' : Origin) (s : State) : Host.Outcome State Fault Refusal :=
  s.act fun s => s.regWrite (R.LNK_CTL p.val) v by'

/-- LINK_DISABLE (R377). -/
def execLinkDisable (p : Fin 32) (v : Word) (by' : Origin) (s : State) : Host.Outcome State Fault Refusal :=
  s.act fun s => s.regWrite (R.LNK_CTL p.val) v by'

/-- RETRAIN (R374). -/
def execRetrain (p : Fin 32) (v : Word) (by' : Origin) (s : State) : Host.Outcome State Fault Refusal :=
  s.act fun s => s.regWrite (R.LNK_CTL p.val) v by'

/-- LNK_CNT_CLR (R377). -/
def execLnkCntClr (p : Fin 32) (v : Word) (by' : Origin) (s : State) : Host.Outcome State Fault Refusal :=
  s.act fun s => s.regWrite (R.LNK_CTL p.val) v by'

/-- RESET_HOLD_END (R370). -/
def execResetHoldEnd (p : Fin 32) (s : State) : Host.Outcome State Fault Refusal :=
  s.act fun s => s.resetHoldEnd p.val

/-- DETECT_SIGNAL (R370). -/
def execDetectSignal (p : Fin 32) (lanes : Byte) (s : State) : Host.Outcome State Fault Refusal :=
  s.act fun s => s.detectSignal p.val lanes

/-- DETECT_TIMEOUT (R370). -/
def execDetectTimeout (p : Fin 32) (s : State) : Host.Outcome State Fault Refusal :=
  s.act fun s => s.detectTimeout p.val

/-- ABSENT_CHECK (R370). -/
def execAbsentCheck (p : Fin 32) (lanes : Byte) (s : State) : Host.Outcome State Fault Refusal :=
  s.act fun s => s.absentCheck p.val lanes

/-- SYMBOL_LOCK (R364). -/
def execSymbolLock (p : Fin 32) (lane : Fin 8) (inverted : Bool) (freq : Bool)
    (s : State) : Host.Outcome State Fault Refusal :=
  s.act fun s => s.symbolLock p.val lane.val inverted freq

/-- ALIGN_END (R370). -/
def execAlignEnd (p : Fin 32) (us : Nat) (s : State) : Host.Outcome State Fault Refusal :=
  s.act fun s => s.alignEnd p.val

/-- EQ_FAST_END (R370). -/
def execEqFastEnd (p : Fin 32) (eyes : List Byte) (us : Nat) (s : State) : Host.Outcome State Fault Refusal :=
  s.act fun s => s.eqFastEnd p.val eyes

/-- EQ_SEARCH_STEP (R370). -/
def execEqSearchStep (p : Fin 32) (eyes : List Byte) (s : State) : Host.Outcome State Fault Refusal :=
  s.act fun s => s.eqSearchStep p.val eyes

/-- EQ_SEARCH_END (R370). -/
def execEqSearchEnd (p : Fin 32) (us : Nat) (s : State) : Host.Outcome State Fault Refusal :=
  s.act fun s => s.eqSearchEnd p.val

/-- TRAIN_SET_RX (R369). -/
def execTrainSetRx (p : Fin 32) (copies : List (Fin 8 × List Byte)) (us : Nat)
    (s : State) : Host.Outcome State Fault Refusal :=
  s.act fun s => s.trainRx p.val (copies.map fun c => (c.1.val, c.2)) us

/-- LANE_CHECK_TIMEOUT (R370). -/
def execLaneCheckTimeout (p : Fin 32) (us : Nat) (s : State) : Host.Outcome State Fault Refusal :=
  s.act fun s => s.laneCheckTimeout p.val us

/-- CONFIG_TIMEOUT (R370). -/
def execConfigTimeout (p : Fin 32) (us : Nat) (s : State) : Host.Outcome State Fault Refusal :=
  s.act fun s => s.configTimeout p.val us

/-- HELD_DOWN_RETRY (R370). -/
def execHeldDownRetry (p : Fin 32) (s : State) : Host.Outcome State Fault Refusal :=
  s.act fun s => s.heldDownRetry p.val

/-- ALIGN_LOSS (R374). -/
def execAlignLoss (p : Fin 32) (lane : Fin 8) (s : State) : Host.Outcome State Fault Refusal :=
  s.act fun s => s.alignLoss p.val lane.val

/-- ERRORS (R374). -/
def execErrors (p : Fin 32) (lane : Fin 8) (codeErrors dispErrors : Nat)
    (s : State) : Host.Outcome State Fault Refusal :=
  s.act fun s => s.codeErrors p.val lane.val codeErrors dispErrors

/-- ELASTIC (R366). -/
def execElastic (p : Fin 32) (lane : Fin 8) (fill : Fin 65) (s : State) : Host.Outcome State Fault Refusal :=
  s.act fun s => s.elasticFill p.val lane.val fill.val

/-- DESKEW (R365). -/
def execDeskew (p : Fin 32) (s : State) : Host.Outcome State Fault Refusal :=
  s.act fun s => s.deskewFault p.val

/-- LOSS_OF_SIGNAL (R374). -/
def execLossOfSignal (p : Fin 32) (s : State) : Host.Outcome State Fault Refusal :=
  s.act fun s => s.linkFault p.val lrLOSS_OF_SIGNAL

/-- EYE_MEASURE (R367). -/
def execEyeMeasure (p : Fin 32) (eyes : List Byte) (s : State) : Host.Outcome State Fault Refusal :=
  s.act fun s => s.eyeMeasure p.val eyes

end Sys2Proof.Machine
end

