-- ==== Sys2Proof/Machine/Mailboxes.lean ====
section
/-!
DEFINITION. The meanings of the commands of the mailboxes and the firmware cores (16_interrupts_mailboxes, 17_firmware_processors).
-/
namespace Sys2Proof.Machine

/-- MBX_GO (R449). -/
def execMbxGo (i : Fin 17) (v : Word) (s : State) : Host.Outcome State Fault Refusal :=
  s.act fun s => s.plainWrite (R.MBX_CTL i.val) v

/-- MBX_ACK (R449). -/
def execMbxAck (i : Fin 17) (v : Word) (s : State) : Host.Outcome State Fault Refusal :=
  s.act fun s => s.plainWrite (R.MBX_CTL i.val) v

/-- QUIESCE (R454). -/
def execQuiesce (i : Fin 16) (s : State) : Host.Outcome State Fault Refusal :=
  s.act fun s => s.mbQuiesce i.val

/-- QUIESCE_LIMIT (R454). -/
def execQuiesceLimit (s : State) : Host.Outcome State Fault Refusal :=
  s.act fun s => s.quiesceLimit

/-- QUIESCE_DONE (R454). -/
def execQuiesceDone (s : State) : Host.Outcome State Fault Refusal :=
  s.act fun s => s.quiesceDone

/-- QUIESCE_ENTER (R454). -/
def execQuiesceEnter (s : State) : Host.Outcome State Fault Refusal :=
  s.act fun s => s.quiesceLeave

/-- MBX_VERSION (R469). -/
def execMbxVersion (i : Fin 16) (s : State) : Host.Outcome State Fault Refusal :=
  s.act fun s => s.mbVersion i.val

/-- MBX_HELLO (R468). -/
def execMbxHello (i : Fin 16) (straps : BitVec 16) (s : State) : Host.Outcome State Fault Refusal :=
  s.act fun s => s.mbHello i.val straps.toNat

/-- ATTEST (R472). -/
def execAttest (i : Fin 16) (s : State) : Host.Outcome State Fault Refusal :=
  s.act fun s => s.mbAttest i.val

/-- ID_KEY (R471). -/
def execIdKey (i : Fin 16) (s : State) : Host.Outcome State Fault Refusal :=
  s.act fun s => s.mbIdKey i.val

/-- FW_LOAD (R466). -/
def execFwLoad (straps : BitVec 16) (s : State) : Host.Outcome State Fault Refusal :=
  s.act fun s => s.fwLoad straps.toNat

/-- FW_ACTIVATE (R475). -/
def execFwActivate (i : Fin 16) (s : State) : Host.Outcome State Fault Refusal :=
  s.act fun s => s.mbActivate i.val

/-- FW_STATUS (R481). -/
def execFwStatus (i : Fin 16) (s : State) : Host.Outcome State Fault Refusal :=
  s.act fun s => s.mbStatus i.val

/-- DEFECTS (R504). -/
def execDefects (i : Fin 16) (s : State) : Host.Outcome State Fault Refusal :=
  s.act fun s => s.mbDefects i.val

/-- FW_ACTIVATION (R477). -/
def execFwActivation (s : State) : Host.Outcome State Fault Refusal :=
  s.act fun s => s.actEdge

/-- FW_ACTIVATION_DEFERRED_START (R476). -/
def execFwActivationDeferredStart (s : State) : Host.Outcome State Fault Refusal :=
  s.act fun s => s.actDeferred

/-- WATCHDOG_EXPIRY (R478). -/
def execWatchdogExpiry (c : Fin 11) (fault : Bool) (s : State) : Host.Outcome State Fault Refusal :=
  s.act fun s => s.watchdog c.val fault

/-- CORE_RUNS_AGAIN (R478). -/
def execCoreRunsAgain (c : Fin 11) (s : State) : Host.Outcome State Fault Refusal :=
  s.act fun s => s.coreRuns c.val

end Sys2Proof.Machine
end

