-- ==== Sys2Proof/Machine/Movers.lean ====
section
/-!
DEFINITION. The meanings of the commands of the data movers (08_data_movers).
-/
namespace Sys2Proof.Machine

/-- DMV_DOORBELL (R205). -/
def execDmvDoorbell (g : Fin 256) (q : Fin 16) (v : Word) (s : State) : Host.Outcome State Fault Refusal :=
  s.act fun s => s.plainWrite (qTAIL (queueKey g.val q.val)) v

/-- DESCRIPTOR_FETCH (R207). -/
def execDescriptorFetch (g : Fin 256) (s : State) : Host.Outcome State Fault Refusal :=
  s.act fun s => s.moverFetch g.val

/-- DESCRIPTOR_START (R211). -/
def execDescriptorStart (g : Fin 256) (q : Fin 16) (s : State) : Host.Outcome State Fault Refusal :=
  s.act fun s => s.descStart (queueKey g.val q.val)

/-- DESCRIPTOR_COMPLETE (R221). -/
def execDescriptorComplete (g : Fin 256) (q : Fin 16) (s : State) : Host.Outcome State Fault Refusal :=
  s.act fun s => s.descComplete (queueKey g.val q.val)

/-- MC_BRANCH_TIMEOUT (R226). -/
def execMcBranchTimeout (p : Fin 32) (s : State) : Host.Outcome State Fault Refusal :=
  s.act fun s => s.branchTimeout p.val

/-- QUEUE_ENABLE (R208). -/
def execQueueEnable (g : Fin 256) (q : Fin 16) (v : Word) (by' : Origin)
    (s : State) : Host.Outcome State Fault Refusal :=
  s.act fun s => s.regWrite (qCTL (queueKey g.val q.val)) v by'

/-- QUEUE_DISABLE (R232). -/
def execQueueDisable (g : Fin 256) (q : Fin 16) (v : Word) (by' : Origin)
    (s : State) : Host.Outcome State Fault Refusal :=
  s.act fun s => s.regWrite (qCTL (queueKey g.val q.val)) v by'

/-- QUEUE_RESET (R228). -/
def execQueueReset (g : Fin 256) (q : Fin 16) (v : Word) (by' : Origin)
    (s : State) : Host.Outcome State Fault Refusal :=
  s.act fun s => s.regWrite (qCTL (queueKey g.val q.val)) v by'

/-- QUEUE_RESET_DONE (R228). -/
def execQueueResetDone (g : Fin 256) (q : Fin 16) (s : State) : Host.Outcome State Fault Refusal :=
  s.act fun s => s.queueResetDone (queueKey g.val q.val)

/-- MOVER_LOST (R229). -/
def execMoverLost (g : Fin 256) (s : State) : Host.Outcome State Fault Refusal :=
  s.act fun s => s.moverLost g.val

/-- MOVER_LOSS_DRAINED (R229). -/
def execMoverLossDrained (g : Fin 256) (s : State) : Host.Outcome State Fault Refusal :=
  s.act fun s => s.moverDrained g.val

/-- DMV_CNT_CLR (R232). -/
def execDmvCntClr (g : Fin 256) (v : Word) (s : State) : Host.Outcome State Fault Refusal :=
  s.act fun s => s.plainWrite (R.DMV_CTL g.val) v

/-- BARRIER_NOTIFY (R116). -/
def execBarrierNotify (p : Fin 32) (s : State) : Host.Outcome State Fault Refusal :=
  s.act fun s => s.barrierNotify p.val

end Sys2Proof.Machine
end

