-- ==== Sys2Proof/Machine/Pins.lean ====
section
/-!
DEFINITION. The meanings of the commands of the reference clock, the I3C port and the TAP (22_connectors_ratings).
-/
namespace Sys2Proof.Machine

/-- REFCLK_LOSS (R577). -/
def execRefclkLoss (s : State) : Host.Outcome State Fault Refusal :=
  s.act fun s => s.refclkLoss

/-- REFCLK_RETURN (R577). -/
def execRefclkReturn (s : State) : Host.Outcome State Fault Refusal :=
  s.act fun s => s.refclkReturn

/-- I3C_REGISTER_WRITE (R582). -/
def execI3cRegisterWrite (bytes : List Byte) (s : State) : Host.Outcome State Fault Refusal :=
  s.act fun s => s.i3cLive fun s => s.i3cWrite bytes

/-- I3C_READ_REQUEST (R582). -/
def execI3cReadRequest (bytes : List Byte) (s : State) : Host.Outcome State Fault Refusal :=
  s.act fun s => s.i3cLive fun s => s.i3cWrite bytes

/-- I3C_PRIVATE_READ (R582). -/
def execI3cPrivateRead (s : State) : Host.Outcome State Fault Refusal :=
  s.act fun s => s.i3cLive fun s => s.i3cRead

/-- ENTDAA (R581). -/
def execEntdaa (a : BitVec 7) (s : State) : Host.Outcome State Fault Refusal :=
  s.act fun s => s.i3cLive fun s => s.i3cEntdaa a

/-- SETDASA (R581). -/
def execSetdasa (static : BitVec 7) (a : BitVec 7) (s : State) : Host.Outcome State Fault Refusal :=
  s.act fun s => s.i3cLive fun s => s.i3cSetdasa static a

/-- RSTDAA (R581). -/
def execRstdaa (s : State) : Host.Outcome State Fault Refusal :=
  s.act fun s => s.i3cLive fun s => s.i3cRstdaa

/-- ENEC (R581). -/
def execEnec (s : State) : Host.Outcome State Fault Refusal :=
  s.act fun s => s.i3cLive fun s => s

/-- DISEC (R581). -/
def execDisec (s : State) : Host.Outcome State Fault Refusal :=
  s.act fun s => s.i3cLive fun s => s

/-- GETPID (R581). -/
def execGetpid (s : State) : Host.Outcome State Fault Refusal :=
  s.act fun s => s.i3cLive fun s => s.i3cPid

/-- GETBCR (R581). -/
def execGetbcr (s : State) : Host.Outcome State Fault Refusal :=
  s.act fun s => s.i3cLive fun s => s.i3cSend [Config.busCharacteristics]

/-- GETDCR (R581). -/
def execGetdcr (s : State) : Host.Outcome State Fault Refusal :=
  s.act fun s => s.i3cLive fun s => s.i3cSend [Config.deviceCharacteristics]

/-- GETSTATUS (R581). -/
def execGetstatus (s : State) : Host.Outcome State Fault Refusal :=
  s.act fun s => s.i3cLive fun s => s.i3cStatus

/-- GETMWL (R581). -/
def execGetmwl (s : State) : Host.Outcome State Fault Refusal :=
  s.act fun s => s.i3cLive fun s => s.i3cSend [0#8, BitVec.ofNat 8 maxWrite]

/-- GETMRL (R581). -/
def execGetmrl (s : State) : Host.Outcome State Fault Refusal :=
  s.act fun s => s.i3cLive fun s => s.i3cSend [0#8, BitVec.ofNat 8 maxRead]

/-- BYPASS (R583). -/
def execBypass (s : State) : Host.Outcome State Fault Refusal :=
  s.act fun s => s.tapTake tapBYPASS

/-- IDCODE (R583). -/
def execIdcode (s : State) : Host.Outcome State Fault Refusal :=
  s.act fun s => (s.tapTake tapIDCODE).tapSend (Word.bytes 4 s.idcode)

/-- SAMPLE_PRELOAD (R583). -/
def execSamplePreload (pins load : BitVec 20) (s : State) : Host.Outcome State Fault Refusal :=
  s.act fun s => s.tapChain tapSAMPLE pins load

/-- EXTEST (R584). -/
def execExtest (pins load : BitVec 20) (s : State) : Host.Outcome State Fault Refusal :=
  s.act fun s => s.tapExtest pins load

end Sys2Proof.Machine
end

