-- ==== Sys2Proof/Machine/Program.lean ====
section
/-!
DEFINITION. The meanings of the commands of the NME instructions (11_nme_instruction_set): an engine issues the next instruction of its program.
-/
namespace Sys2Proof.Machine

/-- ADD (R299). -/
def execAdd (n : Fin 16) (s : State) : Host.Outcome State Fault Refusal :=
  s.act fun s => s.scalar n.val 0x01 opADD

/-- SUB (R299). -/
def execSub (n : Fin 16) (s : State) : Host.Outcome State Fault Refusal :=
  s.act fun s => s.scalar n.val 0x02 opSUB

/-- MUL (R299). -/
def execMul (n : Fin 16) (s : State) : Host.Outcome State Fault Refusal :=
  s.act fun s => s.scalar n.val 0x03 opMUL

/-- AND (R299). -/
def execAndOp (n : Fin 16) (s : State) : Host.Outcome State Fault Refusal :=
  s.act fun s => s.scalar n.val 0x04 opAND

/-- OR (R299). -/
def execOrOp (n : Fin 16) (s : State) : Host.Outcome State Fault Refusal :=
  s.act fun s => s.scalar n.val 0x05 opOR

/-- XOR (R299). -/
def execXorOp (n : Fin 16) (s : State) : Host.Outcome State Fault Refusal :=
  s.act fun s => s.scalar n.val 0x06 opXOR

/-- SLL (R299). -/
def execSll (n : Fin 16) (s : State) : Host.Outcome State Fault Refusal :=
  s.act fun s => s.scalar n.val 0x07 opSLL

/-- SRL (R299). -/
def execSrl (n : Fin 16) (s : State) : Host.Outcome State Fault Refusal :=
  s.act fun s => s.scalar n.val 0x08 opSRL

/-- SRA (R299). -/
def execSra (n : Fin 16) (s : State) : Host.Outcome State Fault Refusal :=
  s.act fun s => s.scalar n.val 0x09 opSRA

/-- MIN (R299). -/
def execMinOp (n : Fin 16) (s : State) : Host.Outcome State Fault Refusal :=
  s.act fun s => s.scalar n.val 0x0A opMIN

/-- MAX (R299). -/
def execMaxOp (n : Fin 16) (s : State) : Host.Outcome State Fault Refusal :=
  s.act fun s => s.scalar n.val 0x0B opMAX

/-- ADDI (R299). -/
def execAddi (n : Fin 16) (s : State) : Host.Outcome State Fault Refusal :=
  s.act fun s => s.scalar n.val 0x0C opADDI

/-- LI (R299). -/
def execLi (n : Fin 16) (s : State) : Host.Outcome State Fault Refusal :=
  s.act fun s => s.scalar n.val 0x0D opLI

/-- LUI (R299). -/
def execLui (n : Fin 16) (s : State) : Host.Outcome State Fault Refusal :=
  s.act fun s => s.scalar n.val 0x0E opLUI

/-- NOP (R297). -/
def execNop (n : Fin 16) (s : State) : Host.Outcome State Fault Refusal :=
  s.act fun s => s.nmeNop n.val

/-- END (R307). -/
def execEndOp (n : Fin 16) (s : State) : Host.Outcome State Fault Refusal :=
  s.act fun s => s.nmeEnd n.val

/-- BR (R300). -/
def execBr (n : Fin 16) (s : State) : Host.Outcome State Fault Refusal :=
  s.act fun s => s.nmeBr n.val

/-- LOOP (R301). -/
def execLoop (n : Fin 16) (s : State) : Host.Outcome State Fault Refusal :=
  s.act fun s => s.nmeLoop n.val

/-- WAITBEAT (R302). -/
def execWaitbeat (n : Fin 16) (s : State) : Host.Outcome State Fault Refusal :=
  s.act fun s => s.nmeWaitbeat n.val

/-- WAITTOK_SCOREBOARD (R303). -/
def execWaittokScoreboard (n : Fin 16) (s : State) : Host.Outcome State Fault Refusal :=
  s.act fun s => s.nmeWaittok n.val

/-- WAITTOK_RING (R303). -/
def execWaittokRing (n : Fin 16) (s : State) : Host.Outcome State Fault Refusal :=
  s.act fun s => s.nmeWaitRing n.val

/-- POSTTOK_SCOREBOARD (R304). -/
def execPosttokScoreboard (n : Fin 16) (s : State) : Host.Outcome State Fault Refusal :=
  s.act fun s => s.nmePosttok n.val

/-- POSTTOK_RING (R304). -/
def execPosttokRing (n : Fin 16) (s : State) : Host.Outcome State Fault Refusal :=
  s.act fun s => s.nmePostRing n.val

/-- RDS (R305). -/
def execRds (n : Fin 16) (s : State) : Host.Outcome State Fault Refusal :=
  s.act fun s => s.nmeRds n.val

/-- WRS (R305). -/
def execWrs (n : Fin 16) (s : State) : Host.Outcome State Fault Refusal :=
  s.act fun s => s.nmeWrs n.val

/-- LDX (R306). -/
def execLdx (n : Fin 16) (hit : ScratchHit) (s : State) : Host.Outcome State Fault Refusal :=
  s.act fun s => s.nmeLdx n.val hit

/-- STX (R306). -/
def execStx (n : Fin 16) (s : State) : Host.Outcome State Fault Refusal :=
  s.act fun s => s.nmeStx n.val

/-- GCFG_LEVEL (R309). -/
def execGcfgLevel (n : Fin 16) (s : State) : Host.Outcome State Fault Refusal :=
  s.act fun s => s.gcfgLevel n.val

/-- GCFG_OFFSET (R309). -/
def execGcfgOffset (n : Fin 16) (s : State) : Host.Outcome State Fault Refusal :=
  s.act fun s => s.gcfgOffset n.val

/-- GCFG_ROWSTRIDE (R309). -/
def execGcfgRowstride (n : Fin 16) (s : State) : Host.Outcome State Fault Refusal :=
  s.act fun s => s.gcfgRowstride n.val

/-- GCFG_RUN (R309). -/
def execGcfgRun (n : Fin 16) (s : State) : Host.Outcome State Fault Refusal :=
  s.act fun s => s.gcfgRun n.val

/-- GCFG_INDIRECT (R311). -/
def execGcfgIndirect (n : Fin 16) (hit : ScratchHit) (s : State) : Host.Outcome State Fault Refusal :=
  s.act fun s => s.gcfgIndirect n.val hit

/-- SOPEN (R312). -/
def execSopen (n : Fin 16) (s : State) : Host.Outcome State Fault Refusal :=
  s.act fun s => s.nmeSopen n.val

/-- SCLOSE (R313). -/
def execSclose (n : Fin 16) (s : State) : Host.Outcome State Fault Refusal :=
  s.act fun s => s.nmeSclose n.val

/-- LDT (R319). -/
def execLdt (n : Fin 16) (hit : ScratchHit) (s : State) : Host.Outcome State Fault Refusal :=
  s.act fun s => s.nmeLdt n.val hit

/-- STT (R319). -/
def execStt (n : Fin 16) (s : State) : Host.Outcome State Fault Refusal :=
  s.act fun s => s.nmeStt n.val

/-- MMA (R320). -/
def execMma (n : Fin 16) (hit : ScratchHit) (s : State) : Host.Outcome State Fault Refusal :=
  s.act fun s => s.nmeMma n.val hit

/-- VMA (R321). -/
def execVma (n : Fin 16) (hit : ScratchHit) (s : State) : Host.Outcome State Fault Refusal :=
  s.act fun s => s.nmeVma n.val hit

/-- EW_MOV (R323). -/
def execEwMov (n : Fin 16) (s : State) : Host.Outcome State Fault Refusal :=
  s.act fun s => s.ewMov n.val

/-- EW_ADD (R323). -/
def execEwAdd (n : Fin 16) (s : State) : Host.Outcome State Fault Refusal :=
  s.act fun s => s.ewAdd n.val

/-- EW_SUB (R323). -/
def execEwSub (n : Fin 16) (s : State) : Host.Outcome State Fault Refusal :=
  s.act fun s => s.ewSub n.val

/-- EW_MUL (R323). -/
def execEwMul (n : Fin 16) (s : State) : Host.Outcome State Fault Refusal :=
  s.act fun s => s.ewMul n.val

/-- EW_FMA (R323). -/
def execEwFma (n : Fin 16) (s : State) : Host.Outcome State Fault Refusal :=
  s.act fun s => s.ewFma n.val

/-- EW_MAX (R323). -/
def execEwMax (n : Fin 16) (s : State) : Host.Outcome State Fault Refusal :=
  s.act fun s => s.ewMax n.val

/-- EW_MIN (R323). -/
def execEwMin (n : Fin 16) (s : State) : Host.Outcome State Fault Refusal :=
  s.act fun s => s.ewMin n.val

/-- EW_ABS (R323). -/
def execEwAbs (n : Fin 16) (s : State) : Host.Outcome State Fault Refusal :=
  s.act fun s => s.ewAbs n.val

/-- EW_NEG (R323). -/
def execEwNeg (n : Fin 16) (s : State) : Host.Outcome State Fault Refusal :=
  s.act fun s => s.ewNeg n.val

/-- EW_RCP (R323). -/
def execEwRcp (n : Fin 16) (s : State) : Host.Outcome State Fault Refusal :=
  s.act fun s => s.ewRcp n.val

/-- EW_RSQRT (R323). -/
def execEwRsqrt (n : Fin 16) (s : State) : Host.Outcome State Fault Refusal :=
  s.act fun s => s.ewRsqrt n.val

/-- EXP2 (R324). -/
def execExp2 (n : Fin 16) (s : State) : Host.Outcome State Fault Refusal :=
  s.act fun s => s.nmeExp2 n.val

/-- SCALE (R324). -/
def execScale (n : Fin 16) (s : State) : Host.Outcome State Fault Refusal :=
  s.act fun s => s.nmeScale n.val

/-- RMAX (R325). -/
def execRmax (n : Fin 16) (s : State) : Host.Outcome State Fault Refusal :=
  s.act fun s => s.nmeRmax n.val

/-- RED_SUM (R326). -/
def execRedSum (n : Fin 16) (hit : ScratchHit) (s : State) : Host.Outcome State Fault Refusal :=
  s.act fun s => s.redSum n.val hit

/-- RED_MAX (R326). -/
def execRedMax (n : Fin 16) (hit : ScratchHit) (s : State) : Host.Outcome State Fault Refusal :=
  s.act fun s => s.redMax n.val hit

/-- RED_MIN (R326). -/
def execRedMin (n : Fin 16) (hit : ScratchHit) (s : State) : Host.Outcome State Fault Refusal :=
  s.act fun s => s.redMin n.val hit

/-- CVT (R327). -/
def execCvt (n : Fin 16) (s : State) : Host.Outcome State Fault Refusal :=
  s.act fun s => s.nmeCvt n.val

/-- PACK (R328). -/
def execPack (n : Fin 16) (s : State) : Host.Outcome State Fault Refusal :=
  s.act fun s => s.nmePack n.val

/-- UNPACK (R328). -/
def execUnpack (n : Fin 16) (s : State) : Host.Outcome State Fault Refusal :=
  s.act fun s => s.nmeUnpack n.val

/-- TOPK (R329). -/
def execTopk (n : Fin 16) (s : State) : Host.Outcome State Fault Refusal :=
  s.act fun s => s.nmeTopk n.val

/-- GATH (R330). -/
def execGath (n : Fin 16) (hit : ScratchHit) (s : State) : Host.Outcome State Fault Refusal :=
  s.act fun s => s.nmeGath n.val hit

/-- SEND (R331). -/
def execSend (n : Fin 16) (s : State) : Host.Outcome State Fault Refusal :=
  s.act fun s => s.nmeSend n.val

/-- RECV (R332). -/
def execRecv (n : Fin 16) (s : State) : Host.Outcome State Fault Refusal :=
  s.act fun s => s.nmeRecv n.val

/-- RRED (R333). -/
def execRred (n : Fin 16) (s : State) : Host.Outcome State Fault Refusal :=
  s.act fun s => s.nmeRred n.val

/-- FENCE (R334). -/
def execFence (n : Fin 16) (s : State) : Host.Outcome State Fault Refusal :=
  s.act fun s => s.nmeFence n.val

end Sys2Proof.Machine
end

