-- ==== Sys2Proof/Machine/Regulation.lean ====
section
/-!
DEFINITION. The meanings of the commands of regulation (12_regulation).
-/
namespace Sys2Proof.Machine

/-- QFB_INTERVAL (R352). -/
def execQfbInterval (m : Fin 24) (depth : Fin 8192) (s : State) : Host.Outcome State Fault Refusal :=
  s.act fun s => s.qfbInterval m.val depth.val

/-- QFB_CONGESTED (R353). -/
def execQfbCongested (src : Throttled) (m : Fin 24) (s : State) : Host.Outcome State Fault Refusal :=
  s.act fun s => s.qfbReceive (sourceOf src) m.val true

/-- QFB_CLEAR (R353). -/
def execQfbClear (src : Throttled) (m : Fin 24) (s : State) : Host.Outcome State Fault Refusal :=
  s.act fun s => s.qfbReceive (sourceOf src) m.val false

/-- RGL_RECOMPUTE (R347). -/
def execRglRecompute (at' : RglTarget) (v : Word) (by' : Origin) (s : State) : Host.Outcome State Fault Refusal :=
  s.act fun s => s.regWrite (rglReg at') v by'

/-- RGL_RECOMPUTE_DONE (R346). -/
def execRglRecomputeDone (s : State) : Host.Outcome State Fault Refusal :=
  s.act fun s => s.rglDone

/-- TDF_ARM (R345). -/
def execTdfArm (v : Word) (by' : Origin) (s : State) : Host.Outcome State Fault Refusal :=
  s.act fun s => s.regWrite R.RGL_TDF_CTL v by'

/-- RGL_CNT_CLR (R357). -/
def execRglCntClr (v : Word) (by' : Origin) (s : State) : Host.Outcome State Fault Refusal :=
  s.act fun s => s.regWrite R.RGL_CTL v by'

end Sys2Proof.Machine
end

