-- ==== Sys2Proof/Machine/Sites.lean ====
section
/-!
DEFINITION. The meanings of the commands of the request ports and the power grants of the sites (15_top_die_interface).
-/
namespace Sys2Proof.Machine

/-- TDI_RD (R418). -/
def execTdiRd (d : Fin 8) (p : Fin 64) (word : BitVec 128) (s : State) : Host.Outcome State Fault Refusal :=
  s.act fun s => s.tdiCommand d.val p.val tdRD word

/-- TDI_WR (R415). -/
def execTdiWr (d : Fin 8) (p : Fin 64) (word : BitVec 128) (s : State) : Host.Outcome State Fault Refusal :=
  s.act fun s => s.tdiCommand d.val p.val tdWR word

/-- TDI_AT (R415). -/
def execTdiAt (d : Fin 8) (p : Fin 64) (word : BitVec 128) (s : State) : Host.Outcome State Fault Refusal :=
  s.act fun s => s.tdiCommand d.val p.val tdAT word

/-- TDI_ATR (R418). -/
def execTdiAtr (d : Fin 8) (p : Fin 64) (word : BitVec 128) (s : State) : Host.Outcome State Fault Refusal :=
  s.act fun s => s.tdiCommand d.val p.val tdATR word

/-- TDI_FENCE (R419). -/
def execTdiFence (d : Fin 8) (p : Fin 64) (word : BitVec 128) (s : State) : Host.Outcome State Fault Refusal :=
  s.act fun s => s.tdiCommand d.val p.val tdFENCE word

/-- TDI_WAITTOK (R420). -/
def execTdiWaittok (d : Fin 8) (p : Fin 64) (word : BitVec 128) (s : State) : Host.Outcome State Fault Refusal :=
  s.act fun s => s.tdiCommand d.val p.val tdWAITTOK word

/-- TDI_WAITTOK_TIMEOUT (R420). -/
def execTdiWaittokTimeout (d : Fin 8) (p : Fin 64) (tag : Fin 1024) (s : State) : Host.Outcome State Fault Refusal :=
  s.act fun s => s.siteWaitTimeout (64 * d.val + p.val) tag.val

/-- TDI_DATA_FLIT (R421). -/
def execTdiDataFlit (d : Fin 8) (p : Fin 64) (data : BitVec 512) (mask : BitVec 64) (parity : Byte)
    (s : State) : Host.Outcome State Fault Refusal :=
  s.act fun s => s.tdiFlit d.val p.val data mask parity

/-- TDI_UNFENCE (R428). -/
def execTdiUnfence (d : Fin 8) (p : Fin 64) (v : Word) (by' : Origin)
    (s : State) : Host.Outcome State Fault Refusal :=
  s.act fun s => s.regWrite (R.TDI_PORT_CFG d.val p.val) v by'

/-- TDI_CNT_CLR (R428). -/
def execTdiCntClr (d : Fin 8) (v : Word) (s : State) : Host.Outcome State Fault Refusal :=
  s.act fun s => s.plainWrite (R.TDI_CTL d.val) v

/-- GRANT_ARM (R423). -/
def execGrantArm (d : Fin 8) (v : Word) (by' : Origin) (s : State) : Host.Outcome State Fault Refusal :=
  s.act fun s => s.regWrite (R.TDI_PWR_GRANT d.val) v by'

end Sys2Proof.Machine
end

