-- ==== Sys2Proof/Machine/Stacks.lean ====
section
/-!
DEFINITION. The meanings of the commands of the stack controllers (06_stack_controllers).
-/
namespace Sys2Proof.Machine

/-- STK_READ (R155). -/
def execStkRead (a : BitVec 41) (len : Nat) (ctx : BitVec 12) (cls : Fin 16) (hit : DramUpset)
    (s : State) : Host.Outcome State Fault Refusal :=
  s.act fun s => s.stackRead a.toNat len ctx.toNat cls.val hit

/-- STK_WRITE (R157). -/
def execStkWrite (a : BitVec 41) (data : List Byte) (ctx : BitVec 12) (cls : Fin 16) (hit : DramUpset)
    (s : State) : Host.Outcome State Fault Refusal :=
  s.act fun s => s.stackWrite a.toNat (allBytes data) ctx.toNat cls.val hit

/-- STK_PARTIAL_WRITE (R158). -/
def execStkPartialWrite (a : BitVec 41) (data : List (Option Byte)) (ctx : BitVec 12) (cls : Fin 16) (hit : DramUpset)
    (s : State) : Host.Outcome State Fault Refusal :=
  s.act fun s => s.stackWrite a.toNat data ctx.toNat cls.val hit

/-- ROW_PRECHARGE (R156). -/
def execRowPrecharge (m : Fin 24) (pc bank : Fin 64) (s : State) : Host.Outcome State Fault Refusal :=
  s.act fun s => s.stkPrecharge m.val pc.val bank.val

/-- REFRESH (R161). -/
def execRefresh (m : Fin 24) (pc bank : Fin 64) (s : State) : Host.Outcome State Fault Refusal :=
  s.act fun s => s.stkRefresh m.val pc.val bank.val

/-- STACK_TEMP_READ (R161). -/
def execStackTempRead (m : Fin 24) (temp : Byte) (s : State) : Host.Outcome State Fault Refusal :=
  s.act fun s => s.stkTemp m.val temp.toNat

/-- STK_SCRUB (R165). -/
def execStkScrub (m : Fin 24) (pc bank : Fin 64) (row : Fin 16384) (last : Bool) (hit : DramUpset)
    (s : State) : Host.Outcome State Fault Refusal :=
  s.act fun s => s.stackScrub m.val pc.val bank.val row.val last hit

/-- PARITY_RETRY (R167). -/
def execParityRetry (a : BitVec 41) (source : Fin 5) (s : State) : Host.Outcome State Fault Refusal :=
  s.act fun s => s.stackParity a.toNat source.val

/-- PC_FENCE (R168). -/
def execPcFence (a : BitVec 41) (source : Fin 5) (s : State) : Host.Outcome State Fault Refusal :=
  s.act fun s => s.pcLost a.toNat source.val

/-- STK_ERR_POP (R170). -/
def execStkErrPop (m : Fin 24) (v : Word) (s : State) : Host.Outcome State Fault Refusal :=
  s.act fun s => s.plainWrite (R.STK_ERR_POP m.val) v

/-- STK_CNT_CLR (R172). -/
def execStkCntClr (m : Fin 24) (v : Word) (by' : Origin) (s : State) : Host.Outcome State Fault Refusal :=
  s.act fun s => s.regWrite (R.STK_ERR_CTL m.val) v by'

/-- STK_INJECT_ARM (R172). -/
def execStkInjectArm (m : Fin 24) (v : Word) (by' : Origin) (s : State) : Host.Outcome State Fault Refusal :=
  s.act fun s => s.regWrite (R.STK_INJECT m.val) v by'

end Sys2Proof.Machine
end

