-- ==== Sys2Proof/Machine/Startup.lean ====
section
/-!
DEFINITION. The meanings of the commands of start-up, configuration and the boot flash (18_startup_configuration), and register writes at large (R7).
-/
namespace Sys2Proof.Machine

/-- REGISTER_WRITE (R7). -/
def execRegisterWrite (off : Nat) (bytes : List Byte) (by' : Origin) (s : State) : Host.Outcome State Fault Refusal :=
  s.act fun s => s.regWriteBytes off bytes by'

/-- INPUT_SWITCH_CLOSE (R514). -/
def execInputSwitchClose (fell : Bool) (s : State) : Host.Outcome State Fault Refusal :=
  s.act fun s => s.switchClose fell

/-- POWER_GOOD (R514). -/
def execPowerGood (pins : PowerPins) (s : State) : Host.Outcome State Fault Refusal :=
  s.act fun s => s.powerGood pins

/-- SPROUT_BOOT (R465). -/
def execSproutBoot (bridges : BitVec 10) (s : State) : Host.Outcome State Fault Refusal :=
  s.act fun s => s.sproutBoot bridges.toNat

/-- WARM_RESET (R486). -/
def execWarmReset (v : Word) (by' : Origin) (s : State) : Host.Outcome State Fault Refusal :=
  s.act fun s => s.regWrite R.TOP_CTL v by'

/-- STATE_TIMEOUT (R485). -/
def execStateTimeout (s : State) : Host.Outcome State Fault Refusal :=
  s.act fun s => s.stateTimeout

/-- STACK_TRAINING_DONE (R497). -/
def execStackTrainingDone (m : Fin 24) (r : TrainedStack) (s : State) : Host.Outcome State Fault Refusal :=
  s.act fun s => s.stackTrained m.val r

/-- MEMORY_PASS (R500). -/
def execMemoryPass (slices : BitVec 24) (s : State) : Host.Outcome State Fault Refusal :=
  s.act fun s => s.memoryPass slices.toNat

/-- FILL_DONE (R164). -/
def execFillDone (times : List Nat) (s : State) : Host.Outcome State Fault Refusal :=
  s.act fun s => s.fillDone times

/-- UNIT_PASS (R507). -/
def execUnitPass (r : UnitTests) (s : State) : Host.Outcome State Fault Refusal :=
  s.act fun s => s.unitPass r

/-- REQ_LINKS_WRITE (R507). -/
def execReqLinksWrite (v : Word) (by' : Origin) (s : State) : Host.Outcome State Fault Refusal :=
  s.act fun s => s.regWrite R.TOP_REQ_LINKS v by'

/-- REQ_WIDTH_WRITE (R507). -/
def execReqWidthWrite (v : Word) (by' : Origin) (s : State) : Host.Outcome State Fault Refusal :=
  s.act fun s => s.regWrite R.TOP_REQ_WIDTH v by'

/-- FLASH_READ (R484). -/
def execFlashRead (v : Word) (by' : Origin) (s : State) : Host.Outcome State Fault Refusal :=
  s.act fun s => s.regWrite R.TOP_FLASH_CTL v by'

/-- FLASH_PROGRAM (R484). -/
def execFlashProgram (v : Word) (by' : Origin) (s : State) : Host.Outcome State Fault Refusal :=
  s.act fun s => s.regWrite R.TOP_FLASH_CTL v by'

/-- FLASH_ERASE (R484). -/
def execFlashErase (v : Word) (by' : Origin) (s : State) : Host.Outcome State Fault Refusal :=
  s.act fun s => s.regWrite R.TOP_FLASH_CTL v by'

/-- FLASH_COMMAND_DONE (R484). -/
def execFlashCommandDone (error : Bool) (s : State) : Host.Outcome State Fault Refusal :=
  s.act fun s => s.flashDone error

/-- DEFECT_FLUSH (R502). -/
def execDefectFlush (s : State) : Host.Outcome State Fault Refusal :=
  s.act fun s => s.flushDefects

end Sys2Proof.Machine
end

