-- ==== Sys2Proof/Machine/Supply.lean ====
section
/-!
DEFINITION. The meanings of the commands of power and thermal (19_power_thermal).
-/
namespace Sys2Proof.Machine

/-- POWER_STAGE_FAULT (R512). -/
def execPowerStageFault (n : Fin 8) (s : State) : Host.Outcome State Fault Refusal :=
  s.act fun s => s.stageFault n.val

/-- RAIL_REGULATION_TIMEOUT (R515). -/
def execRailRegulationTimeout (s : State) : Host.Outcome State Fault Refusal :=
  s.act fun s => s.railTimeout

/-- HOUSEKEEPING_MEASURE (R525). -/
def execHousekeepingMeasure (d : Fin 8) (j : Fin 48) (reading : Option (BitVec 16)) (written : Nat)
    (s : State) : Host.Outcome State Fault Refusal :=
  s.act fun s => s.measure d.val j.val (reading.map BitVec.toNat) written

/-- BUDGET_ROUND (R518). -/
def execBudgetRound (s : State) : Host.Outcome State Fault Refusal :=
  s.act fun s => s.budgetRound

/-- LIMITER_UV (R519). -/
def execLimiterUv (s : State) : Host.Outcome State Fault Refusal :=
  s.act fun s => s.comparator lcUV

/-- LIMITER_OC (R519). -/
def execLimiterOc (s : State) : Host.Outcome State Fault Refusal :=
  s.act fun s => s.comparator lcOC

/-- LIMITER_RELEASE (R519). -/
def execLimiterRelease (e : LimiterEnd) (s : State) : Host.Outcome State Fault Refusal :=
  s.act fun s => s.limiterRelease e

/-- LIMITER_HOLD_EXPIRY (R521). -/
def execLimiterHoldExpiry (s : State) : Host.Outcome State Fault Refusal :=
  s.act fun s => s.limiterExpire

/-- EMERGENCY_CLEAR (R521). -/
def execEmergencyClear (v : Word) (by' : Origin) (s : State) : Host.Outcome State Fault Refusal :=
  s.act fun s => s.regWrite R.PWR_EMERG v by'

/-- EMERGENCY_AUTO_CLEAR (R521). -/
def execEmergencyAutoClear (s : State) : Host.Outcome State Fault Refusal :=
  s.act fun s => s.emergencyEnd true

/-- INPUT_LOSS (R522). -/
def execInputLoss (cause : LossCause) (written : Nat) (s : State) : Host.Outcome State Fault Refusal :=
  s.act fun s => s.inputLoss (lossCode cause) 0 written

/-- HOLDUP_END (R522). -/
def execHoldupEnd (s : State) : Host.Outcome State Fault Refusal :=
  s.act fun s => s.holdupEnd

/-- INPUT_RETURN (R523). -/
def execInputReturn (pins : PowerPins) (s : State) : Host.Outcome State Fault Refusal :=
  s.act fun s => s.inputReturn pins

/-- HOLDUP_READY_CHANGE (R524). -/
def execHoldupReadyChange (ready : Bool) (s : State) : Host.Outcome State Fault Refusal :=
  s.act fun s => s.holdupChange ready

end Sys2Proof.Machine
end

