-- ==== Sys2Proof/Machine/Thegief.lean ====
section
/-!
DEFINITION. The meanings of the commands of the protocol and the pods of Thegief (14_thegief_protocol_pods).
-/
namespace Sys2Proof.Machine

/-- RD (R385). -/
def execRd (p : Fin 32) (hdr : BitVec 128) (payload : List Byte) (crc : BitVec 32)
    (s : State) : Host.Outcome State Fault Refusal :=
  s.act fun s => s.rxHusk p.val Husk.RD hdr payload crc

/-- WR (R385). -/
def execWr (p : Fin 32) (hdr : BitVec 128) (payload : List Byte) (crc : BitVec 32)
    (s : State) : Host.Outcome State Fault Refusal :=
  s.act fun s => s.rxHusk p.val Husk.WR hdr payload crc

/-- AT (R385). -/
def execAtPost (p : Fin 32) (hdr : BitVec 128) (payload : List Byte) (crc : BitVec 32)
    (s : State) : Host.Outcome State Fault Refusal :=
  s.act fun s => s.rxHusk p.val Husk.AT hdr payload crc

/-- ATR (R385). -/
def execAtr (p : Fin 32) (hdr : BitVec 128) (payload : List Byte) (crc : BitVec 32)
    (s : State) : Host.Outcome State Fault Refusal :=
  s.act fun s => s.rxHusk p.val Husk.ATR hdr payload crc

/-- MCW (R395). -/
def execMcw (p : Fin 32) (hdr : BitVec 128) (payload : List Byte) (crc : BitVec 32)
    (s : State) : Host.Outcome State Fault Refusal :=
  s.act fun s => s.rxHusk p.val Husk.MCW hdr payload crc

/-- BAR (R386). -/
def execBar (p : Fin 32) (hdr : BitVec 128) (payload : List Byte) (crc : BitVec 32)
    (s : State) : Host.Outcome State Fault Refusal :=
  s.act fun s => s.rxHusk p.val Husk.BAR hdr payload crc

/-- MBAR (R386). -/
def execMbar (p : Fin 32) (hdr : BitVec 128) (payload : List Byte) (crc : BitVec 32)
    (s : State) : Host.Outcome State Fault Refusal :=
  s.act fun s => s.rxHusk p.val Husk.MBAR hdr payload crc

/-- RSP (R388). -/
def execRsp (p : Fin 32) (hdr : BitVec 128) (payload : List Byte) (crc : BitVec 32)
    (s : State) : Host.Outcome State Fault Refusal :=
  s.act fun s => s.rxHusk p.val Husk.RSP hdr payload crc

/-- CRD (R390). -/
def execCrd (p : Fin 32) (hdr : BitVec 128) (payload : List Byte) (crc : BitVec 32)
    (s : State) : Host.Outcome State Fault Refusal :=
  s.act fun s => s.rxHusk p.val Husk.CRD hdr payload crc

/-- FRAMING_ERROR (R384). -/
def execFramingError (p : Fin 32) (s : State) : Host.Outcome State Fault Refusal :=
  s.act fun s => s.framingError p.val

/-- HUSK_SEND (R389). -/
def execHuskSend (p : Fin 32) (s : State) : Host.Outcome State Fault Refusal :=
  s.act fun s => s.huskSend p.val

/-- CRD_SEND (R390). -/
def execCrdSend (p : Fin 32) (s : State) : Host.Outcome State Fault Refusal :=
  s.act fun s => s.crdSend p.val

/-- TAG_TIMEOUT (R388). -/
def execTagTimeout (pool : Fin 66) (tag : Fin 4096) (s : State) : Host.Outcome State Fault Refusal :=
  s.act fun s => s.tagTimeout pool.val tag.val

/-- ROUTE_HOLD_END (R103). -/
def execRouteHoldEnd (dest : Fin 64) (s : State) : Host.Outcome State Fault Refusal :=
  s.act fun s => s.routeHoldEnd dest.val

/-- FORK_COPY_DROP (R396). -/
def execForkCopyDrop (p : Fin 32) (index : Nat) (s : State) : Host.Outcome State Fault Refusal :=
  s.act fun s => s.forkCopyDrop p.val index

/-- HELLO (R397). -/
def execHello (p : Fin 32) (b : HelloBody) (s : State) : Host.Outcome State Fault Refusal :=
  s.act fun s => s.helloRx p.val b

/-- MASTER_ELECTED (R397). -/
def execMasterElected (s : State) : Host.Outcome State Fault Refusal :=
  s.act fun s => s.masterElected

/-- JOIN (R401). -/
def execJoin (p : Fin 32) (h : CtlHead) (b : JoinBody) (s : State) : Host.Outcome State Fault Refusal :=
  s.act fun s => s.joinRx p.val h b

/-- ASSIGN (R401). -/
def execAssign (p : Fin 32) (h : CtlHead) (b : AssignBody) (s : State) : Host.Outcome State Fault Refusal :=
  s.act fun s => s.assignRx p.val h b

/-- MEMBERS (R400). -/
def execMembers (p : Fin 32) (h : CtlHead) (version : BitVec 32) (rows : List MemberRow)
    (s : State) : Host.Outcome State Fault Refusal :=
  s.act fun s => s.membersRx p.val h version rows

/-- ROUTES (R393). -/
def execRoutes (p : Fin 32) (h : CtlHead) (version : BitVec 32) (rows : List RouteRow)
    (s : State) : Host.Outcome State Fault Refusal :=
  s.act fun s => s.routesRx p.val h version rows

/-- GROUPS (R394). -/
def execGroups (p : Fin 32) (h : CtlHead) (version : BitVec 32) (rows : List GroupRow)
    (s : State) : Host.Outcome State Fault Refusal :=
  s.act fun s => s.groupsRx p.val h version rows

/-- PORT_DOWN (R403). -/
def execPortDown (p : Fin 32) (h : CtlHead) (port : Fin 32) (far : BitVec 6)
    (s : State) : Host.Outcome State Fault Refusal :=
  s.act fun s => s.portDownRx p.val h port far

/-- PORT_UP (R400). -/
def execPortUp (p : Fin 32) (h : CtlHead) (port : Fin 32) (far : BitVec 6)
    (s : State) : Host.Outcome State Fault Refusal :=
  s.act fun s => s.portUpRx p.val h port far

/-- LEAVE (R402). -/
def execLeave (p : Fin 32) (h : CtlHead) (id : BitVec 6) (s : State) : Host.Outcome State Fault Refusal :=
  s.act fun s => s.leaveRx p.val h id

/-- STRETCH (R34). -/
def execStretch (p : Fin 32) (h : CtlHead) (level : BitVec 4) (s : State) : Host.Outcome State Fault Refusal :=
  s.act fun s => s.stretchRx p.val h level

/-- BEAT_QUERY (R400). -/
def execBeatQuery (p : Fin 32) (h : CtlHead) (s : State) : Host.Outcome State Fault Refusal :=
  s.act fun s => s.beatQueryRx p.val h

/-- BEAT_REPLY (R400). -/
def execBeatReply (p : Fin 32) (h : CtlHead) (number : BitVec 48) (s : State) : Host.Outcome State Fault Refusal :=
  s.act fun s => s.beatReplyRx p.val h number

/-- ACK (R400). -/
def execAck (p : Fin 32) (h : CtlHead) (code : Byte) (version : BitVec 32)
    (s : State) : Host.Outcome State Fault Refusal :=
  s.act fun s => s.ackRx p.val h code version

/-- CTL_RESEND (R400). -/
def execCtlResend (s : State) : Host.Outcome State Fault Refusal :=
  s.act fun s => s.ctlResend

/-- MEMBER_REMOVE (R400). -/
def execMemberRemove (m : Fin 64) (s : State) : Host.Outcome State Fault Refusal :=
  s.act fun s => s.memberRemove m.val

/-- POD_LEAVE (R398). -/
def execPodLeave (v : Word) (s : State) : Host.Outcome State Fault Refusal :=
  s.act fun s => s.plainWrite R.TGL_POD_CTL v

/-- TGL_PORT_CNT_CLR (R407). -/
def execTglPortCntClr (p : Fin 32) (v : Word) (by' : Origin) (s : State) : Host.Outcome State Fault Refusal :=
  s.act fun s => s.regWrite (R.TGL_PORT_CTL p.val) v by'

/-- TGL_LOG_CLR (R407). -/
def execTglLogClr (p : Fin 32) (v : Word) (by' : Origin) (s : State) : Host.Outcome State Fault Refusal :=
  s.act fun s => s.regWrite (R.TGL_PORT_CTL p.val) v by'

end Sys2Proof.Machine
end

