-- ==== Sys2Proof/Machine/Dispatch.lean ====
section
/-!
DEFINITION. The meaning of each command: one arm a constructor, one call an arm.
-/
namespace Sys2Proof.Machine

/-- The effect of a command on everything but the queue. -/
def exec (i : Instr) (s : State) : Host.Outcome State Fault Refusal :=
  match i with
  | .registerWrite off bytes by' => Sys2Proof.Machine.execRegisterWrite off bytes by' s
  | .inputSwitchClose fell => Sys2Proof.Machine.execInputSwitchClose fell s
  | .powerGood pins => Sys2Proof.Machine.execPowerGood pins s
  | .sproutBoot bridges => Sys2Proof.Machine.execSproutBoot bridges s
  | .warmReset v by' => Sys2Proof.Machine.execWarmReset v by' s
  | .stateTimeout => Sys2Proof.Machine.execStateTimeout s
  | .stackTrainingDone m r => Sys2Proof.Machine.execStackTrainingDone m r s
  | .memoryPass slices => Sys2Proof.Machine.execMemoryPass slices s
  | .fillDone times => Sys2Proof.Machine.execFillDone times s
  | .unitPass r => Sys2Proof.Machine.execUnitPass r s
  | .reqLinksWrite v by' => Sys2Proof.Machine.execReqLinksWrite v by' s
  | .reqWidthWrite v by' => Sys2Proof.Machine.execReqWidthWrite v by' s
  | .flashRead v by' => Sys2Proof.Machine.execFlashRead v by' s
  | .flashProgram v by' => Sys2Proof.Machine.execFlashProgram v by' s
  | .flashErase v by' => Sys2Proof.Machine.execFlashErase v by' s
  | .flashCommandDone error => Sys2Proof.Machine.execFlashCommandDone error s
  | .defectFlush => Sys2Proof.Machine.execDefectFlush s
  | .masterEdge sites => Sys2Proof.Machine.execMasterEdge sites s
  | .beatInEdge cycles => Sys2Proof.Machine.execBeatInEdge cycles s
  | .beatInMissed sites => Sys2Proof.Machine.execBeatInMissed sites s
  | .beatCntClr v by' => Sys2Proof.Machine.execBeatCntClr v by' s
  | .beatPeriodWrite v by' => Sys2Proof.Machine.execBeatPeriodWrite v by' s
  | .swStretchWrite v by' => Sys2Proof.Machine.execSwStretchWrite v by' s
  | .beatSetRx p copies sites => Sys2Proof.Machine.execBeatSetRx p copies sites s
  | .missedBeat sites => Sys2Proof.Machine.execMissedBeat sites s
  | .freeRunEdge sites => Sys2Proof.Machine.execFreeRunEdge sites s
  | .beatRejoinRequired => Sys2Proof.Machine.execBeatRejoinRequired s
  | .upstreamSwitch => Sys2Proof.Machine.execUpstreamSwitch s
  | .latencyProbe p stamp => Sys2Proof.Machine.execLatencyProbe p stamp s
  | .probeRx p copies => Sys2Proof.Machine.execProbeRx p copies s
  | .echoRx p copies counter => Sys2Proof.Machine.execEchoRx p copies counter s
  | .ownerEntryWrite at' v by' => Sys2Proof.Machine.execOwnerEntryWrite at' v by' s
  | .ownerEntryApplied => Sys2Proof.Machine.execOwnerEntryApplied s
  | .ctxActivate v by' => Sys2Proof.Machine.execCtxActivate v by' s
  | .ctxRetire v by' => Sys2Proof.Machine.execCtxRetire v by' s
  | .contextRetired ctx => Sys2Proof.Machine.execContextRetired ctx s
  | .admitNext d => Sys2Proof.Machine.execAdmit d s
  | .admitTableReadDone d => Sys2Proof.Machine.execAdmitTableReadDone d s
  | .faultRecordCopy => Sys2Proof.Machine.execFaultRecordCopy s
  | .faultRecordWriteDone => Sys2Proof.Machine.execFaultRecordWriteDone s
  | .faultRecordRetry => Sys2Proof.Machine.execFaultRecordRetry s
  | .faultResume v => Sys2Proof.Machine.execFaultResume v s
  | .faultAbort v => Sys2Proof.Machine.execFaultAbort v s
  | .invalidateEnqueue v => Sys2Proof.Machine.execInvalidateEnqueue v s
  | .invalidateRun => Sys2Proof.Machine.execInvalidateRun s
  | .invalidateAck u => Sys2Proof.Machine.execInvalidateAck u s
  | .invalidateTimeout => Sys2Proof.Machine.execInvalidateTimeout s
  | .bridgeFailure b => Sys2Proof.Machine.execBridgeFailure b s
  | .ringConnectionFail n => Sys2Proof.Machine.execRingConnectionFail n s
  | .sbfRead a len ctx hit => Sys2Proof.Machine.execSbfRead a len ctx hit s
  | .sbfWrite a data ctx hit => Sys2Proof.Machine.execSbfWrite a data ctx hit s
  | .sbfAtomic a op size x y returning ctx hit => Sys2Proof.Machine.execSbfAtomic a op size x y returning ctx hit s
  | .partitionClear d v by' => Sys2Proof.Machine.execPartitionClear d v by' s
  | .partitionClearDone d => Sys2Proof.Machine.execPartitionClearDone d s
  | .sbfScrub a last hit => Sys2Proof.Machine.execSbfScrub a last hit s
  | .bankFence a source => Sys2Proof.Machine.execBankFence a source s
  | .sbfErrPop d v => Sys2Proof.Machine.execSbfErrPop d v s
  | .sbfCntClr d v by' => Sys2Proof.Machine.execSbfCntClr d v by' s
  | .sbfInjectArm d v by' => Sys2Proof.Machine.execSbfInjectArm d v by' s
  | .stkRead a len ctx cls hit => Sys2Proof.Machine.execStkRead a len ctx cls hit s
  | .stkWrite a data ctx cls hit => Sys2Proof.Machine.execStkWrite a data ctx cls hit s
  | .stkPartialWrite a data ctx cls hit => Sys2Proof.Machine.execStkPartialWrite a data ctx cls hit s
  | .rowPrecharge m pc bank => Sys2Proof.Machine.execRowPrecharge m pc bank s
  | .refresh m pc bank => Sys2Proof.Machine.execRefresh m pc bank s
  | .stackTempRead m temp => Sys2Proof.Machine.execStackTempRead m temp s
  | .stkScrub m pc bank row last hit => Sys2Proof.Machine.execStkScrub m pc bank row last hit s
  | .parityRetry a source => Sys2Proof.Machine.execParityRetry a source s
  | .pcFence a source => Sys2Proof.Machine.execPcFence a source s
  | .stkErrPop m v => Sys2Proof.Machine.execStkErrPop m v s
  | .stkCntClr m v by' => Sys2Proof.Machine.execStkCntClr m v by' s
  | .stkInjectArm m v by' => Sys2Proof.Machine.execStkInjectArm m v by' s
  | .mscRead a len ctx cls hint stream id tagErr dataErr => Sys2Proof.Machine.execMscRead a len ctx cls hint stream id tagErr dataErr s
  | .mscWrite a data ctx cls stream id tagErr => Sys2Proof.Machine.execMscWrite a data ctx cls stream id tagErr s
  | .mbHand m index aged => Sys2Proof.Machine.execMbHand m index aged s
  | .mbEntryFree m index hit => Sys2Proof.Machine.execMbEntryFree m index hit s
  | .mrIssue m index => Sys2Proof.Machine.execMrIssue m index s
  | .mrFill m index hit => Sys2Proof.Machine.execMrFill m index hit s
  | .mscDisable m v by' => Sys2Proof.Machine.execMscDisable m v by' s
  | .mscDisableDone m => Sys2Proof.Machine.execMscDisableDone m s
  | .mscEnable m v by' => Sys2Proof.Machine.execMscEnable m v by' s
  | .mscInvalidate m v by' => Sys2Proof.Machine.execMscInvalidate m v by' s
  | .mscInvalidateDone m => Sys2Proof.Machine.execMscInvalidateDone m s
  | .mscCntClr m v by' => Sys2Proof.Machine.execMscCntClr m v by' s
  | .dmvDoorbell g q v => Sys2Proof.Machine.execDmvDoorbell g q v s
  | .descriptorFetch g => Sys2Proof.Machine.execDescriptorFetch g s
  | .descriptorStart g q => Sys2Proof.Machine.execDescriptorStart g q s
  | .descriptorComplete g q => Sys2Proof.Machine.execDescriptorComplete g q s
  | .mcBranchTimeout p => Sys2Proof.Machine.execMcBranchTimeout p s
  | .queueEnable g q v by' => Sys2Proof.Machine.execQueueEnable g q v by' s
  | .queueDisable g q v by' => Sys2Proof.Machine.execQueueDisable g q v by' s
  | .queueReset g q v by' => Sys2Proof.Machine.execQueueReset g q v by' s
  | .queueResetDone g q => Sys2Proof.Machine.execQueueResetDone g q s
  | .moverLost g => Sys2Proof.Machine.execMoverLost g s
  | .moverLossDrained g => Sys2Proof.Machine.execMoverLossDrained g s
  | .dmvCntClr g v => Sys2Proof.Machine.execDmvCntClr g v s
  | .barrierNotify p => Sys2Proof.Machine.execBarrierNotify p s
  | .ringPacketRx n west flips spoiled => Sys2Proof.Machine.execRingPacketRx n west flips spoiled s
  | .ringSlotStart n west slot => Sys2Proof.Machine.execRingSlotStart n west slot s
  | .ringCreditReturn n west => Sys2Proof.Machine.execRingCreditReturn n west s
  | .ringTableArm n v by' => Sys2Proof.Machine.execRingTableArm n v by' s
  | .ringWaitTimeout n => Sys2Proof.Machine.execRingWaitTimeout n s
  | .jobDoorbell d r v => Sys2Proof.Machine.execJobDoorbell d r v s
  | .jobFetch d r => Sys2Proof.Machine.execJobFetch d r s
  | .jobRelease d => Sys2Proof.Machine.execJobRelease d s
  | .jobProgramLoad n => Sys2Proof.Machine.execJobProgramLoad n s
  | .jobComplete d r => Sys2Proof.Machine.execJobComplete d r s
  | .dspTokPost d v => Sys2Proof.Machine.execDspTokPost d v s
  | .tokClear d v => Sys2Proof.Machine.execTokClear d v s
  | .tokSet d v => Sys2Proof.Machine.execTokSet d v s
  | .spillDone n => Sys2Proof.Machine.execSpillDone n s
  | .reload n => Sys2Proof.Machine.execReload n s
  | .jobRingEnable d r v by' => Sys2Proof.Machine.execJobRingEnable d r v by' s
  | .jobRingReset d r v by' => Sys2Proof.Machine.execJobRingReset d r v by' s
  | .jobRingResetDone d r => Sys2Proof.Machine.execJobRingResetDone d r s
  | .nmeLost n => Sys2Proof.Machine.execNmeLost n s
  | .nmeCntClr n v => Sys2Proof.Machine.execNmeCntClr n v s
  | .srSeedWrite n v by' => Sys2Proof.Machine.execSrSeedWrite n v by' s
  | .add n => Sys2Proof.Machine.execAdd n s
  | .sub n => Sys2Proof.Machine.execSub n s
  | .mul n => Sys2Proof.Machine.execMul n s
  | .andOp n => Sys2Proof.Machine.execAndOp n s
  | .orOp n => Sys2Proof.Machine.execOrOp n s
  | .xorOp n => Sys2Proof.Machine.execXorOp n s
  | .sll n => Sys2Proof.Machine.execSll n s
  | .srl n => Sys2Proof.Machine.execSrl n s
  | .sra n => Sys2Proof.Machine.execSra n s
  | .minOp n => Sys2Proof.Machine.execMinOp n s
  | .maxOp n => Sys2Proof.Machine.execMaxOp n s
  | .addi n => Sys2Proof.Machine.execAddi n s
  | .li n => Sys2Proof.Machine.execLi n s
  | .lui n => Sys2Proof.Machine.execLui n s
  | .nop n => Sys2Proof.Machine.execNop n s
  | .endOp n => Sys2Proof.Machine.execEndOp n s
  | .br n => Sys2Proof.Machine.execBr n s
  | .loop n => Sys2Proof.Machine.execLoop n s
  | .waitbeat n => Sys2Proof.Machine.execWaitbeat n s
  | .waittokScoreboard n => Sys2Proof.Machine.execWaittokScoreboard n s
  | .waittokRing n => Sys2Proof.Machine.execWaittokRing n s
  | .posttokScoreboard n => Sys2Proof.Machine.execPosttokScoreboard n s
  | .posttokRing n => Sys2Proof.Machine.execPosttokRing n s
  | .rds n => Sys2Proof.Machine.execRds n s
  | .wrs n => Sys2Proof.Machine.execWrs n s
  | .ldx n hit => Sys2Proof.Machine.execLdx n hit s
  | .stx n => Sys2Proof.Machine.execStx n s
  | .gcfgLevel n => Sys2Proof.Machine.execGcfgLevel n s
  | .gcfgOffset n => Sys2Proof.Machine.execGcfgOffset n s
  | .gcfgRowstride n => Sys2Proof.Machine.execGcfgRowstride n s
  | .gcfgRun n => Sys2Proof.Machine.execGcfgRun n s
  | .gcfgIndirect n hit => Sys2Proof.Machine.execGcfgIndirect n hit s
  | .sopen n => Sys2Proof.Machine.execSopen n s
  | .sclose n => Sys2Proof.Machine.execSclose n s
  | .ldt n hit => Sys2Proof.Machine.execLdt n hit s
  | .stt n => Sys2Proof.Machine.execStt n s
  | .mma n hit => Sys2Proof.Machine.execMma n hit s
  | .vma n hit => Sys2Proof.Machine.execVma n hit s
  | .ewMov n => Sys2Proof.Machine.execEwMov n s
  | .ewAdd n => Sys2Proof.Machine.execEwAdd n s
  | .ewSub n => Sys2Proof.Machine.execEwSub n s
  | .ewMul n => Sys2Proof.Machine.execEwMul n s
  | .ewFma n => Sys2Proof.Machine.execEwFma n s
  | .ewMax n => Sys2Proof.Machine.execEwMax n s
  | .ewMin n => Sys2Proof.Machine.execEwMin n s
  | .ewAbs n => Sys2Proof.Machine.execEwAbs n s
  | .ewNeg n => Sys2Proof.Machine.execEwNeg n s
  | .ewRcp n => Sys2Proof.Machine.execEwRcp n s
  | .ewRsqrt n => Sys2Proof.Machine.execEwRsqrt n s
  | .exp2 n => Sys2Proof.Machine.execExp2 n s
  | .scale n => Sys2Proof.Machine.execScale n s
  | .rmax n => Sys2Proof.Machine.execRmax n s
  | .redSum n hit => Sys2Proof.Machine.execRedSum n hit s
  | .redMax n hit => Sys2Proof.Machine.execRedMax n hit s
  | .redMin n hit => Sys2Proof.Machine.execRedMin n hit s
  | .cvt n => Sys2Proof.Machine.execCvt n s
  | .pack n => Sys2Proof.Machine.execPack n s
  | .unpack n => Sys2Proof.Machine.execUnpack n s
  | .topk n => Sys2Proof.Machine.execTopk n s
  | .gath n hit => Sys2Proof.Machine.execGath n hit s
  | .send n => Sys2Proof.Machine.execSend n s
  | .recv n => Sys2Proof.Machine.execRecv n s
  | .rred n => Sys2Proof.Machine.execRred n s
  | .fence n => Sys2Proof.Machine.execFence n s
  | .qfbInterval m depth => Sys2Proof.Machine.execQfbInterval m depth s
  | .qfbCongested src m => Sys2Proof.Machine.execQfbCongested src m s
  | .qfbClear src m => Sys2Proof.Machine.execQfbClear src m s
  | .rglRecompute at' v by' => Sys2Proof.Machine.execRglRecompute at' v by' s
  | .rglRecomputeDone => Sys2Proof.Machine.execRglRecomputeDone s
  | .tdfArm v by' => Sys2Proof.Machine.execTdfArm v by' s
  | .rglCntClr v by' => Sys2Proof.Machine.execRglCntClr v by' s
  | .linkEnable p v by' => Sys2Proof.Machine.execLinkEnable p v by' s
  | .linkDisable p v by' => Sys2Proof.Machine.execLinkDisable p v by' s
  | .retrain p v by' => Sys2Proof.Machine.execRetrain p v by' s
  | .lnkCntClr p v by' => Sys2Proof.Machine.execLnkCntClr p v by' s
  | .resetHoldEnd p => Sys2Proof.Machine.execResetHoldEnd p s
  | .detectSignal p lanes => Sys2Proof.Machine.execDetectSignal p lanes s
  | .detectTimeout p => Sys2Proof.Machine.execDetectTimeout p s
  | .absentCheck p lanes => Sys2Proof.Machine.execAbsentCheck p lanes s
  | .symbolLock p lane inverted freq => Sys2Proof.Machine.execSymbolLock p lane inverted freq s
  | .alignEnd p us => Sys2Proof.Machine.execAlignEnd p us s
  | .eqFastEnd p eyes us => Sys2Proof.Machine.execEqFastEnd p eyes us s
  | .eqSearchStep p eyes => Sys2Proof.Machine.execEqSearchStep p eyes s
  | .eqSearchEnd p us => Sys2Proof.Machine.execEqSearchEnd p us s
  | .trainSetRx p copies us => Sys2Proof.Machine.execTrainSetRx p copies us s
  | .laneCheckTimeout p us => Sys2Proof.Machine.execLaneCheckTimeout p us s
  | .configTimeout p us => Sys2Proof.Machine.execConfigTimeout p us s
  | .heldDownRetry p => Sys2Proof.Machine.execHeldDownRetry p s
  | .alignLoss p lane => Sys2Proof.Machine.execAlignLoss p lane s
  | .errors p lane codeErrors dispErrors => Sys2Proof.Machine.execErrors p lane codeErrors dispErrors s
  | .elastic p lane fill => Sys2Proof.Machine.execElastic p lane fill s
  | .deskew p => Sys2Proof.Machine.execDeskew p s
  | .lossOfSignal p => Sys2Proof.Machine.execLossOfSignal p s
  | .eyeMeasure p eyes => Sys2Proof.Machine.execEyeMeasure p eyes s
  | .rd p hdr payload crc => Sys2Proof.Machine.execRd p hdr payload crc s
  | .wr p hdr payload crc => Sys2Proof.Machine.execWr p hdr payload crc s
  | .atPost p hdr payload crc => Sys2Proof.Machine.execAtPost p hdr payload crc s
  | .atr p hdr payload crc => Sys2Proof.Machine.execAtr p hdr payload crc s
  | .mcw p hdr payload crc => Sys2Proof.Machine.execMcw p hdr payload crc s
  | .bar p hdr payload crc => Sys2Proof.Machine.execBar p hdr payload crc s
  | .mbar p hdr payload crc => Sys2Proof.Machine.execMbar p hdr payload crc s
  | .rsp p hdr payload crc => Sys2Proof.Machine.execRsp p hdr payload crc s
  | .crd p hdr payload crc => Sys2Proof.Machine.execCrd p hdr payload crc s
  | .framingError p => Sys2Proof.Machine.execFramingError p s
  | .huskSend p => Sys2Proof.Machine.execHuskSend p s
  | .crdSend p => Sys2Proof.Machine.execCrdSend p s
  | .tagTimeout pool tag => Sys2Proof.Machine.execTagTimeout pool tag s
  | .routeHoldEnd dest => Sys2Proof.Machine.execRouteHoldEnd dest s
  | .forkCopyDrop p index => Sys2Proof.Machine.execForkCopyDrop p index s
  | .hello p b => Sys2Proof.Machine.execHello p b s
  | .masterElected => Sys2Proof.Machine.execMasterElected s
  | .join p h b => Sys2Proof.Machine.execJoin p h b s
  | .assign p h b => Sys2Proof.Machine.execAssign p h b s
  | .members p h version rows => Sys2Proof.Machine.execMembers p h version rows s
  | .routes p h version rows => Sys2Proof.Machine.execRoutes p h version rows s
  | .groups p h version rows => Sys2Proof.Machine.execGroups p h version rows s
  | .portDown p h port far => Sys2Proof.Machine.execPortDown p h port far s
  | .portUp p h port far => Sys2Proof.Machine.execPortUp p h port far s
  | .leave p h id => Sys2Proof.Machine.execLeave p h id s
  | .stretch p h level => Sys2Proof.Machine.execStretch p h level s
  | .beatQuery p h => Sys2Proof.Machine.execBeatQuery p h s
  | .beatReply p h number => Sys2Proof.Machine.execBeatReply p h number s
  | .ack p h code version => Sys2Proof.Machine.execAck p h code version s
  | .ctlResend => Sys2Proof.Machine.execCtlResend s
  | .memberRemove m => Sys2Proof.Machine.execMemberRemove m s
  | .podLeave v => Sys2Proof.Machine.execPodLeave v s
  | .tglPortCntClr p v by' => Sys2Proof.Machine.execTglPortCntClr p v by' s
  | .tglLogClr p v by' => Sys2Proof.Machine.execTglLogClr p v by' s
  | .tdiRd d p word => Sys2Proof.Machine.execTdiRd d p word s
  | .tdiWr d p word => Sys2Proof.Machine.execTdiWr d p word s
  | .tdiAt d p word => Sys2Proof.Machine.execTdiAt d p word s
  | .tdiAtr d p word => Sys2Proof.Machine.execTdiAtr d p word s
  | .tdiFence d p word => Sys2Proof.Machine.execTdiFence d p word s
  | .tdiWaittok d p word => Sys2Proof.Machine.execTdiWaittok d p word s
  | .tdiWaittokTimeout d p tag => Sys2Proof.Machine.execTdiWaittokTimeout d p tag s
  | .tdiDataFlit d p data mask parity => Sys2Proof.Machine.execTdiDataFlit d p data mask parity s
  | .tdiUnfence d p v by' => Sys2Proof.Machine.execTdiUnfence d p v by' s
  | .tdiCntClr d v => Sys2Proof.Machine.execTdiCntClr d v s
  | .grantArm d v by' => Sys2Proof.Machine.execGrantArm d v by' s
  | .eicDoorbellAssert v => Sys2Proof.Machine.execEicDoorbellAssert v s
  | .eicDoorbellDeassert v => Sys2Proof.Machine.execEicDoorbellDeassert v s
  | .eicCDoorbell c v => Sys2Proof.Machine.execEicCDoorbell c v s
  | .pendSet at' v => Sys2Proof.Machine.execPendSet at' v s
  | .pendClr at' v => Sys2Proof.Machine.execPendClr at' v s
  | .enSet at' v by' => Sys2Proof.Machine.execEnSet at' v by' s
  | .enClr at' v by' => Sys2Proof.Machine.execEnClr at' v by' s
  | .claim c skew size => Sys2Proof.Machine.execClaim c skew size s
  | .eoi c v => Sys2Proof.Machine.execEoi c v s
  | .maskSet c v => Sys2Proof.Machine.execMaskSet c v s
  | .maskClr c v => Sys2Proof.Machine.execMaskClr c v s
  | .coreSleep c => Sys2Proof.Machine.execCoreSleep c s
  | .hvTrig v => Sys2Proof.Machine.execHvTrig v s
  | .hvCeiling vec => Sys2Proof.Machine.execHvCeiling vec s
  | .hvRetry vec => Sys2Proof.Machine.execHvRetry vec s
  | .eicCntClr v => Sys2Proof.Machine.execEicCntClr v s
  | .mbxGo k v => Sys2Proof.Machine.execMbxGo k v s
  | .mbxAck k v => Sys2Proof.Machine.execMbxAck k v s
  | .quiesce k => Sys2Proof.Machine.execQuiesce k s
  | .quiesceLimit => Sys2Proof.Machine.execQuiesceLimit s
  | .quiesceDone => Sys2Proof.Machine.execQuiesceDone s
  | .quiesceEnter => Sys2Proof.Machine.execQuiesceEnter s
  | .mbxVersion k => Sys2Proof.Machine.execMbxVersion k s
  | .mbxHello k straps => Sys2Proof.Machine.execMbxHello k straps s
  | .attest k => Sys2Proof.Machine.execAttest k s
  | .idKey k => Sys2Proof.Machine.execIdKey k s
  | .fwLoad straps => Sys2Proof.Machine.execFwLoad straps s
  | .fwActivate k => Sys2Proof.Machine.execFwActivate k s
  | .fwStatus k => Sys2Proof.Machine.execFwStatus k s
  | .defects k => Sys2Proof.Machine.execDefects k s
  | .fwActivation => Sys2Proof.Machine.execFwActivation s
  | .fwActivationDeferredStart => Sys2Proof.Machine.execFwActivationDeferredStart s
  | .watchdogExpiry c fault => Sys2Proof.Machine.execWatchdogExpiry c fault s
  | .coreRunsAgain c => Sys2Proof.Machine.execCoreRunsAgain c s
  | .powerStageFault n => Sys2Proof.Machine.execPowerStageFault n s
  | .railRegulationTimeout => Sys2Proof.Machine.execRailRegulationTimeout s
  | .housekeepingMeasure d j reading written => Sys2Proof.Machine.execHousekeepingMeasure d j reading written s
  | .budgetRound => Sys2Proof.Machine.execBudgetRound s
  | .limiterUv => Sys2Proof.Machine.execLimiterUv s
  | .limiterOc => Sys2Proof.Machine.execLimiterOc s
  | .limiterRelease e => Sys2Proof.Machine.execLimiterRelease e s
  | .limiterHoldExpiry => Sys2Proof.Machine.execLimiterHoldExpiry s
  | .emergencyClear v by' => Sys2Proof.Machine.execEmergencyClear v by' s
  | .emergencyAutoClear => Sys2Proof.Machine.execEmergencyAutoClear s
  | .inputLoss cause written => Sys2Proof.Machine.execInputLoss cause written s
  | .holdupEnd => Sys2Proof.Machine.execHoldupEnd s
  | .inputReturn pins => Sys2Proof.Machine.execInputReturn pins s
  | .holdupReadyChange ready => Sys2Proof.Machine.execHoldupReadyChange ready s
  | .snapArm v by' => Sys2Proof.Machine.execSnapArm v by' s
  | .snapCancel v by' => Sys2Proof.Machine.execSnapCancel v by' s
  | .snapTrig v => Sys2Proof.Machine.execSnapTrig v s
  | .snapIn => Sys2Proof.Machine.execSnapIn s
  | .snap p hdr payload crc => Sys2Proof.Machine.execSnap p hdr payload crc s
  | .snapRelease v by' => Sys2Proof.Machine.execSnapRelease v by' s
  | .snapDump v => Sys2Proof.Machine.execSnapDump v s
  | .snapDumpDone => Sys2Proof.Machine.execSnapDumpDone s
  | .journalFlush entries => Sys2Proof.Machine.execJournalFlush entries s
  | .journalDump v => Sys2Proof.Machine.execJournalDump v s
  | .journalDumpDone => Sys2Proof.Machine.execJournalDumpDone s
  | .wearEolCompute => Sys2Proof.Machine.execWearEolCompute s
  | .wearRecordFlush => Sys2Proof.Machine.execWearRecordFlush s
  | .wearDailyValue values => Sys2Proof.Machine.execWearDailyValue values s
  | .refclkLoss => Sys2Proof.Machine.execRefclkLoss s
  | .refclkReturn => Sys2Proof.Machine.execRefclkReturn s
  | .i3cRegisterWrite bytes => Sys2Proof.Machine.execI3cRegisterWrite bytes s
  | .i3cReadRequest bytes => Sys2Proof.Machine.execI3cReadRequest bytes s
  | .i3cPrivateRead => Sys2Proof.Machine.execI3cPrivateRead s
  | .entdaa a => Sys2Proof.Machine.execEntdaa a s
  | .setdasa static a => Sys2Proof.Machine.execSetdasa static a s
  | .rstdaa => Sys2Proof.Machine.execRstdaa s
  | .enec => Sys2Proof.Machine.execEnec s
  | .disec => Sys2Proof.Machine.execDisec s
  | .getpid => Sys2Proof.Machine.execGetpid s
  | .getbcr => Sys2Proof.Machine.execGetbcr s
  | .getdcr => Sys2Proof.Machine.execGetdcr s
  | .getstatus => Sys2Proof.Machine.execGetstatus s
  | .getmwl => Sys2Proof.Machine.execGetmwl s
  | .getmrl => Sys2Proof.Machine.execGetmrl s
  | .bypass => Sys2Proof.Machine.execBypass s
  | .idcode => Sys2Proof.Machine.execIdcode s
  | .samplePreload pins load => Sys2Proof.Machine.execSamplePreload pins load s
  | .extest pins load => Sys2Proof.Machine.execExtest pins load s

end Sys2Proof.Machine
end

