-- ==== Sys2Proof/Machine/Step.lean ====
section
/-!
DEFINITION. A step of the D824: the command at the front of the queue runs on the state with the queue's rest, or, with no
command waiting, a fabric cycle passes (DESIGN CHOICE, log 1).
-/
namespace Sys2Proof.Machine

/-- One step. -/
def step (s : State) : Host.Outcome State Fault Refusal :=
  match s.pending with
  | [] => .next s.tick.settle
  | c :: rest => exec c { s with pending := rest }

/-- The state with the command that a word spells at the front of its queue. -/
def State.withFetchWord (s : State) (nbits w : Nat) : State :=
  match decodeTableWord nbits w with
  | some c => { s with pending := c :: s.pending }
  | none => s

end Sys2Proof.Machine
end

