-- ==== Sys2Proof/Safety.lean ====
section
/-!
DEFINITION. What the claims about the D824 are stated in: what a step answers, and the invariants of its state.
-/
namespace Sys2Proof

/-- The fields of a husk fit their places (R379 to R382), and those that its type does not have are 0. -/
def Husk.fits (h : Husk) : Bool :=
  decide (h.typ < 16 ∧ h.dest < 64 ∧ h.src < 64 ∧ h.tag < 4096 ∧ h.epoch < 16 ∧ h.cls < 16 ∧ h.len < 32768 ∧ h.hops < 64) &&
    (if Husk.isRequest h.typ then decide (h.rid < 16384 ∧ h.addr < 2 ^ 41 ∧ h.ctx < 4096 ∧ h.opx < 16)
      else decide (h.rid = 0 ∧ h.addr = 0 ∧ h.ctx = 0 ∧ h.opx = 0)) &&
    (if h.typ = Husk.RSP then decide (h.status < 256) else decide (h.status = 0 ∧ h.mc = false)) &&
    (if h.typ = Husk.CRD then decide (h.freed.1 < 65536 ∧ h.freed.2.1 < 65536 ∧ h.freed.2.2 < 65536)
      else decide (h.freed = (0, 0, 0))) &&
    (if h.typ = Husk.CTL then true else !h.link)

end Sys2Proof

namespace Sys2Proof.Machine

/-- A command at a state ends in this state. -/
def Ends (i : Instr) (s t : State) : Prop := exec i s = .next t

/-- A command's own effect takes the state to `u`; then the responses that have come reach those who wait for them
(`State.settle`). -/
def Does (i : Instr) (s u : State) : Prop := exec i s = .next { u.settle with pending := s.pending }

/-- A write of `v` is stored: the register that the offset shows takes what its fields store (R7, R9, R10). -/
def State.written (s : State) (off : Nat) (v : Word) : State :=
  s.setReg (storeOf off) (Reg.writeFields ((Reg.lookup off).elim [] fun x => x.1.fields) (s.reg (storeOf off)) v)

/-- The change journal's entry for a write of a register by a maker, which took `s` to `u` (R543, R544). -/
def State.journalled (u s : State) (off : Nat) (by' : Origin) : State :=
  u.journalEntry off by' (u.shown off (s.reg (storeOf off))) (u.shown off (u.reg (storeOf off)))

/-- Engine n issues next the word w, which belongs to the row of the opcode table with this key (R294, R296, R297). -/
def State.issuesWord (s : State) (n w : Nat) (key : Nat × Nat) : Prop :=
  s.issues n = true ∧ (s.engine n).code[(s.engine n).pc]? = some w ∧ knownOpcode w = true ∧ rowKey w = key

/-- The same for a word whose reserved bits are 0 (R296). -/
def State.issuesPlain (s : State) (n w : Nat) (key : Nat × Nat) : Prop := s.issuesWord n w key ∧ hasReserved w = false

/-- The same for a word of format T that passes the checks of R317 and R318 and those of its instruction. -/
def State.issuesTile (s : State) (n w op : Nat) (checks : EngineState → Nat → List (Nat × Bool)) : Prop :=
  s.issuesWord n w (op, 0) ∧ ∀ c ∈ tileChecks (s.engine n) w ++ checks (s.engine n) w, c.2 = false

/-- The bytes that an instruction consumes through a generator, with the state after they have been read: there are some
once every piece on another module has been answered, and no read has stopped the job (R336, R338). -/
def State.dataOf (s : State) (n : Nat) (hit : ScratchHit) (gen : Nat) (l : List (List (Int × Nat))) :
    Option (List (List Byte) × State) :=
  let far := (s.farPieces ((s.engine n).gen gen) l.flatten).eraseDups
  let r := s.readRows n hit gen l
  if far.any (fun u => ((s.engine n).access gen u).all fun a => a.answer.isNone) || !(r.2.engine n).live then none else some r

/-- The runs of a generator that an instruction consumes, with the state after the indices of ELEM mode have been read:
there are some where the stream stands admitted and its addresses lie within the extent (R235, R310, R311). -/
def State.runsOf (s : State) (n : Nat) (hit : ScratchHit) (gen : Nat) (rows : List Nat) (shared : Bool) (skip len : Nat) :
    Option (List (List (Int × Nat)) × State) :=
  let g := (s.engine n).gen gen
  let inside := fun (idx : Nat → Nat → Nat) (u : State) =>
    if g.outside (g.spans rows shared skip len idx).flatten then none else some (g.spans rows shared skip len idx, u)
  if !g.admitted then none
  else if g.indirect = 1 then
    let gi := (s.engine n).gen g.index
    let first := (g.cursor + skip) / g.run
    let count := g.begun (g.cursor + skip + len) - first
    let pos := gi.cursor + first * g.indexBytes - g.begun g.cursor * g.indexBytes
    let l := rows.map fun r =>
      shiftRuns (gi.rowTerm r) (gi.runs (fun _ => 0) (count * g.indexBytes) pos (count * g.indexBytes))
    if !gi.admitted || gi.outside l.flatten then none
    else (s.dataOf n hit g.index l).bind fun d =>
      inside (fun r el => indexOf g.indexBytes (d.1.getD (rows.idxOf r) []) (el - first)) d.2
  else inside (fun _ _ => 0) s

/-- A husk of type `t` comes on a port in UP and passes every check of R384 and R383; `h` is what it spells. -/
abbrev State.rxTakes (s : State) (p t : Nat) (hdr : BitVec 128) (payload : List Byte) (crc : BitVec 32) (h : Husk) : Prop :=
  Husk.parse hdr payload = h ∧ s.linkState p = lkUP ∧ h.typ = t ∧ crc = huskCrc hdr payload ∧ lenGood h = true ∧
    fieldsGood hdr h ((s.huskIn p hdr payload).portKind p == pkHOST) = true ∧ prefixGood h = true

/-- The bits that an XOR of R126 takes: for k from 0 to 6 the check bit Ck and the data bits whose position has bit k set,
and for 7 all 72 bits. -/
def codeTaps (k : Nat) : List Nat :=
  (List.range 72).filter fun i =>
    k == 7 || i == 64 + k || (decide (i < 64) && bit (codePositions.getD i 0) k)

/-- Nothing waits that ends of commands would move on: no response owed, no site's commands, and a state outside
QUIESCED and FAULT. -/
def State.calm (s : State) : Prop :=
  s.owed = [] ∧ s.sites = [] ∧ s.topState ≠ stQUIESCED ∧ s.topState ≠ stFAULT

/-- A byte of the shared buffer as software sees it (R128): 0 in a block that is not valid. -/
def State.sbByte (s : State) (k : Nat) : Byte := if s.sbValid k then Tab.get ramDefault s.sram k else 0#8

/-- Every code word of the shared buffer is free of errors, and no die has an injection armed (R126, R143). -/
def State.sbClean (s : State) : Prop :=
  s.buffer.syndrome = [] ∧ ∀ d : Fin 8, F.SBF_INJECT_ARM.isSet (s.reg (R.SBF_INJECT d)) = false

/-- Every stored block and row tag of the stacks is free of errors, no open row's tag failed, and no controller has an
injection armed (R152, R154, R172). -/
def State.stkClean (s : State) : Prop :=
  s.stackState.syndrome = [] ∧ s.stackState.tag = [] ∧
    (∀ k r, Tab.get (fun _ => none) s.stackState.openRows k = some r → r.bad = false) ∧
    ∀ m : Fin 24, F.STK_INJECT_ARM.isSet (s.reg (R.STK_INJECT m)) = false

/-- What a run of bytes from `a` on gives address `k`: none outside the run, and where the run gives no byte. -/
def given (a : Nat) (data : List (Option Byte)) (k : Nat) : Option Byte := (if a ≤ k then data[k - a]? else none).join

/-- In QUIESCED and in FAULT every site that has no request outstanding is held in reset (R409). -/
def State.sitesHeld (s : State) : Prop :=
  s.topState = stQUIESCED ∨ s.topState = stFAULT → ∀ d : Fin 8, s.siteIdle d.val = true → s.siteReset d.val = true

end Sys2Proof.Machine
end

