-- ==== Sys2Proof/Certificates/Slice0/Obligations.lean ====
section
/-!
DEFINITION. The statements about the model: what each command does, what the parts of the machine do, and what every step
keeps. `Does i s u` (Safety.lean) says that command i, at state s, has its own effect u.
-/
open Sys2Proof Sys2Proof.Machine

/-- A step takes the command at the front of the queue and runs it on the state with the queue's rest. -/
def Obligations.StepRunsFront : Prop :=
  ∀ (c : Instr) (s : State), step { s with pending := c :: s.pending } = exec c s

/-- A step on an empty queue passes one fabric cycle: the model's choice (log 1), no rule of the spec. -/
def Obligations.IdleStep : Prop :=
  ∀ s : State, s.pending = [] → step s = .next s.tick.settle ∧ (s.power.on = false → s.tick = s) ∧
    (s.power.on = true → s.tick.now = s.now + 1)

/-- Every command answers a next state at every state, with the queue as it was. -/
def Obligations.EveryCommandAnswers : Prop :=
  ∀ (c : Instr) (s : State), ∃ t, exec c s = .next t ∧ t.pending = s.pending

/-- The machine after a cold reset (R8, R14, R409). -/
def Obligations.ResetState : Prop :=
  (∀ off, State.reset.reg off = Reg.resetValue State.reset.fuses off) ∧
  State.reset.topState = stGERM ∧ State.reset.dram = [] ∧ State.reset.sram = [] ∧ State.reset.flash = [] ∧
  (∀ a, State.reset.sbValid a = false) ∧ (∀ pool tag, (State.reset.tag pool tag).busy = none) ∧
  (∀ m, (State.reset.slice m).lines = []) ∧ State.reset.journal = [] ∧ State.reset.pending = [] ∧ State.reset.owed = [] ∧
  (∀ k : Fin 256, State.reset.qState k.val = qsDISABLED) ∧ (∀ n : Fin 16, State.reset.engineState n.val = neIDLE) ∧
  (∀ p : Fin 32, State.reset.linkState p.val = lkDISABLED) ∧ (∀ d : Fin 8, State.reset.siteReset d.val = true)

/-- What ends every command does nothing where nothing waits. -/
def Obligations.SettleCalm : Prop :=
  ∀ u : State, u.calm → u.settle = u ∧ ∀ (i : Instr) (s : State), Does i s u → exec i s = .next { u with pending := s.pending }

/-- The invariant of R409 holds at reset. -/
def Obligations.ResetHoldsSites : Prop := State.reset.sitesHeld

/-- Every step establishes the invariant of R409, from every state and for every command. -/
def Obligations.StepKeepsSitesHeld : Prop := ∀ s t : State, step s = .next t → t.sitesHeld

/-- What a write stores, field by field (R7, R9, R10). -/
def Obligations.FieldAccess : Prop :=
  ∀ (off : Nat) (d : RegDef) (ix : List Nat), Reg.lookup off = some (d, ix) → ∀ old v : Word,
    let new := Reg.writeFields d.fields old v
    (∀ f ∈ d.fields,
      let o := Reg.bits old f.hi f.lo
      let n := Reg.bits v f.hi f.lo
      Reg.bits new f.hi f.lo =
        (match f.acc with
        | .rw => if Reg.reservedValue f.rsv n then o else n
        | .ro | .wo => o
        | .w1s => o ||| n
        | .w1c => o &&& (o ^^^ n))) ∧
    (∀ i < 64, (∀ f ∈ d.fields, i < f.lo ∨ f.hi < i) → new.getLsbD i = old.getLsbD i)

/-- What REGISTER_WRITE does (R6, R9, R458, R543). -/
def Obligations.RegisterWrites : Prop :=
  ∀ (s : State) (off : Nat) (bytes : List Byte) (by' : Origin),
    let v : Word := BitVec.ofNat 64 (Word.ofBytes bytes)
    let whole := bytes.length = 8 ∧ off % 8 = 0 ∧ off < 2 ^ 28
    (¬ whole → Does (.registerWrite off bytes by') s s) ∧
    (whole → inMail off = false → Reg.lookup off = none → Does (.registerWrite off bytes by') s s) ∧
    (whole → inMail off = false → off ≠ R.TOP_CTL → ∀ d ix, Reg.lookup off = some (d, ix) →
      d.name ≠ "ADT_OWN_FRAME" → d.name ≠ "ADT_OWN_PART" →
      let new := Reg.writeFields d.fields (s.reg (off - d.shows)) v
      let u := State.effect (s.setReg (off - d.shows) new) off d.name ix v (s.reg (off - d.shows))
      ((s.discards d.name ix || injectElsewhere d.name ix v) = true → Does (.registerWrite off bytes by') s s) ∧
      ((s.discards d.name ix || injectElsewhere d.name ix v) = false →
        (d.cfg = false → Does (.registerWrite off bytes by') s u) ∧
        (d.cfg = true → Does (.registerWrite off bytes by') s
          (u.journalEntry off by' (u.shown off (s.reg (off - d.shows))) (u.shown off (u.reg (off - d.shows))))))) ∧
    (whole → inMail off = true →
      let i := (off - mailBase) / 0x4000
      let o := (off - mailBase) % 0x4000
      (mbResponse ≤ o ∨ s.mbState i = mbBUSY → Does (.registerWrite off bytes by') s s) ∧
      (o < mbResponse → s.mbState i ≠ mbBUSY →
        Does (.registerWrite off bytes by') s (s.mailStore i o (Word.bytes 8 v.toNat))))

/-- What the commands of start-up do in the states that R485, R497, R500, R507, R514 name. -/
def Obligations.StartupCommands : Prop := ∀ s : State,
  (∀ fell, s.power.closed = false → s.power.lost = false → (s.power.locked = true → fell = true) →
    Does (.inputSwitchClose fell) s { s with power := { s.power with closed := true, locked := false } }) ∧
  (∀ pins, s.power.closed = true → Does (.powerGood pins) s (s.coldReset pins)) ∧
  (∀ v by', F.TOP_CTL_WARM_RESET.isSet v = true → F.TOP_CTL_KEY.of v = 0xD824 →
    Does (.warmReset v by') s ((s.written R.TOP_CTL v).journalled s R.TOP_CTL by').warmReset) ∧
  (s.topState ∈ [stGERM, stSPROUT, stTRAINING, stFILLING, stSELFTEST] → s.emergency = false → s.pins.bscan = false →
    Does .stateTimeout s (s.fail fcTIMEOUT)) ∧
  (∀ m : Fin 24, ∀ r : TrainedStack, s.topState = stTRAINING → bit s.boot.training m = true →
    Does (.stackTrainingDone m r) s
      (let u := (List.range 8).foldl (fun u j => u.setReg (R.STK_TRAINED m j) (r.words.getD j 0)) s
       { u with
          boot := { u.boot with
            training := clearBit u.boot.training m
            trained := if r.complete then setBit u.boot.trained m else u.boot.trained
            failed := if r.complete then u.boot.failed else setBit u.boot.failed m
            channels := Tab.set (fun _ => 0) u.boot.channels m r.channels.toNat }
          stackState := { u.stackState with rfm := Tab.set (fun _ => 0) u.stackState.rfm m r.rfm } })) ∧
  (∀ slices, s.topState = stTRAINING → s.boot.training = 0 →
    Does (.memoryPass slices) s
      (let u := (List.range 24).foldl State.placeStack (s.addDefects (s.memoryDefects slices.toNat))
       let u := (List.range 24).foldl (fun u m => u.placeSlice m (bit slices.toNat m)) u
       let u := (((u.placeFrames.showMemory.rglStart).ezApply esOWNERS).ezApply esREGULATION).ezApply esUNITS
       let u := (List.range 24).foldl (fun u m =>
         if u.stackOff m then u else (u.stkFill m).setFld (R.STK_FILL m) F.STK_FILL_BUSY 1) u
       u.sbClearAll.enterTop stFILLING)) ∧
  (∀ times, s.topState = stFILLING →
    Does (.fillDone times) s
      (((List.range 24).foldl (fun (u : State) m =>
        let u := if u.flag (R.STK_FILL m) F.STK_FILL_BUSY then
            ((u.setFld (R.STK_FILL m) F.STK_FILL_BUSY 0).setFld (R.STK_FILL m) F.STK_FILL_DONE 1).setFld (R.STK_FILL m)
              F.STK_FILL_TIME (times.getD m 0)
          else u
        u.coreWrite 0 (R.MSC_CTL m) (BitVec.ofNat 64 (u.ezMscEn m % 2 + 2 * (u.ezMscEn m / 2)))) s).enterTop
        stSELFTEST)) ∧
  (∀ r, s.topState = stSELFTEST → r.ring = 0 →
    Does (.unitPass r) s
      (let t := (List.range 16).foldl (fun u n => u.showKat r n) s
       let banks := fun (d : Nat) => t.mergeAll dkBANK d 4224 (found r.banks d)
       let movers := fun (d : Nat) => t.mergeAll dkDATA_MOVER d 34 (found r.movers d)
       let rows := fun (n : Nat) => t.mergeAll dkROW_UNIT n 100 (found r.rows n)
       let u := (List.range 8).foldl (fun u d => (State.placeDie u d (banks d)).placeMovers d (movers d)) t
       let u := (List.range 16).foldl (fun u n => State.placeRows u n (rows n)) u
       let u := u.addDefects ((List.range 8).flatMap (fun d => banks d ++ movers d) ++
         (List.range 16).flatMap fun n => rows n ++ vacantEngine n (rows n))
       let u : State := { u with buffer := { u.buffer with placed := true } }
       let u := u.sbClearAll.checkPlaces.showUnits.showMet
       if u.linksMet then u.enterReady else u.enterTop stLINKS_DEGRADED))

/-- What the sprout's work (R465, R485, R489), writes of the required links (R507) and flash commands (R484, R502) do. -/
def Obligations.ConfigurationCommands : Prop := ∀ (s : State) (v : Word) (by' : Origin),
  (∀ bridges : BitVec 10, s.topState = stSPROUT →
    Does (.sproutBoot bridges) s
      (match (match s.ezSlot 0 with
          | some x => some (0, x)
          | none => (s.ezSlot 1).map fun x => (1, x)) with
      | none => s.fail fcEZKAI
      | some (slot, l, t) =>
        let u : State := { s with
          fw := { s.fw with ezkai := Sha3.sha3 l, unified := fieldAt (Tab.get (fun _ => []) t esMODE) 0 1 == 1 }
          boot := { s.boot with image := t } }
        let u := ((u.setFld R.TOP_STATUS F.TOP_STATUS_EZKAI_SLOT slot).setFld R.TOP_STATUS F.TOP_STATUS_IMAGE_ID
          (fieldAt l 12 4)).wearRestore
        let u := match u.power.lastOff with
          | some w => u.setReg R.PWR_LAST_OFF w
          | none => u
        let u := ((u.ezApply esPOD).ezApply esBEAT).ezLinks
        if bridges ≠ 0 then u.fail fcBRIDGE else u.enterTop stAWAIT_FULL)) ∧
  Does (.reqLinksWrite v by') s
    (let u := (s.written R.TOP_REQ_LINKS v).showMet
     (if u.topState = stLINKS_DEGRADED ∧ u.linksMet = true then u.enterReady else u).journalled s R.TOP_REQ_LINKS by') ∧
  Does (.reqWidthWrite v by') s
    (let u := (s.written R.TOP_REQ_WIDTH v).showMet
     (if u.topState = stLINKS_DEGRADED ∧ u.linksMet = true then u.enterReady else u).journalled s R.TOP_REQ_WIDTH by') ∧
  (let u := s.written R.TOP_FLASH_CTL v
   let a := u.fld R.TOP_FLASH_ADDR F.TOP_FLASH_ADDR_ADDR
   let n := u.fld R.TOP_FLASH_CTL F.TOP_FLASH_CTL_LEN
   let started := fun op len => (State.setFld { u with boot := { u.boot with flash := some (op, a, len, frOK) } }
     R.TOP_FLASH_STATUS F.TOP_FLASH_STATUS_BUSY 1).journalled s R.TOP_FLASH_CTL by'
   s.flag R.TOP_FLASH_STATUS F.TOP_FLASH_STATUS_BUSY = false →
    (F.TOP_FLASH_CTL_OP.of v = foREAD → Does (.flashRead v by') s (started foREAD n)) ∧
    (F.TOP_FLASH_CTL_OP.of v = foPROGRAM → u.flashOk = true → flashProtected a n = false →
      Does (.flashProgram v by') s (started foPROGRAM n)) ∧
    (F.TOP_FLASH_CTL_OP.of v = foERASE → u.flashOk = true → flashProtected a flashSector = false →
      a % flashSector = 0 → Does (.flashErase v by') s (started foERASE flashSector))) ∧
  (∀ a n,
    let past := fun (u : State) =>
      (State.setFld { u with boot := { u.boot with flash := none } } R.TOP_FLASH_STATUS F.TOP_FLASH_STATUS_BUSY 0).setFld
        R.TOP_FLASH_STATUS F.TOP_FLASH_STATUS_RESULT frOK
    (s.boot.flash = some (foREAD, a, n, frOK) →
      Does (.flashCommandDone false) s (past ((s.flashRead a n).2.setFlashWindow (s.flashRead a n).1))) ∧
    (s.boot.flash = some (foPROGRAM, a, n, frOK) →
      Does (.flashCommandDone false) s
        (past (s.flashStore a (List.zipWith (· &&& ·) (s.flashBytes a n) (s.flashWindow n))))) ∧
    (s.boot.flash = some (foERASE, a, n, frOK) → Does (.flashCommandDone false) s (past (s.flashEraseAt a)))) ∧
  (s.flashOk = true → (s.core (s.coreFor 2)).state = csRUNNING →
    Does .defectFlush s (s.defectFlush (defectRoom - s.boot.recorded)))

/-- The owner check (R61 to R65). -/
def Obligations.OwnerCheck : Prop :=
  ∀ (s : State) (a ctx : Nat) (write : Bool),
    let r := ownerReg a
    (s.adt.stale = [] →
      let e := s.reg r
      let owner := F.ADT_OWN_PART_OWNER.of e
      (F.ADT_OWN_PART_MODE.of e = 0 → s.admits a ctx write = false) ∧
      (F.ADT_OWN_PART_MODE.of e = 1 → (s.admits a ctx write = true ↔ ctx = 0 ∨ ctx = owner)) ∧
      (F.ADT_OWN_PART_MODE.of e = 2 → (s.admits a ctx write = true ↔ ctx = 0 ∨ ctx = owner ∨ write = false))) ∧
    (∀ old, s.adt.stale = [(r, old)] → F.ADT_OWN_PART_MODE.of old = 0 → s.admits a ctx write = false) ∧
    (∀ (len : Nat) (data : List (Option Byte)) (hit : Upset), s.sbAbsent a = false →
      (s.admits a ctx false = false → s.sbRead a len ctx hit = (scCONTEXT_REJECT, [], s)) ∧
      (s.admits a ctx true = false → s.sbWrite a data ctx hit = (scCONTEXT_REJECT, s)))

/-- R248: the four rows of its table, and the two commands it names. -/
def Obligations.TokenPosts : Prop :=
  ∀ (s : State) (d : Fin 8) (i : Fin 4096) (g : Fin 16) (v : Word),
    let r := R.DSP_TOK d i
    let c := R.DSP_TOK_CNT d
    let gen := s.fld r F.DSP_TOK_GEN
    let present := s.flag r F.DSP_TOK_PRESENT
    (gen = g → present = false → s.tokPost d i g = (s.setFld r F.DSP_TOK_PRESENT 1).bump c F.DSP_TOK_CNT_POSTS) ∧
    (gen = g → present = true → s.tokPost d i g = s.bump c F.DSP_TOK_CNT_DUP) ∧
    (gen = (g + 15) % 16 → s.tokPost d i g =
      ((s.setFld r F.DSP_TOK_GEN g).setFld r F.DSP_TOK_PRESENT 1).bump c F.DSP_TOK_CNT_POSTS) ∧
    (gen ≠ g → gen ≠ (g + 15) % 16 → s.tokPost d i g = (s.bump c F.DSP_TOK_CNT_STALE).raise (545 + 8 * d)) ∧
    (let at' := R.DSP_TOK d (F.DSP_TOK_CMD_INDEX.of v)
     (F.DSP_TOK_CMD_CMD.of v = 1 → s.tokClear d v = s.setFld at' F.DSP_TOK_PRESENT 0) ∧
     (F.DSP_TOK_CMD_CMD.of v = 2 → s.tokSet d v =
       (s.setFld at' F.DSP_TOK_GEN (F.DSP_TOK_CMD_GEN.of v)).setFld at' F.DSP_TOK_PRESENT (F.DSP_TOK_CMD_PRESENT.of v)))

/-- R587: the register shifts one bit of the input at a time. -/
def Obligations.Crc8 : Prop :=
  (∀ bs : List Byte,
    crc8 bs = (bs.flatMap fun b => (List.range 8).map fun i => b.getLsbD (7 - i)).foldl
      (fun (c : Byte) (x : Bool) => if c.getLsbD 7 ^^ x then (c <<< 1) ^^^ 0x07#8 else c <<< 1) 0x00#8) ∧
  crc8 [0x31#8, 0x32#8, 0x33#8, 0x34#8, 0x35#8, 0x36#8, 0x37#8, 0x38#8, 0x39#8] = 0xF4#8 ∧
  (∀ l : List Byte, orderedSet l = l ++ [crc8 l]) ∧
  (∀ set : List Byte, trainGood set = true → set.length = 15 ∧ set.getD 14 0 = crc8 (set.take 14))

/-- The code of R126 on its stored bits, and on code words under inverted bits. -/
def Obligations.SecDed : Prop :=
  (∀ (word : Nat → Bool) (b : Fin 72) (k : Fin 8),
    let parity := fun (x : Nat → Bool) => ((codeTaps k).map x).foldl (· ^^ ·) false
    parity (fun i => word i ^^ decide (i = b)) = (parity word ^^ bit (syndromeOf b) k)) ∧
  (∀ (s : State) (w : Nat), s.sbSyndrome w = 0 →
    let data := readCells ramDefault s.sram w 8
    s.sbDecode w = (0, data) ∧
    (∀ b : Fin 72, (s.sbFlip w b).sbDecode w = (1, data)) ∧
    (∀ b c : Fin 72, b ≠ c → ((s.sbFlip w b).sbFlip w c).sbDecode w =
      (2, readCells ramDefault ((s.sbFlip w b).sbFlip w c).sram w 8)))

/-- The bank hash of R123. -/
def Obligations.BufferBanks : Prop :=
  ∀ a b : Nat, bufferBase ≤ a → bufferBase ≤ b → (a - bufferBase) / 2 ^ 18 = (b - bufferBase) / 2 ^ 18 →
    sbDie a = sbDie b ∧ sbBank a < 4096 ∧ (sbBank a = sbBank b ↔ a / 64 = b / 64)

/-- The order of R13. -/
def Obligations.StatusOrder : Prop :=
  let order := [scDESCRIPTOR_ERROR, scPAGE_FAULT, scCONTEXT_REJECT, scUNIT_LOST, scLINK_DOWN, scTIMEOUT,
    scMULTICAST_INCOMPLETE, scDATA_ERROR, scABORTED, scDONE]
  (∀ i j : Fin 10, worse (order.getD i 0) (order.getD j 0) = order.getD (min i.val j.val) 0) ∧
  ∀ a ∈ order, ∀ b ∈ order, worse a b = worse b a ∧ (worse a b = scDONE ↔ a = scDONE ∧ b = scDONE)

/-- What a write and a read of the shared buffer do to its bytes (R124, R127, R128, R130). -/
def Obligations.BufferBytes : Prop :=
  ∀ (s : State) (a : BitVec 41) (ctx : BitVec 12), s.calm → s.sbClean → s.clearing (sbDie a.toNat) = false →
    s.sbAbsent a.toNat = false →
    (∀ data : List (Option Byte), bufferRun a.toNat data.length = true → s.admits a.toNat ctx.toNat true = true →
      (∀ b ∈ unitsOf 64 a.toNat data.length, s.sbFenced b = false) →
      ∃ t, exec (.sbfWrite a data ctx ⟨[], []⟩) s = .next t ∧
        t = { s with sram := t.sram, buffer := { s.buffer with valid := t.buffer.valid },
                     out := .answer (.buffer a.toNat) scDONE [] :: s.out } ∧
        ∀ k, t.sbByte k = (given a.toNat data k).getD (s.sbByte k)) ∧
    (∀ len : Nat, bufferRun a.toNat len = true → s.admits a.toNat ctx.toNat false = true →
      (∀ w ∈ unitsOf 16 a.toNat len, s.sbFenced w = false) →
      exec (.sbfRead a len ctx ⟨[], []⟩) s =
        .next { s with out := .answer (.buffer a.toNat) scDONE ((List.range len).map fun i => s.sbByte (a.toNat + i)) :: s.out })

/-- What a write and a read of one block of a stack do to its bytes (R148, R153, R157, R159). -/
def Obligations.StackBytes : Prop :=
  ∀ (s : State) (a : BitVec 41) (ctx : BitVec 12) (cls : Fin 16), s.calm → s.stkClean → s.frameAbsent a.toNat = false →
    let p := s.blockPlace (s.stackKey a.toNat)
    p.m < 24 → s.pcFenced p.m p.pc = false →
    (∀ data : List (Option Byte), stackRun a.toNat data.length = true → a.toNat % 64 + data.length ≤ 64 →
      data.any Option.isSome = true → s.admits a.toNat ctx.toNat true = true →
      ∃ t, exec (.stkPartialWrite a data ctx cls ⟨[], [], 0⟩) s = .next t ∧
        (∀ k, Tab.get ramDefault t.dram k =
          (given (64 * s.stackKey a.toNat + a.toNat % 64) data k).getD (Tab.get ramDefault s.dram k)) ∧
        (∀ off, off ≠ R.RGL_CNT p.m cls → t.reg off = s.reg off) ∧
        t.out.head? = some (.answer (.stack a.toNat) scDONE []) ∧
        t = { s with dram := t.dram, regs := t.regs, rgl := t.rgl, stackState := t.stackState, out := t.out } ∧
        ∀ whole : List Byte, data = allBytes whole → exec (.stkWrite a whole ctx cls ⟨[], [], 0⟩) s = .next t) ∧
    (∀ len : Nat, stackRun a.toNat len = true → 0 < len → a.toNat % 64 + len ≤ 64 → s.admits a.toNat ctx.toNat false = true →
      ∃ t, exec (.stkRead a len ctx cls ⟨[], [], 0⟩) s = .next t ∧
        t.out.head? = some (.answer (.stack a.toNat) scDONE
          (readCells ramDefault s.dram (64 * s.stackKey a.toNat + a.toNat % 64) len)) ∧
        (∀ off, off ≠ R.RGL_CNT p.m cls → t.reg off = s.reg off) ∧
        t = { s with regs := t.regs, rgl := t.rgl, stackState := t.stackState, out := t.out })

/-- What the commands of 02_beats do (R29 to R31, R34, R35, R40 to R46, R51). -/
def Obligations.BeatCommands : Prop := ∀ (s : State) (e : EdgeSites) (v : Word) (by' : Origin),
  (s.isMaster = true → s.beatState = bsMASTER → s.beat.source = 0 ∨ s.beat.edgeDue = true →
    Does (.masterEdge e) s (s.masterBeat e)) ∧
  (∀ cycles, s.isMaster = true → s.beat.source = 1 → 40 ≤ cycles →
    Does (.beatInEdge cycles) s
      ({ s with beat := { s.beat with edgeDue := true, interval := some (min beatMax cycles), inMissed := 0 } }.setFld
        R.TGL_BEAT_STATUS F.TGL_BEAT_STATUS_STATE bsMASTER)) ∧
  (∀ cycles, s.isMaster = true → s.beat.source = 1 → cycles < 40 →
    Does (.beatInEdge cycles) s (s.bump R.TGL_BEAT_CNT F.TGL_BEAT_CNT_IN_REJECT)) ∧
  (s.isMaster = true → s.beat.source = 1 → s.beatState = bsMASTER → s.beat.edgeDue = false →
    Does (.beatInMissed e) s
      (let u := State.masterBeat { s with beat := { s.beat with inMissed := s.beat.inMissed + 1 } } e
       if u.beat.inMissed = 4 then
         ((u.setFld R.TGL_BEAT_STATUS F.TGL_BEAT_STATUS_STATE bsFREE_RUN).bump R.TGL_BEAT_CNT
           F.TGL_BEAT_CNT_FREE_RUN).raise 772
       else u)) ∧
  (F.TGL_BEAT_CTL_CNT_CLR.isSet v = true →
    Does (.beatCntClr v by') s
      (((s.written R.TGL_BEAT_CTL v).setReg R.TGL_BEAT_CNT 0).journalled s R.TGL_BEAT_CTL by')) ∧
  Does (.beatPeriodWrite v by') s
    (State.journalled { s.written R.TGL_BEAT_PERIOD v with beat := { s.beat with periodDue := true } } s R.TGL_BEAT_PERIOD
      by') ∧
  Does (.swStretchWrite v by') s
    ((s.written R.TGL_BEAT_STRETCH v).stretchPump.journalled s R.TGL_BEAT_STRETCH by') ∧
  (∀ (p : Fin 32) (copies : List (List Byte)) (l : List Byte),
    let low := (l.getD 1 0).toNat + 256 * (l.getD 2 0).toNat
    let flags := (l.getD 3 0).toNat
    let period := (l.getD 4 0).toNat + 256 * (l.getD 5 0).toNat
    s.portCarries p = true → setGood 0x01 copies = some l → s.isMaster = false → s.hasId = true → s.beat.rejoin = false →
    s.flag R.TGL_BEAT_STATUS F.TGL_BEAT_STATUS_UP_VALID = true →
    s.fld R.TGL_BEAT_STATUS F.TGL_BEAT_STATUS_UPSTREAM = p → rebuild s.beatNow low = s.beatNow + 1 →
    Does (.beatSetRx p copies e) s
      ((((s.levelSet period (bit flags 0)).onBeat fun b => { b with held := period, heldExt := bit flags 2 }).track).localEdge
        (s.beatNow + 1) 0 period flags e)) ∧
  (s.beatState = bsTRACKING → s.isMaster = false →
    Does (.missedBeat e) s
      (let u := s.ownBeat (if s.beat.heldExt then beatMax else s.beat.held) e
       if u.fld R.TGL_BEAT_STATUS F.TGL_BEAT_STATUS_MISSED = 4 then
         ((u.setFld R.TGL_BEAT_STATUS F.TGL_BEAT_STATUS_STATE bsFREE_RUN).bump R.TGL_BEAT_CNT
           F.TGL_BEAT_CNT_FREE_RUN).raise 768
       else u)) ∧
  (s.beatState = bsFREE_RUN → s.isMaster = true → Does (.freeRunEdge e) s (s.masterBeat e)) ∧
  (s.beatState = bsFREE_RUN → s.isMaster = false → Does (.freeRunEdge e) s (s.ownBeat s.beat.held e)) ∧
  (s.beatState = bsFREE_RUN ∨ s.beatState = bsHOLD → s.isMaster = false →
    Does .beatRejoinRequired s (State.toMaster { s with beat := { s.beat with rejoin := true } } .beatQuery)) ∧
  (∀ p, s.podState = psMEMBER → s.route s.masterId = some p →
    s.flag R.TGL_BEAT_STATUS F.TGL_BEAT_STATUS_UP_VALID = true → s.fld R.TGL_BEAT_STATUS F.TGL_BEAT_STATUS_UPSTREAM ≠ p →
    Does .upstreamSwitch s (((s.setFld R.TGL_BEAT_STATUS F.TGL_BEAT_STATUS_UP_VALID 1).setFld R.TGL_BEAT_STATUS
      F.TGL_BEAT_STATUS_UPSTREAM p).raise 774)) ∧
  (∀ (p : Fin 32) (stamp : BitVec 16), s.portCarries p = true →
    Does (.latencyProbe p stamp) s
      ((s.setPort p { s.port p with probe := some stamp.toNat }).emit (.orderedSet p (orderedSet
        [0x02, BitVec.ofNat 8 stamp.toNat, BitVec.ofNat 8 (stamp.toNat / 256), 0, 0, 0])))) ∧
  (∀ (p : Fin 32) (copies : List (List Byte)) (l : List Byte), s.portCarries p = true → setGood 0x02 copies = some l →
    Does (.probeRx p copies) s (s.emit (.orderedSet p (orderedSet [0x03, l.getD 1 0, l.getD 2 0, 0, 0, 0])))) ∧
  (∀ (p : Fin 32) (copies : List (List Byte)) (counter : BitVec 16) (l : List Byte),
    let stamp := (l.getD 1 0).toNat + 256 * (l.getD 2 0).toNat
    s.portCarries p = true → setGood 0x03 copies = some l → (s.port p).probe = some stamp →
    Does (.echoRx p copies counter) s
      (((s.setPort p { s.port p with probe := none }).setFld (R.TGL_BEAT_LAT p) F.TGL_BEAT_LAT_VALID 1).setFld
        (R.TGL_BEAT_LAT p) F.TGL_BEAT_LAT_LATENCY (((counter.toNat + 65536 - stamp) % 65536 - 64) * 6400 / 33)))

/-- What an admission's walk has seen when it is released, and its faults in the order of R74. -/
def Obligations.AdmissionWalk : Prop :=
  (∀ (w : Admission) (segs : List (Nat × Nat × Nat)), w.segs = some segs → w.walk = .found →
    ∀ op ∈ w.ops, ∀ page, op.1 ≤ page → page ≤ op.2.1 →
      ∃ i g f, segFor segs page = some (i, g) ∧ segValid g = true ∧ g.1 % 2 ^ 57 / 2 ^ 31 ≤ page ∧
        page < g.1 % 2 ^ 57 / 2 ^ 31 + g.2.1 % 2 ^ 26 ∧ f ∈ w.found ∧ f.page = page ∧ bit f.entry 63 = true ∧
        entryMalformed f.entry = false ∧ (op.2.2 = true → bit f.entry 62 = true ∧ bit g.1 62 = true)) ∧
  (∀ (segs : List (Nat × Nat × Nat)) (found : List PageFound) (page : Nat) (writes : Bool),
    (segFor segs page = none → walkPage segs found page writes = some (.fault frNO_SEGMENT page)) ∧
    (∀ i g, segFor segs page = some (i, g) →
      ((found.find? fun f => f.page == page) = none → walkPage segs found page writes = some (.read (1 + page))) ∧
      (∀ f, (found.find? fun f => f.page == page) = some f →
        (bit f.entry 63 = false → walkPage segs found page writes = some (.fault frNOT_PRESENT page)) ∧
        (bit f.entry 63 = true → entryMalformed f.entry = true →
          walkPage segs found page writes = some (.fault frMALFORMED page)) ∧
        (bit f.entry 63 = true → entryMalformed f.entry = false → writes = true →
          bit f.entry 62 = false ∨ bit g.1 62 = false →
          walkPage segs found page writes = some (.fault frWRITE_PROTECT page)) ∧
        (bit f.entry 63 = true → entryMalformed f.entry = false →
          writes = false ∨ (bit f.entry 62 = true ∧ bit g.1 62 = true) → walkPage segs found page writes = none)))) ∧
  (∀ (w : Admission) (segs : List (Nat × Nat × Nat)) (l r : List (Nat × Bool)) (page : Nat) (writes : Bool) (x : Walk),
    w.segs = some segs → w.ops ≠ [] → w.ops.flatMap opPages = l ++ (page, writes) :: r →
    (∀ p ∈ l, walkPage segs w.found p.1 p.2 = none) → walkPage segs w.found page writes = some x → w.walk = x)

/-- The fields fit their places, and those that the type does not have are 0. -/
def Obligations.HuskRoundTrip : Prop :=
  (∀ h : Husk, h.fits = true → Husk.parse h.header h.payload = h) ∧
  ∀ h g : Husk, h.fits = true → g.fits = true → h.header = g.header → h.payload = g.payload → h = g

/-- What the scalar instructions leave unchanged (R295, R299). -/
def Obligations.ScalarFrame : Prop :=
  ∀ (n : Fin 16) (s : State) (w : Nat), s.calm → ∀ e ∈ ([(.add n, 0x01), (.sub n, 0x02), (.mul n, 0x03), (.andOp n, 0x04),
      (.orOp n, 0x05), (.xorOp n, 0x06), (.sll n, 0x07), (.srl n, 0x08), (.sra n, 0x09), (.minOp n, 0x0A), (.maxOp n, 0x0B),
      (.addi n, 0x0C), (.li n, 0x0D), (.lui n, 0x0E)] : List (Instr × Nat)),
    s.issuesPlain n.val w (e.2, 0) →
    ∃ t, exec e.1 s = .next t ∧ t = { s with nme := { s.nme with engines := t.nme.engines } } ∧
      (∀ m, m ≠ n.val → t.engine m = s.engine m) ∧
      (∀ r, r ≠ sRD w → (t.engine n).get r = (s.engine n).get r) ∧
      ∃ x, t.engine n = { ((s.engine n).next) with x := x }

/-- What the commands of 03_addressing_contexts and of the failures of R20 and R557 do (R65, R74, R80, R82, R84 to R90,
R92). -/
def Obligations.AdmissionCommands : Prop := ∀ (s : State) (v : Word) (by' : Origin),
  (let own := fun (off : Nat) => (s.setOwner off (Reg.writeFields ((Reg.lookup off).elim [] fun x => x.1.fields)
      (s.reg off) v)).journalled s off by'
   (∀ f : Fin 720, s.flag (R.ADT_OWN_FRAME f) F.ADT_OWN_FRAME_ABSENT = false →
      Does (.ownerEntryWrite (.frame f) v by') s (own (R.ADT_OWN_FRAME f))) ∧
   (∀ f : Fin 720, s.flag (R.ADT_OWN_FRAME f) F.ADT_OWN_FRAME_ABSENT = true →
      Does (.ownerEntryWrite (.frame f) v by') s s) ∧
   (∀ p : Fin 96, Does (.ownerEntryWrite (.part p) v by') s (own (R.ADT_OWN_PART p)))) ∧
  Does .ownerEntryApplied s
    (State.setFld { s with adt := { s.adt with stale := [] } } R.ADT_OWN_STATUS F.ADT_OWN_STATUS_PENDING 0) ∧
  (let c := F.ADT_CTX_CMD_CTX.of v
   let u := s.written R.ADT_CTX_CMD v
   (F.ADT_CTX_CMD_CMD.of v = 1 → c ≠ 0 → s.ctxState c = cxFREE ∨ s.ctxState c = cxRETIRED →
     Does (.ctxActivate v by') s
       (((u.setFld (R.ADT_CTX_STATUS c) F.ADT_CTX_STATUS_STATE cxACTIVE).dropCached
         ⟨c, true, 0, 0, none, [], false⟩).journalled s R.ADT_CTX_CMD by')) ∧
   (F.ADT_CTX_CMD_CMD.of v = 2 → c ≠ 0 → s.ctxState c = cxACTIVE →
     Does (.ctxRetire v by') s
       (let u := u.setFld (R.ADT_CTX_STATUS c) F.ADT_CTX_STATUS_STATE cxRETIRING
        let u := (u.adt.faults.filter fun e => e.work.ctx == c).foldl (fun u e => u.resumeWork e true) u
        State.journalled { u with adt := { u.adt with invals := u.adt.invals ++ [⟨c, true, 0, 0, none, [], false⟩] } } s
          R.ADT_CTX_CMD by'))) ∧
  (∀ c : BitVec 12, s.ctxState c.toNat = cxRETIRING →
    (s.adt.invals.any fun x => x.seq.isNone && x.ctx == c.toNat) = false → s.ownedBy c.toNat = [] →
    s.flag R.ADT_OWN_STATUS F.ADT_OWN_STATUS_PENDING = false →
    Does (.contextRetired c) s
      ((s.setFld (R.ADT_CTX_STATUS c.toNat) F.ADT_CTX_STATUS_STATE cxRETIRED).raise 746)) ∧
  (∀ (d : Fin 8) (w : Admission) (rest : List Admission), s.admissions d = w :: rest →
    (w.reading = none → (s.bump R.ADT_CNT F.ADT_CNT_ADMISSIONS).ctxState w.ctx ≠ cxACTIVE →
      Does (.admitNext d) s (s.admitted (some (.ended scCONTEXT_REJECT, w,
        (s.bump R.ADT_CNT F.ADT_CNT_ADMISSIONS).setAdmissions d rest)))) ∧
    (w.reading = none → (s.bump R.ADT_CNT F.ADT_CNT_ADMISSIONS).ctxState w.ctx = cxACTIVE →
      Does (.admitNext d) s (s.admitted (some ((s.bump R.ADT_CNT F.ADT_CNT_ADMISSIONS).admitGo d w rest)))) ∧
    (∀ n, w.reading = some n →
      let r := s.memRead ⟨0, w.cls, 2, 400000 + d⟩ (s.tableAddr w n).1 (s.tableAddr w n).2 false
      (r.1 = scDONE → Does (.admitTableReadDone d) s
        (s.admitted (some ((r.2.2.tableFill d w n r.2.1).2.admitGo d (r.2.2.tableFill d w n r.2.1).1 rest)))) ∧
      (r.1 ≠ scDONE → Does (.admitTableReadDone d) s
        (s.admitted (some (.ended r.1, w, r.2.2.setAdmissions d rest)))))) ∧
  (∀ d, s.adt.writing = none → s.faultSpace = true → s.schRestarts = false → s.nextFaultDie = some d →
    Does .faultRecordCopy s (State.faultWrite { s with adt := { s.adt with turn := d } } d)) ∧
  (∀ d c, s.adt.writing = some (d, .answered c) →
    (c = scDONE → Does .faultRecordWriteDone s
      (let u := State.popFault { s with adt := { s.adt with writing := none } } d
       u.setFld R.ADT_FAULT_HEAD F.ADT_FAULT_HEAD_HEAD (u.fld R.ADT_FAULT_HEAD F.ADT_FAULT_HEAD_HEAD + 1))) ∧
    (c ≠ scDONE → Does .faultRecordWriteDone s { s with adt := { s.adt with writing := some (d, .repeated) } })) ∧
  (∀ d, s.adt.writing = some (d, .repeated) → s.faultSpace = true → s.schRestarts = false →
    Does .faultRecordRetry s (s.faultWrite d)) ∧
  (let u := s.written R.ADT_RESUME v
   ∀ e, (u.adt.faults.find? fun e => e.id == F.ADT_RESUME_FAULT_ID.of v) = some e →
     (F.ADT_RESUME_ABORT.isSet v = false → Does (.faultResume v) s (u.resumeWork e false)) ∧
     (F.ADT_RESUME_ABORT.isSet v = true → Does (.faultAbort v) s (u.resumeWork e true))) ∧
  (let u := s.written R.ADT_INV_ARG1 v
   let q := (u.fld R.ADT_INV_STATUS F.ADT_INV_STATUS_ISSUED_SEQ + 1) % 65536
   (16 ≤ u.fld R.ADT_INV_STATUS F.ADT_INV_STATUS_QUEUED →
     Does (.invalidateEnqueue v) s (u.setFld R.ADT_INV_STATUS F.ADT_INV_STATUS_OVERFLOW 1)) ∧
   (u.fld R.ADT_INV_STATUS F.ADT_INV_STATUS_QUEUED < 16 →
     Does (.invalidateEnqueue v) s
       ((State.setFld { u with adt := { u.adt with invals := u.adt.invals ++ [⟨F.ADT_INV_ARG1_CTX.of v,
         F.ADT_INV_ARG1_ALL.isSet v, u.fld R.ADT_INV_ARG0 F.ADT_INV_ARG0_PAGE, F.ADT_INV_ARG1_PAGES.of v, some q, [],
         false⟩] } } R.ADT_INV_STATUS F.ADT_INV_STATUS_ISSUED_SEQ q).showQueued.invalPump 17))) ∧
  (∀ x rest, s.adt.invals = x :: rest → x.running = false →
    ((s.moverHolders x ++ s.engineHolders x).isEmpty = false → Does .invalidateRun s
       (let us := s.moverHolders x ++ s.engineHolders x
        (us.filter fun u => decide (u < 256)).foldl (fun u g => u.moverHold { x with running := true, waiting := us } g)
         { (s.dropCached x).markLate x with
           adt := { ((s.dropCached x).markLate x).adt with invals := { x with running := true, waiting := us } :: rest } }))) ∧
  (∀ x, s.invalHead = some x →
    (∀ (u : Fin 272) (g : Nat), u.val = g → g < 256 → x.waiting.contains g = true →
      (let t := s.moverHold x g
       (∀ e ∈ t.adt.work, ∀ w ∈ e.2, ∀ k number, w.who = .queue k number → t.runsOn k = g → admissionCovered x w = false) →
       ((t.inProgress g).any fun y => (y.held || y.status == scUNIT_LOST) && !y.drained) = false →
       Does (.invalidateAck u) s
         ((((t.invalAck g).movers.transfers.map Prod.fst)).foldl (fun t k => (t.transfers k).foldl (fun t y =>
           if y.unit = g && y.held && shadowCovered x (t.qCtx k) y.shadow then
             (t.setTransfer k { y with admitted := false, held := false, shadow := [] }).submit (dieOf k)
               ⟨.queue k y.number, t.qCtx k, t.qClass k, (dOperands y.words).filterMap Operand.pages,
                 (0, moverOf k, k % 16, t.qSlot k y.number), none, [], none, false⟩
           else t) t) (t.invalAck g)))) ∧
    (∀ (u : Fin 272) (n : Nat), u.val = 256 + n → x.waiting.contains (256 + n) = true →
      s.engineAdmitting x n = false → s.jobAt n = none →
      Does (.invalidateAck u) s (s.invalAck (256 + n))) ∧
    Does .invalidateTimeout s
      (((x.waiting.foldl (fun t u => (if u < 256 then t.moverLost u else t.nmeLost (u - 256)).invalAck u) s).setFld
        R.ADT_INV_STATUS F.ADT_INV_STATUS_FENCED 1).raise 745)) ∧
  (∀ b : Fin 10, s.topState ≠ stFAULT → Does (.bridgeFailure b) s ((s.noteLoss dkBRIDGE b 0).fail fcBRIDGE)) ∧
  (∀ n : Fin 16, s.topState ≠ stFAULT →
    16 ≤ Tab.get (fun _ => 0) s.nme.ring.errors (2 * n + 1) ∨ 16 ≤ Tab.get (fun _ => 0) s.nme.ring.errors (2 * westOf n) →
    Does (.ringConnectionFail n) s ((s.noteLoss dkRING n 0).fail fcRING))

/-- What the commands of 05_shared_buffer do (R124, R125, R128, R130, R133, R137, R140, R141, R143). -/
def Obligations.BufferCommands : Prop := ∀ (s : State) (v : Word) (by' : Origin),
  (∀ (a : BitVec 41) (len : Nat) (data : List (Option Byte)) (op : BitVec 4) (size : Nat) (x y : Word) (returning : Bool)
      (ctx : BitVec 12) (hit : Upset),
    (regionOf a.toNat = .buffer → s.clearing (sbDie a.toNat) = true →
      let held := fun (i : Instr) => ({ s with buffer := { s.buffer with held := s.buffer.held ++ [i] } } : State)
      Does (.sbfRead a len ctx hit) s (held (.sbfRead a len ctx hit)) ∧
      Does (.sbfWrite a data ctx hit) s (held (.sbfWrite a data ctx hit)) ∧
      Does (.sbfAtomic a op size x y returning ctx hit) s (held (.sbfAtomic a op size x y returning ctx hit))) ∧
    (s.clearing (sbDie a.toNat) = false → s.sbAbsent a.toNat = false →
      (bufferRun a.toNat len = true → s.admits a.toNat ctx.toNat false = false →
        Does (.sbfRead a len ctx hit) s (s.emit (.answer (.buffer a.toNat) scCONTEXT_REJECT []))) ∧
      (bufferRun a.toNat len = true → s.admits a.toNat ctx.toNat false = true →
        Does (.sbfRead a len ctx hit) s
          (let u := (unitsOf 64 a.toNat len).foldl (fun u b => u.sbVote hit 0 b) (s.sbUpset hit)
           let r := u.sbReadData 0 a.toNat len
           r.2.2.emit (.answer (.buffer a.toNat) r.1 (if r.1 = scDONE ∨ r.1 = scDATA_ERROR then r.2.1 else [])))) ∧
      (bufferRun a.toNat data.length = true → s.admits a.toNat ctx.toNat true = false →
        Does (.sbfWrite a data ctx hit) s (s.emit (.answer (.buffer a.toNat) scCONTEXT_REJECT []))) ∧
      (bufferRun a.toNat data.length = true → s.admits a.toNat ctx.toNat true = true →
        Does (.sbfWrite a data ctx hit) s
          (let r := (splitUnits 64 a.toNat data).foldl (fun (acc : Nat × State) b =>
             let q := acc.2.sbWriteBlock hit b.1 b.2
             (worse acc.1 q.1, q.2)) (scDONE, s.sbUpset hit)
           r.2.emit (.answer (.buffer a.toNat) r.1 []))) ∧
      (bufferRun a.toNat size = true → atomicValid a.toNat op.toNat size = true → s.admits a.toNat ctx.toNat true = true →
        Does (.sbfAtomic a op size x y returning ctx hit) s
          (let r := ((s.sbUpset hit).sbVote hit 2 a.toNat).sbAtomicAt a.toNat op.toNat size x.toNat y.toNat
           r.2.2.emit (.answer (.buffer a.toNat) r.1 (if returning then r.2.1 else []))))) ∧
    (bufferRun a.toNat len = false → regionOf a.toNat ≠ .buffer →
      Does (.sbfRead a len ctx hit) s (s.emit (.answer (.buffer a.toNat) scDESCRIPTOR_ERROR [])))) ∧
  (∀ d : Fin 8,
    let u := s.written (R.SBF_PART_CLR d) v
    let m := F.SBF_PART_CLR_MASK.of v
    (m ≠ 0 → Does (.partitionClear d v by') s
      (let hit := fun (b : Nat) => sbDie b == d.val && bit m ((b - bufferBase) % 0x30000000 / 2 ^ 26)
       (State.setFld { u with buffer := { u.buffer with valid := u.buffer.valid.clear hit } } (R.SBF_PART_CLR d)
         F.SBF_PART_CLR_BUSY 1).journalled s (R.SBF_PART_CLR d) by')) ∧
    (m = 0 → Does (.partitionClear d v by') s (u.journalled s (R.SBF_PART_CLR d) by'))) ∧
  (∀ d : Fin 8, s.clearing d = true → s.buffer.held = [] →
    Does (.partitionClearDone d) s (s.setFld (R.SBF_PART_CLR d) F.SBF_PART_CLR_BUSY 0)) ∧
  (∀ (a : BitVec 41) (hit : Upset), regionOf a.toNat = .buffer →
    s.flag (R.SBF_SCRUB_CTL (sbDie a.toNat)) F.SBF_SCRUB_CTL_EN = true →
    Does (.sbfScrub a false hit) s (s.sbScrubBlock a.toNat hit) ∧
    Does (.sbfScrub a true hit) s
      ((s.sbScrubBlock a.toNat hit).bump (R.SBF_SCRUB_CTL (sbDie a.toNat)) F.SBF_SCRUB_CTL_PASSES)) ∧
  (∀ (a : BitVec 41) (src : Fin 5), regionOf a.toNat = .buffer → s.sbAbsent a.toNat = false →
    s.sbFenced a.toNat = false →
    Does (.bankFence a src) s
      (let d := sbDie a.toNat
       let b := s.sbPhys a.toNat
       let u := (s.setFld (R.SBF_BANK d b) F.SBF_BANK_STATE 3).bump (R.SBF_STATUS d) F.SBF_STATUS_FENCED
       (((u.sbRecord 3 src a.toNat 0).raise (193 + 2 * d)).noteLoss dkBANK d b).emit
         (.answer (.buffer a.toNat) scTIMEOUT []))) ∧
  (∀ d : Fin 8,
    let u := s.written (R.SBF_ERR_POP d) v
    (F.SBF_ERR_POP_POP.isSet v = true → Does (.sbfErrPop d v) s (u.setSbRecords d ((u.sbRecords d).drop 1))) ∧
    (F.SBF_ERR_POP_POP.isSet v = false → Does (.sbfErrPop d v) s u)) ∧
  (∀ d : Fin 8, F.SBF_ERR_CTL_CNT_CLR.isSet v = true → Does (.sbfCntClr d v by') s
    ((((s.written (R.SBF_ERR_CTL d) v).setReg (R.SBF_ERR_CNT d) 0).clearFields (R.SBF_BANK d 0) (R.SBF_BANK d 4224)
      [F.SBF_BANK_UE, F.SBF_BANK_CE]).journalled s (R.SBF_ERR_CTL d) by')) ∧
  (∀ d : Fin 8, regionOf (8 * F.SBF_INJECT_ADDR.of v) = .buffer → sbDie (8 * F.SBF_INJECT_ADDR.of v) = d →
    Does (.sbfInjectArm d v by') s ((s.written (R.SBF_INJECT d) v).journalled s (R.SBF_INJECT d) by'))

/-- What the commands of 06_stack_controllers do (R155, R157, R161, R165, R167, R168, R170, R172). -/
def Obligations.StackCommands : Prop := ∀ (s : State) (v : Word) (by' : Origin),
  (∀ (a : BitVec 41) (len : Nat) (data : List Byte) (parts : List (Option Byte)) (ctx : BitVec 12) (cls : Fin 16)
      (hit : DramUpset),
    (stackRun a.toNat len = true → s.frameAbsent a.toNat = true ∨ s.admits a.toNat ctx.toNat false = false →
      Does (.stkRead a len ctx cls hit) s (s.emit (.answer (.stack a.toNat) scCONTEXT_REJECT []))) ∧
    (stackRun a.toNat len = true → s.frameAbsent a.toNat = false → s.admits a.toNat ctx.toNat false = true →
      Does (.stkRead a len ctx cls hit) s
        (let r := (s.stkUpset hit (s.stackOf a.toNat)).stkReadData a.toNat len cls
         r.2.2.emit (.answer (.stack a.toNat) r.1 (if r.1 = scDONE ∨ r.1 = scDATA_ERROR then r.2.1 else [])))) ∧
    (stackRun a.toNat len = false →
      Does (.stkRead a len ctx cls hit) s (s.emit (.answer (.stack a.toNat) scDESCRIPTOR_ERROR []))) ∧
    (stackRun a.toNat parts.length = true → s.frameAbsent a.toNat = true ∨ s.admits a.toNat ctx.toNat true = false →
      Does (.stkPartialWrite a parts ctx cls hit) s (s.emit (.answer (.stack a.toNat) scCONTEXT_REJECT []))) ∧
    (let stored := fun (l : List (Option Byte)) =>
       let r := (splitUnits 64 a.toNat l).foldl (fun (acc : Nat × State) b =>
         let q := acc.2.stkWriteBlock (acc.2.stackKey b.1) cls b.2
         (worse acc.1 q.1, q.2)) (scDONE, s.stkUpset hit (s.stackOf a.toNat))
       r.2.emit (.answer (.stack a.toNat) r.1 [])
     s.frameAbsent a.toNat = false → s.admits a.toNat ctx.toNat true = true →
      (stackRun a.toNat data.length = true → Does (.stkWrite a data ctx cls hit) s (stored (allBytes data))) ∧
      (stackRun a.toNat parts.length = true → Does (.stkPartialWrite a parts ctx cls hit) s (stored parts)))) ∧
  (∀ (m : Fin 24) (pc bank : Fin 64),
    let closed := ({ s with stackState := { s.stackState with
      openRows := Tab.set (fun _ => none) s.stackState.openRows (4096 * m + 64 * pc + bank) none } } : State)
    Does (.rowPrecharge m pc bank) s closed ∧
    (s.pcFenced m pc = false → Does (.refresh m pc bank) s (closed.emit (.refresh m pc bank false)))) ∧
  (∀ (m : Fin 24) (t : Byte),
    let u := s.setFld (R.STK_STATUS m) F.STK_STATUS_TEMP t.toNat
    let count := fun (u : State) (n : Nat) =>
      ({ u with stackState := { u.stackState with cool := Tab.set (fun _ => 0) u.stackState.cool m n } } : State)
    let n := Tab.get (fun _ => 0) s.stackState.cool m
    (u.flag (R.STK_STATUS m) F.STK_STATUS_REFRESH = false → 85 < t.toNat →
      Does (.stackTempRead m t) s
        ((((count u 0).setFld (R.STK_STATUS m) F.STK_STATUS_REFRESH 1).raise (98 + 4 * m)).stkRecap m)) ∧
    (u.flag (R.STK_STATUS m) F.STK_STATUS_REFRESH = false → t.toNat ≤ 85 → Does (.stackTempRead m t) s (count u 0)) ∧
    (u.flag (R.STK_STATUS m) F.STK_STATUS_REFRESH = true → 82 < t.toNat → Does (.stackTempRead m t) s (count u 0)) ∧
    (u.flag (R.STK_STATUS m) F.STK_STATUS_REFRESH = true → t.toNat ≤ 82 → n + 1 < 10 →
      Does (.stackTempRead m t) s (count u (n + 1))) ∧
    (u.flag (R.STK_STATUS m) F.STK_STATUS_REFRESH = true → t.toNat ≤ 82 → 10 ≤ n + 1 →
      Does (.stackTempRead m t) s
        ((((count u 0).setFld (R.STK_STATUS m) F.STK_STATUS_REFRESH 0).raise (98 + 4 * m)).stkRecap m))) ∧
  (∀ (m : Fin 24) (pc bank : Fin 64) (row : Fin 16384) (hit : DramUpset),
    s.flag (R.STK_SCRUB_CTL m) F.STK_SCRUB_CTL_EN = true →
    Does (.stkScrub m pc bank row false hit) s (s.stkScrubRow m pc bank row hit) ∧
    Does (.stkScrub m pc bank row true hit) s
      ((s.stkScrubRow m pc bank row hit).bump (R.STK_SCRUB_CTL m) F.STK_SCRUB_CTL_PASSES)) ∧
  (∀ (a : BitVec 41) (src : Fin 5), inStack a.toNat = true → s.frameAbsent a.toNat = false →
    let p := s.blockPlace (s.stackKey a.toNat)
    let k := 64 * p.m + p.pc
    let n := Tab.get (fun _ => 0) s.stackState.failures k
    let count := fun (n : Nat) =>
      ({ s with stackState := { s.stackState with failures := Tab.set (fun _ => 0) s.stackState.failures k n } } : State)
    s.pcFenced p.m p.pc = false →
    (n < 3 → Does (.parityRetry a src) s ((count (n + 1)).bump (R.STK_ERR_CNT2 p.m) F.STK_ERR_CNT2_RETRY)) ∧
    (3 ≤ n → Does (.parityRetry a src) s (((count 0).stkFence p src).pcGone a.toNat)) ∧
    Does (.pcFence a src) s ((s.stkFence p src).pcGone a.toNat)) ∧
  (∀ m : Fin 24,
    let u := s.written (R.STK_ERR_POP m) v
    (F.STK_ERR_POP_POP.isSet v = true → Does (.stkErrPop m v) s (u.setStkRecords m ((u.stkRecords m).drop 1))) ∧
    (F.STK_ERR_POP_POP.isSet v = false → Does (.stkErrPop m v) s u) ∧
    (F.STK_ERR_CTL_CNT_CLR.isSet v = true → Does (.stkCntClr m v by') s
      (((((s.written (R.STK_ERR_CTL m) v).setReg (R.STK_ERR_CNT m) 0).setReg (R.STK_ERR_CNT2 m) 0).clearFields
        (R.STK_PC m 0) (R.STK_PC m 64) [F.STK_PC_UE, F.STK_PC_CE]).journalled s (R.STK_ERR_CTL m) by')) ∧
    Does (.stkInjectArm m v by') s ((s.written (R.STK_INJECT m) v).journalled s (R.STK_INJECT m) by'))

/-- What the commands of 07_memory_side_cache do (R177, R180 to R185, R192 to R196, R200). -/
def Obligations.CacheCommands : Prop := ∀ (s : State) (v : Word) (by' : Origin),
  (∀ (a : BitVec 41) (len : Nat) (data : List (Option Byte)) (ctx : BitVec 12) (cls : Fin 16) (hint : Fin 3)
      (stream id : Nat) (tagErr : BitVec 16) (dataErr : Bool),
    let m := s.stackOf a.toNat
    let l := lineOf a.toNat
    let q : MscRead := ⟨a.toNat, len, ctx.toNat, cls, hint, stream, id⟩
    let inLine := fun (n : Nat) => stackRun a.toNat n = true ∧ a.toNat / 128 = (a.toNat + n - 1) / 128 ∧ 0 < n
    let free := (s.slice m).blocked = false ∧ (s.slice m).heldBefore l stream = false
    let told := fun (r : Nat × List Byte × State) => r.2.2.emit (.answer (.slice m id) r.1 r.2.1)
    let held := fun (i : Instr) => s.setSlice m { s.slice m with inputs := (s.slice m).inputs ++ [i] }
    (¬ inLine len → Does (.mscRead a len ctx cls hint stream id tagErr dataErr) s
      (s.emit (.answer (.slice m id) scDESCRIPTOR_ERROR []))) ∧
    (inLine len → ¬ free → Does (.mscRead a len ctx cls hint stream id tagErr dataErr) s
      (held (.mscRead a len ctx cls hint stream id tagErr dataErr))) ∧
    (inLine len → free → s.frameAbsent a.toNat = true ∨ s.admits a.toNat ctx.toNat false = false →
      Does (.mscRead a len ctx cls hint stream id tagErr dataErr) s (told (scCONTEXT_REJECT, [], s))) ∧
    (inLine len → free → s.frameAbsent a.toNat = false → s.admits a.toNat ctx.toNat false = true →
      (s.mscOn m = false ∨ s.lineFenced m l (a.toNat % 128) (a.toNat % 128 + len) = true →
        Does (.mscRead a len ctx cls hint stream id tagErr dataErr) s (told (s.mscPass m l q))) ∧
      (s.mscOn m = true → s.lineFenced m l (a.toNat % 128) (a.toNat % 128 + len) = false →
        (∀ bs t, s.mscLookup m l q tagErr.toNat dataErr = (some bs, t) →
          Does (.mscRead a len ctx cls hint stream id tagErr dataErr) s
            ((t.emit (.answer (.slice m id) scDONE bs)).mscTrain m l q)) ∧
        (∀ t u, s.mscLookup m l q tagErr.toNat dataErr = (none, t) → t.mscMiss m l q = some u →
          Does (.mscRead a len ctx cls hint stream id tagErr dataErr) s (u.mscTrain m l q)))) ∧
    (inLine data.length → free → s.frameAbsent a.toNat = true ∨ s.admits a.toNat ctx.toNat true = false →
      Does (.mscWrite a data ctx cls stream id tagErr) s (told (scCONTEXT_REJECT, [], s))) ∧
    (inLine data.length → free → s.frameAbsent a.toNat = false → s.admits a.toNat ctx.toNat true = true →
      (s.flag (R.MSC_CTL m) F.MSC_CTL_EN = false ∨ s.lineFenced m l (a.toNat % 128) (a.toNat % 128 + data.length) = true →
        Does (.mscWrite a data ctx cls stream id tagErr) s
          (let r := s.stkWriteData a.toNat data cls
           told (r.1, [], r.2))) ∧
      (s.flag (R.MSC_CTL m) F.MSC_CTL_EN = true → s.lineFenced m l (a.toNat % 128) (a.toNat % 128 + data.length) = false →
        (s.slice m).ownReadPending l stream = false → (s.slice m).merging.length < 64 →
        Does (.mscWrite a data ctx cls stream id tagErr) s
          (told (scDONE, [], (if s.mscOn m then s.mscTags m l tagErr.toNat else s).mscAccept m l cls
            (lineBytes a.toNat data)))))) ∧
  (∀ (m : Fin 24) (i : Fin 64) (aged : Bool), s.mbMayHand m i aged = true →
    Does (.mbHand m i aged) s (s.setSlice m { s.slice m with
      merging := (s.slice m).merging.modify i fun e => { e with isOpen := false } })) ∧
  (∀ (m : Fin 24) (i : Fin 64) (hit : DramUpset) (e : MergeEntry), (s.slice m).merging[i.val]? = some e →
    e.isOpen = false → Does (.mbEntryFree m i hit) s (((s.stkUpset hit m).mbAccept m i).mscRetry m)) ∧
  (∀ (m : Fin 24) (i : Fin 256) (r : MissRegister), (s.slice m).misses[i.val]? = some r → r.issued = false →
    ((s.slice m).merging.any (fun e => e.line == r.line) = false →
      Does (.mrIssue m i) s (s.setSlice m { s.slice m with
        misses := (s.slice m).misses.modify i fun r => { r with issued := true } })) ∧
    ((s.slice m).merging.any (fun e => e.line == r.line) = true →
      Does (.mrIssue m i) s (s.setSlice m { s.slice m with
        merging := (s.slice m).merging.map fun e => if e.line = r.line then { e with isOpen := false } else e }))) ∧
  (∀ (m : Fin 24) (i : Fin 256) (hit : DramUpset) (r : MissRegister), (s.slice m).misses[i.val]? = some r →
    r.issued = true →
    Does (.mrFill m i hit) s
      (let f := (s.stkUpset hit m).mscFill m i
       (f.2.2.2.mscAnswer m f.1 f.2.1 f.2.2.1 r.reads).mscRetry m)) ∧
  (∀ m : Fin 24,
    let old := s.reg (storeOf (R.MSC_CTL m))
    let u := (s.written (R.MSC_CTL m) v).setFld (R.MSC_CTL m) F.MSC_CTL_EN (F.MSC_CTL_EN.of old)
    F.MSC_CTL_CNT_CLR.isSet v = false → u.flag (R.MSC_STATUS m) F.MSC_STATUS_FAULTY = false →
    (F.MSC_CTL_EN.isSet v = false → u.flag (R.MSC_CTL m) F.MSC_CTL_EN = true →
      Does (.mscDisable m v by') s
        ((u.setSlice m { u.slice m with
          disabling := true, enableAfter := false,
          misses := (u.slice m).misses.map fun r => { r with install := false } }).journalled s (R.MSC_CTL m) by')) ∧
    (F.MSC_CTL_EN.isSet v = true → (u.slice m).disabling = false → u.flag (R.MSC_CTL m) F.MSC_CTL_EN = false →
      Does (.mscEnable m v by') s
        (((State.setFld (if u.flag (R.MSC_STATUS m) F.MSC_STATUS_STALE then
            u.bump (R.MSC_CNT_MISC m) F.MSC_CNT_MISC_STALE_EN else u) (R.MSC_CTL m) F.MSC_CTL_EN 1).mscShow m).journalled s
          (R.MSC_CTL m) by')) ∧
    (F.MSC_CTL_EN.isSet v = true → (u.slice m).disabling = true →
      Does (.mscEnable m v by') s
        ((u.setSlice m { u.slice m with enableAfter := true }).journalled s (R.MSC_CTL m) by'))) ∧
  (∀ m : Fin 24, F.MSC_CTL_CNT_CLR.isSet v = true →
    let old := s.reg (storeOf (R.MSC_CTL m))
    Does (.mscCntClr m v by') s
      ((((((s.written (R.MSC_CTL m) v).setReg (R.MSC_CNT_RD m) 0).setReg (R.MSC_CNT_MISC m) 0).setReg (R.MSC_CNT_PF m)
        0).setFld (R.MSC_CTL m) F.MSC_CTL_EN (F.MSC_CTL_EN.of old) |>.mscEnableWrite m (F.MSC_CTL_EN.isSet v)).journalled s
        (R.MSC_CTL m) by')) ∧
  (∀ m : Fin 24, (s.slice m).disabling = true → (s.slice m).merging = [] → (s.slice m).misses = [] →
    let u := (((s.setFld (R.MSC_CTL m) F.MSC_CTL_EN 0).setFld (R.MSC_STATUS m) F.MSC_STATUS_STALE 1).setSlice m
      { s.slice m with disabling := false, enableAfter := false }).raise (209 + 2 * m)
    ((s.slice m).enableAfter = false → Does (.mscDisableDone m) s u) ∧
    ((s.slice m).enableAfter = true → Does (.mscDisableDone m) s (u.mscEnableWrite m true))) ∧
  (∀ m : Fin 24,
    let u := s.written (R.MSC_INV_ALL m) v
    F.MSC_INV_ALL_GO.isSet v = true → u.flag (R.MSC_STATUS m) F.MSC_STATUS_INV_BUSY = false →
    Does (.mscInvalidate m v by') s
      (((u.setSlice m { u.slice m with sweep := some 0 }).setFld (R.MSC_STATUS m) F.MSC_STATUS_INV_BUSY 1).journalled s
        (R.MSC_INV_ALL m) by')) ∧
  (∀ (m : Fin 24) (k : Nat), (s.slice m).sweep = some k →
    Does (.mscInvalidateDone m) s
      ((((s.setSlice m { s.slice m with
          lines := Tab.clear (s.slice m).lines (fun j => decide (k ≤ j / 16)), sweep := none }).setFld (R.MSC_STATUS m)
        F.MSC_STATUS_INV_BUSY 0).setFld (R.MSC_STATUS m) F.MSC_STATUS_STALE 0).raise (209 + 2 * m)))

/-- What the doorbell and the control register of data-mover queues and job rings do (R203, R205, R206, R208, R228, R232,
R244, R258). -/
def Obligations.QueueCommands : Prop := ∀ (s : State) (v : Word) (by' : Origin),
  (let rung := fun (k : Nat) (c : Instr) =>
     let tail := F.DMV_Q_TAIL_TAIL.of v
     let u := (s.written (qTAIL k) v).setReg (qTAIL k) (s.reg (storeOf (qTAIL k)))
     let w := u.setFld (qTAIL k) F.DMV_Q_TAIL_TAIL tail
     let live := u.qState k = qsRUNNING ∨ u.qState k = qsSUSPENDED
     (tail = u.qTail k → Does c s u) ∧
     (tail ≠ u.qTail k → live → u.qBacklog k tail ≤ 2 ^ u.qSize k → w.schRestarts = false →
       Does c s ((w.setRing k { w.ring k with known := tail }).showFifo k)) ∧
     (tail ≠ u.qTail k → live → 2 ^ u.qSize k < u.qBacklog k tail →
       Does c s (((w.setQState k qsERROR).setFld (qSTATUS k) F.DMV_Q_STATUS_REASON qrTAIL_RANGE).raise (ringSource k))) ∧
     (tail ≠ u.qTail k → u.qState k = qsDISABLED ∨ u.qState k = qsERROR → Does c s w)
   (∀ (g : Fin 256) (q : Fin 16), rung (queueKey g q) (.dmvDoorbell g q v)) ∧
   (∀ (d : Fin 8) (r : Fin 32), rung (jobKey d r) (.jobDoorbell d r v))) ∧
  (let ctl := fun (k : Nat) (on off reset : Instr) =>
     let u := (s.written (qCTL k) v).setReg (qCTL k) (s.reg (storeOf (qCTL k)))
     let w := u.setFld (qCTL k) F.DMV_Q_CTL_EN 1
     let z := u.setFld (qCTL k) F.DMV_Q_CTL_EN 0
     let plain := F.DMV_Q_CTL_RESET.isSet v = false
     (plain → F.DMV_Q_CTL_EN.isSet v = true → u.flag (qCTL k) F.DMV_Q_CTL_EN = false → u.qState k = qsDISABLED →
       u.qSize k ≠ 0 → (u.ring k).resetting = false →
       (w.ringsAllowed k = true → Does on s
         (((w.setQState k qsRUNNING).setRing k { w.ring k with known := w.qTail k }).journalled s (qCTL k) by')) ∧
       (w.ringsAllowed k = false → Does on s
         ((((w.setQState k qsERROR).setFld (qSTATUS k) F.DMV_Q_STATUS_REASON qrRING_ADDR).raise
           (ringSource k)).journalled s (qCTL k) by'))) ∧
     (plain → F.DMV_Q_CTL_EN.isSet v = false →
       (u.qState k = qsRUNNING → Does off s
         (((z.setQState k qsDISABLED).setRing k { z.ring k with fetched := none }).journalled s (qCTL k) by')) ∧
       (u.qState k ≠ qsRUNNING → Does off s (z.journalled s (qCTL k) by'))) ∧
     (F.DMV_Q_CTL_RESET.isSet v = true → F.DMV_Q_CTL_RESET.isSet (s.reg (storeOf (qCTL k))) = false →
       let begun := if isJob k then u.jobRingReset k else u.queueReset k
       Does reset s (State.journalled (if F.DMV_Q_CTL_EN.isSet v then begun.qEnable k else begun.qDisable k) s (qCTL k)
         by'))
   (∀ (g : Fin 256) (q : Fin 16), ctl (queueKey g q) (.queueEnable g q v by') (.queueDisable g q v by')
     (.queueReset g q v by')) ∧
   (∀ (d : Fin 8) (r : Fin 32), ctl (jobKey d r) (.jobRingEnable d r v by') (.jobRingEnable d r v by')
     (.jobRingReset d r v by'))) ∧
  (∀ (g : Fin 256) (q : Fin 16), let k := queueKey g q
    (s.ring k).resetting = true → (s.transfers k).all Transfer.drained = true →
    let u := s.setTransfers k []
    Does (.queueResetDone g q) s
      ((u.setRing k { u.ring k with due := (u.ring k).due ++ (s.transfers k).map Transfer.record }).records k)) ∧
  (∀ (d : Fin 8) (r : Fin 32), let k := jobKey d r
    (s.ring k).resetting = true → ((s.jobs k).all fun j => s.jobDrained k j) = true →
    let u := (s.jobs k).foldl (fun u j => u.freeFrom k j) (s.setJobs k [])
    Does (.jobRingResetDone d r) s
      (((u.setRing k { u.ring k with due := (u.ring k).due ++ (s.jobs k).map Job.record }).records k).showWaits k))

/-- What the commands of 08_data_movers do besides those of a queue's registers (R104, R203, R207, R211, R217, R221, R226,
R229, R232). -/
def Obligations.MoverCommands : Prop := ∀ (s : State) (v : Word),
  (∀ (g : Fin 256) (k : Nat), s.pickQueue g = some k → isJob k = false →
    let w : State := { s with movers := { s.movers with last := Tab.set (fun _ => 4095) s.movers.last g k } }
    let u := w.countRead (w.runsOn k) 64
    let pa := w.itemAddr k (w.qStarted k)
    u.inHouse pa = true →
    Does (.descriptorFetch g) s
      (let r := u.memRead (u.qAccess k 0) (pa % 2 ^ 41) 64 true
       r.2.2.fetchAnswer k r.1 r.2.1)) ∧
  (∀ (g : Fin 256) (q : Fin 16) (ws : List Nat), let k := queueKey g q
    (s.ring k).fetched = some ws → s.mayStart k ws = true →
    let u := (s.setRing k { s.ring k with fetched := none }).startNext k
    let indexed := isIndexed (dType ws)
    let t : Transfer := ⟨s.qStarted k, ws, scDONE, if u.flag (qSTATUS k) F.DMV_Q_STATUS_ATTACHED then 16 else 0, 0, 0,
      u.runsOn k, indexed, cutMoves ws (if indexed then dIndexRuns ws else dRuns ws), [], none, 0, [], false, false, false,
      0⟩
    (∀ reason, u.descCheck (u.qCtx k) ws = some reason → Does (.descriptorStart g q) s
      (u.recordDue k { t.record with status := scDESCRIPTOR_ERROR, detail := reason })) ∧
    (u.descCheck (u.qCtx k) ws = none → Does (.descriptorStart g q) s
      ((u.setTransfers k (u.transfers k ++ [t])).submit (dieOf k)
        ⟨.queue k (s.qStarted k), u.qCtx k, u.qClass k, (dOperands ws).filterMap Operand.pages,
          (0, g, q, u.qSlot k (s.qStarted k)), none, [], none, false⟩))) ∧
  (∀ (g : Fin 256) (q : Fin 16) (t : Transfer), let k := queueKey g q
    (s.transfers k).find? Transfer.ended = some t → (s.ring k).resetting = false →
    s.fld (R.DMV_STATUS t.unit) F.DMV_STATUS_STATE ≠ 1 →
    Does (.descriptorComplete g q) s
      ((s.setTransfers k ((s.transfers k).filter fun x => x.number != t.number)).recordDue k t.record)) ∧
  (∀ p : Fin 32,
    let own := (s.port p).fork.filter fun h => h.src == s.ownId
    Does (.mcBranchTimeout p) s
      (own.foldl (fun u h => u.mcResolve h.tag (mcMask h.payload) true 32)
        (s.setPort p { s.port p with fork := (s.port p).fork.filter fun h => h.src != s.ownId }))) ∧
  (∀ g : Fin 256, s.fld (R.DMV_STATUS g) F.DMV_STATUS_STATE = 0 →
    let u := (s.setFld (R.DMV_STATUS g) F.DMV_STATUS_STATE 1).raise (256 + g)
    let u := u.noteLoss dkDATA_MOVER (g / 32) (u.fld (R.DMV_STATUS g) F.DMV_STATUS_PHYS)
    Does (.moverLost g) s ((u.movers.transfers.map Prod.fst).foldl (fun u k => u.fenceOff g k) u)) ∧
  (∀ g : Fin 256, s.fld (R.DMV_STATUS g) F.DMV_STATUS_STATE = 1 → (s.inProgress g).all Transfer.drained = true →
    (s.queuesOf g).isEmpty = false →
    Does (.moverLossDrained g) s
      (let u := ((s.queuesOf g).foldl State.closeOut s).setFld (R.DMV_STATUS g) F.DMV_STATUS_ATTACHED 0
       let r := (s.queuesOf g).foldl (State.rehome g) ([], u)
       r.1.foldl (fun u h => u.raise (256 + h))
         (if (s.queuesOf g).any fun k => r.2.qState k == qsLOST then r.2.raise (256 + g) else r.2))) ∧
  (∀ g : Fin 256, F.DMV_CTL_CNT_CLR.isSet v = true → Does (.dmvCntClr g v) s
    (((((s.written (R.DMV_CTL g) v).setReg (R.DMV_CNT_RD g) 0).setReg (R.DMV_CNT_WR g) 0).setReg (R.DMV_CNT_DESC g)
      0).setReg (R.DMV_CNT_STALL g) 0)) ∧
  (∀ (p : Fin 32) (h : Husk) (rest : List Husk), (s.port p).barriers = h :: rest →
    let u := s.setPort p { s.port p with barriers := rest }
    let body := if h.typ = Husk.MBAR then h.payload.drop 16 else h.payload
    (h.opx = 0 → Does (.barrierNotify p) s
      (let n := Word.ofBytes (body.take 8)
       (u.tokPost (n / 2 ^ 16 % 8) (n / 2 ^ 4 % 2 ^ 12) (n % 16)).answerHusk h scDONE [])) ∧
    (h.opx = 1 → u.badTarget { h with typ := Husk.BAR } = false → u.topState = stREADY → Does (.barrierNotify p) s
      (let r := u.memWrite ⟨h.ctx, h.cls, 0, 0⟩ h.addr (allBytes (Word.bytes 8 (Word.ofBytes (body.take 8))))
       r.2.answerHusk h r.1 [])))

/-- What the commands of jobs, tokens and engine registers do (R244, R248, R249, R251, R254, R255, R257, R259, R262,
R263, R292, R293). -/
def Obligations.JobCommands : Prop := ∀ (s : State) (v : Word) (by' : Origin),
  (∀ (d : Fin 8) (r : Fin 32), let k := jobKey d r
    s.mayFetch k = true → s.inHouse (s.itemAddr k (s.qStarted k)) = true →
    Does (.jobFetch d r) s
      (let f := s.memRead (s.qAccess k 0) (s.itemAddr k (s.qStarted k) % 2 ^ 41) 128 true
       f.2.2.fetchAnswer k f.1 f.2.1)) ∧
  (∀ (d : Fin 8) (r number : Nat) (ws : List Nat),
    let u := (s.jobRings d).foldl (fun u r => u.showWaits (jobKey d r)) s
    let w : State := { u with nme := { u.nme with last := Tab.set (fun _ => 31) u.nme.last d r } }
    let ended := fun (n c reason : Nat) => w.addJob (jobKey d r) ((startedJob number ws n 0 .finished).note c reason)
    u.releaseRing d (s.jobRings d) = some r → w.headJob (jobKey d r) = some (number, ws) →
    (∀ reason, w.checkHead d ws = .malformed reason → Does (.jobRelease d) s (ended 255 scDESCRIPTOR_ERROR reason)) ∧
    (w.checkHead d ws = .lost → Does (.jobRelease d) s (ended ((jobEngines d ws).headD 255) scUNIT_LOST 0)) ∧
    (w.checkHead d ws = .join → Does (.jobRelease d) s (ended 255 scDONE 0)) ∧
    (∀ n, w.checkHead d ws = .run n → Does (.jobRelease d) s (w.releaseRun (jobKey d r) number ws n))) ∧
  (∀ (n : Fin 16) (k : Nat) (j : Job), s.jobAt n = some (k, j) → j.phase = .loading →
    (∀ f t, s.loadRing n j.words = (some f, t) → Does (.jobProgramLoad n) s (t.loadFail k j f)) ∧
    (∀ t, s.loadRing n j.words = (none, t) →
      (∀ f l u, t.loadArgs n j.words = (some f, l, u) → Does (.jobProgramLoad n) s (u.loadFail k j f)) ∧
      (∀ args u, t.loadArgs n j.words = (none, args, u) →
        (∀ f e w, u.loadCode n j.words = (some f, e, w) → Does (.jobProgramLoad n) s (w.loadFail k j f)) ∧
        (∀ entry w, u.loadCode n j.words = (none, entry, w) →
          Does (.jobProgramLoad n) s
            (let x := w.setEngine n ((w.engine n).start j args entry)
             let x := (x.setEngineState n neRUNNING).setFld (R.NME_STATUS n) F.NME_STATUS_RING ((k - 4096) % 32)
             (x.setFld (R.NME_STATUS n) F.NME_STATUS_INDEX (x.qSlot k j.number)).setJob k { j with phase := .running }))))) ∧
  (∀ (d : Fin 8) (r : Fin 32) (j : Job), let k := jobKey d r
    (s.jobs k).find? (fun j => decide (j.phase = .finished) && s.jobDrained k j) = some j → (s.ring k).resetting = false →
    Does (.jobComplete d r) s
      (((s.setJobs k ((s.jobs k).filter fun x => x.number != j.number)).freeFrom k j).recordDue k j.record)) ∧
  (∀ d : Fin 8,
    let u := s.written (R.DSP_TOK_POST d) v
    Does (.dspTokPost d v) s (u.tokPost d (F.DSP_TOK_POST_INDEX.of v) (F.DSP_TOK_POST_GEN.of v))) ∧
  (∀ d : Fin 8,
    let u := s.written (R.DSP_TOK_CMD d) v
    let i := F.DSP_TOK_CMD_INDEX.of v
    (F.DSP_TOK_CMD_CMD.of v = 1 → Does (.tokClear d v) s (u.setFld (R.DSP_TOK d i) F.DSP_TOK_PRESENT 0)) ∧
    (F.DSP_TOK_CMD_CMD.of v = 2 → Does (.tokSet d v) s
      ((u.setFld (R.DSP_TOK d i) F.DSP_TOK_GEN (F.DSP_TOK_CMD_GEN.of v)).setFld (R.DSP_TOK d i) F.DSP_TOK_PRESENT
        (F.DSP_TOK_CMD_PRESENT.of v)))) ∧
  (∀ (n : Fin 16) (k slot : Nat) (j : Job), s.jobAt n = some (k, j) → j.phase = .spilling slot →
    Does (.spillDone n) s
      (let b := s.freeBytes spillBytes
       let u := (b.2.memWrite (b.2.spillAccess n) (b.2.spillAddr (n / 2) slot) (allBytes b.1)).2
       (u.setJob k { j with
         phase := if j.resumed then .waiting slot else .spilled slot, resumed := false }).freeEngine n)) ∧
  (∀ (n : Fin 16) (k slot : Nat) (j : Job) (e : EngineState), s.jobAt n = some (k, j) → j.phase = .waiting slot →
    j.saved = some e →
    let r := s.memRead (s.spillAccess n) (s.spillAddr (n / 2) slot) spillBytes true
    let u := r.2.2.setEngine n { e with job := some (k, j.number), live := false, nextId := (r.2.2.engine n).nextId }
    let w := (u.setJob k { j with phase := .held, saved := none }).setEngineState n neRUNNING
    Does (.reload n) s (if r.1 = scDONE then w.submitNext n
      else r.2.2.setJob k { j.note r.1 0 with phase := .finished, flags := j.flags ||| flagOf r.1 })) ∧
  (∀ n : Fin 16, s.takesPackets n = true →
    Does (.nmeLost n) s
      (let u := ((s.setEngineState n neLOST).raise (512 + 2 * n)).noteLoss dkNME n 0
       let u := (List.range 32).foldl (fun u r =>
         (u.jobs (jobKey (n / 2) r)).foldl (fun u j =>
           if j.engine = n.val ∧ j.phase ≠ .faulted ∧ j.phase ≠ .again then
             (u.dropWork (n / 2) (ofJob (jobKey (n / 2) r) j.number)).endJob (jobKey (n / 2) r) scUNIT_LOST j
           else u) u) u
       (u.setEngine n { u.engine n with live := false }).discardReceived n)) ∧
  (∀ n : Fin 16, F.NME_CTL_CNT_CLR.isSet v = true → Does (.nmeCntClr n v) s
    ((((s.written (R.NME_CTL n) v).setReg (R.NME_CNT_RUN n) 0).setReg (R.NME_CNT_RING n) 0).setReg (R.NME_CNT_SCR n) 0)) ∧
  (∀ n : Fin 16, Does (.srSeedWrite n v by') s ((s.written (R.NME_SR_SEED n) v).journalled s (R.NME_SR_SEED n) by'))

/-- What the commands of the engine ring do (R237 to R243). -/
def Obligations.RingCommands : Prop := ∀ (s : State) (v : Word) (by' : Origin),
  (∀ (n : Fin 16) (west : Bool) (flips : Word) (spoiled : Bool) (sent : RingPacket) (rest : List RingPacket),
    let p := 2 * n.val + west.toNat
    s.wire p = sent :: rest →
    let errs := Tab.get (fun _ => 0) (s.setWire p rest).nme.ring.errors p
    let counted := fun (k : Nat) => (s.setWire p rest).setRingNet { (s.setWire p rest).nme.ring with
      errors := Tab.set (fun _ => 0) (s.setWire p rest).nme.ring.errors p k }
    let odd := (bitsOf 64 flips.toNat).length % 2 = 1
    let x : RingPacket := { sent with header := sent.header ^^^ flips }
    (spoiled = true ∨ odd → Does (.ringPacketRx n west flips spoiled) s ((counted (errs + 1)).discardPacket p sent)) ∧
    (spoiled = false → ¬ odd →
      (x.sound = false → Does (.ringPacketRx n west flips spoiled) s ((counted 0).discardPacket p sent)) ∧
      (x.sound = true → x.dest = n → (counted 0).takesPackets n = true → Does (.ringPacketRx n west flips spoiled) s
        (let k := (counted 0).nme.ring.arrivals
         let q := ringQueue p x.stream
         State.setReceived ((counted 0).setRingNet { (counted 0).nme.ring with arrivals := k + 1 }) q
           ((counted 0).received q ++ [(k, x)]))) ∧
      (x.sound = true → x.dest = n → (counted 0).takesPackets n = false → Does (.ringPacketRx n west flips spoiled) s
        ((counted 0).discardPacket p x)) ∧
      (x.sound = true → x.dest ≠ n → Does (.ringPacketRx n west flips spoiled) s
        (let q := ringQueue p x.stream
         ((counted 0).setForwards q ((counted 0).forwards q ++ [x])).ringGo (ringAcross p))))) ∧
  (∀ (n : Fin 16) (west : Bool) (i : Fin 64), i < s.slotCount n → s.inHold = false →
    let p := 2 * n.val + west.toNat
    let u := s.setRingNet { s.nme.ring with slotNow := Tab.set (fun _ => 0) s.nme.ring.slotNow n (i + 1) }
    let e := u.slotEntry n west.toNat i
    (bit e 7 = false → Does (.ringSlotStart n west i) s (u.setSlot p none)) ∧
    (bit e 7 = true → u.nextPacket p (e % 16) = none → Does (.ringSlotStart n west i) s
      ((u.setSlot p none).bump (R.NME_CNT_RING n) F.NME_CNT_RING_FORGONE)) ∧
    (bit e 7 = true → (u.nextPacket p (e % 16)).isSome = true → Does (.ringSlotStart n west i) s
      ((u.setSlot p (some ⟨e % 16, u.now, u.beat.length * 6400 / u.slotCount n, 0⟩)).ringGo p))) ∧
  (∀ (n : Fin 16) (west : Bool),
    let p := 2 * n.val + west.toNat
    Does (.ringCreditReturn n west) s
      (State.ringGo (((List.range 16).flatMap fun st => [creditKey p st false, creditKey p st true]).foldl
        (fun (u : State) k =>
          let f := Tab.get (fun _ => 0) u.nme.ring.freed k
          u.setRingNet { u.nme.ring with
            used := Tab.set (fun _ => 0) u.nme.ring.used k (Tab.get (fun _ => 0) u.nme.ring.used k - f),
            freed := Tab.set (fun _ => 0) u.nme.ring.freed k 0 }) s) p)) ∧
  (∀ n : Fin 16,
    let u := s.written (R.NME_RING_ACT n) v
    (F.NME_RING_ACT_ARM.isSet v = true → Does (.ringTableArm n v by') s
      ((u.ringArm n (u.fld (R.NME_RING_ACT n) F.NME_RING_ACT_SLOTS_NEXT) (u.fld (R.NME_RING_ACT n)
        F.NME_RING_ACT_AT)).journalled s (R.NME_RING_ACT n) by')) ∧
    (F.NME_RING_ACT_ARM.isSet v = false → Does (.ringTableArm n v by') s (u.journalled s (R.NME_RING_ACT n) by'))) ∧
  (∀ n : Fin 16, s.ringWaits n = true → (s.jobAt n).isSome = true → Does (.ringWaitTimeout n) s
    (State.raise ((s.stopJob n scTIMEOUT 0).bump (R.NME_CNT_RING n) F.NME_CNT_RING_TMO) (513 + 2 * n)))

/-- The scalar instructions of 11_nme_instruction_set (R299, with x0 of R295 and NOP of R297). -/
def Obligations.ScalarCommands : Prop :=
  ∀ (n : Fin 16) (s : State) (w : Nat),
    let a := (s.engine n.val).get (sRS1 w)
    let b := (s.engine n.val).get (sRS2 w)
    let gives := fun (i : Instr) (op : Nat) (v : Word) => s.issuesPlain n.val w (op, 0) →
      Does i s (s.setEngine n.val ((s.engine n.val).put (sRD w) v).next)
    gives (.add n) 0x01 (a + b) ∧ gives (.sub n) 0x02 (a - b) ∧ gives (.mul n) 0x03 (a * b) ∧
    gives (.andOp n) 0x04 (a &&& b) ∧ gives (.orOp n) 0x05 (a ||| b) ∧ gives (.xorOp n) 0x06 (a ^^^ b) ∧
    gives (.sll n) 0x07 (a <<< (b.toNat % 64)) ∧ gives (.srl n) 0x08 (a >>> (b.toNat % 64)) ∧
    gives (.sra n) 0x09 (a.sshiftRight (b.toNat % 64)) ∧
    gives (.minOp n) 0x0A (if a.toInt < b.toInt then a else b) ∧
    gives (.maxOp n) 0x0B (if a.toInt < b.toInt then b else a) ∧
    gives (.addi n) 0x0C (a + BitVec.ofInt 64 (signedField w 31 0)) ∧
    gives (.li n) 0x0D (BitVec.ofInt 64 (signedField w 31 0)) ∧
    gives (.lui n) 0x0E ((BitVec.ofInt 64 (signedField w 31 0) <<< 32) ||| (a &&& 0xFFFFFFFF#64)) ∧
    (s.issuesPlain n.val w (0x10, 0) → Does (.nop n) s (s.setEngine n.val (s.engine n.val).next)) ∧
    ∀ (e : EngineState) (v : Word), e.get 0 = 0 ∧ e.put 0 v = e

/-- The control instructions of 11_nme_instruction_set (R300 to R304, R307, and FENCE of R105 and R334). -/
def Obligations.ControlCommands : Prop :=
  ∀ (n : Fin 16) (s : State) (w : Nat),
    let e := s.engine n.val
    let goesOn := s.setEngine n.val e.next
    (s.issuesPlain n.val w (0x11, 0) →
      (e.admitted = false → Does (.endOp n) s s) ∧
      ∀ k j, s.jobAt n.val = some (k, j) → e.admitted = true →
        Does (.endOp n) s ((s.setEngine n.val { e with live := false, ended := true }).setJob k { j with phase := .finished })) ∧
    (let a := e.get (fieldOf w 51 47)
     let b := e.get (fieldOf w 46 42)
     let holds := ([true, a == b, a != b, decide (a.toInt < b.toInt), decide (b.toInt ≤ a.toInt),
       decide (a.toNat < b.toNat), decide (b.toNat ≤ a.toNat)] : List Bool)[fieldOf w 55 52]?.getD true
     let target : Int := (e.pc : Int) + signedField w 23 0
     let inside := 0 ≤ target ∧ ∀ f, e.loops.head? = some f → (f.first : Int) ≤ target ∧ target < (f.after : Int)
     s.issuesPlain n.val w (0x12, 0) → fieldOf w 55 52 ≤ 6 →
      (holds = false → Does (.br n) s goesOn) ∧
      (holds = true → inside → Does (.br n) s (s.setEngine n.val { e with pc := target.toNat })) ∧
      (holds = true → (∀ f, e.loops.head? = some f → target < (f.first : Int) ∨ (f.after : Int) ≤ target) →
        (e.loops = [] → target < 0) → Does (.br n) s (s.stopReason n.val jrINSTRUCTION))) ∧
    (let after := e.pc + 1 + fieldOf w 11 0
     let count := (e.get (fieldOf w 51 47)).toNat % 2 ^ 32
     s.issuesPlain n.val w (0x13, 0) → fieldOf w 11 0 ≠ 0 → e.loops.length < 4 →
      (∀ f, e.loops.head? = some f → after ≤ f.after) →
      (count = 0 → Does (.loop n) s (s.setEngine n.val (e.goTo after))) ∧
      (count ≠ 0 → Does (.loop n) s
        (s.setEngine n.val { e with pc := e.pc + 1, loops := ⟨e.pc + 1, after, 0, count⟩ :: e.loops }))) ∧
    (let beat := (e.get (fieldOf w 51 47)).toNat % 2 ^ 48
     let slot := fieldOf w 45 40
     let begun := decide (slot < s.slotsBegun n.val)
     let aim := e.aim.getD (if beat ≤ s.beatNow ∧ begun then s.beatNow + 1 else max beat s.beatNow)
     s.issuesPlain n.val w (0x14, 0) →
      (bitOf w 46 = false → s.beatNow < beat → Does (.waitbeat n) s s) ∧
      (bitOf w 46 = false → beat ≤ s.beatNow → Does (.waitbeat n) s goesOn) ∧
      (bitOf w 46 = true → slot < s.slotCount n.val → (aim < s.beatNow ∨ (aim = s.beatNow ∧ begun = true)) →
        Does (.waitbeat n) s (s.setEngine n.val { e with aim := none }.next)) ∧
      (bitOf w 46 = true → ¬ (slot < s.slotCount n.val ∧ (aim < s.beatNow ∨ (aim = s.beatNow ∧ begun = true))) →
        Does (.waitbeat n) s (s.setEngine n.val { e with aim := some aim }))) ∧
    (let t := ((e.get (fieldOf w 51 47)).toNat + fieldOf w 15 0) % 2 ^ 16
     (s.issuesPlain n.val w (0x15, 0) →
      Does (.waittokScoreboard n) s (if s.tokPresent (n.val / 2) (t / 16) (t % 16) then goesOn else s)) ∧
     (s.issuesPlain n.val w (0x16, 0) →
      Does (.posttokScoreboard n) s (if e.accesses.any EngineAccess.write then s
        else (s.tokPost (fieldOf w 54 52) (t / 16) (t % 16)).retire n.val id))) ∧
    (let p := 2 * n.val + fieldOf w 46 46
     let q := ringQueue p (fieldOf w 45 42)
     s.issuesPlain n.val w (0x15, 1) →
      (s.received q = [] → Does (.waittokRing n) s s) ∧
      ∀ x rest, s.received q = x :: rest →
        (x.2.kind ≠ rkTOKEN → Does (.waittokRing n) s s) ∧
        (x.2.kind = rkTOKEN → Does (.waittokRing n) s
          (((s.setReceived q rest).freeCredit p x.2).retire n.val fun e => { e with ringUsed := true }))) ∧
    (s.issuesPlain n.val w (0x16, 1) → Does (.posttokRing n) s
      ((s.setEngine n.val { e with ringUsed := true }.next).ringSend (2 * n.val + fieldOf w 46 46)
        (RingPacket.make rkTOKEN (fieldOf w 41 38) n.val (fieldOf w 45 42) []))) ∧
    (let reads := e.accesses.all EngineAccess.write
     let written := !s.engineWritesWaiting n.val && s.sendsDone n.val
     s.issuesPlain n.val w (0x60, 0) →
      (fieldOf w 55 53 = 1 → Does (.fence n) s (if reads then goesOn else s)) ∧
      (fieldOf w 55 53 = 2 → Does (.fence n) s (if written then goesOn else s)) ∧
      (fieldOf w 55 53 = 3 → Does (.fence n) s (if reads && written then goesOn else s)) ∧
      (fieldOf w 55 53 = 4 → Does (.fence n) s (if e.accesses.isEmpty && s.sendsDone n.val then goesOn else s)))

/-- Special registers, scratch accesses and streams of 11_nme_instruction_set (R305, R306, R308 to R313). -/
def Obligations.StreamCommands : Prop :=
  ∀ (n : Fin 16) (s : State) (w : Nat) (hit : ScratchHit),
    let e := s.engine n.val
    let spr := fieldOf w 7 0
    let gen := gGEN w
    let a := e.get (gRS1 w)
    let b := e.get (gRS2 w)
    let sets := fun (i : Instr) (g : Generator) => Does i s (s.setEngine n.val (e.setGen gen g).next)
    (s.issuesPlain n.val w (0x17, 0) → spr ≤ 11 →
      Does (.rds n) s (s.setEngine n.val (e.put (fieldOf w 55 51) (BitVec.ofNat 64
        (([e.flags, s.fld (R.NME_SR_SEED n.val) F.NME_SR_SEED_STATE, s.beatNow, n.val + 16 * (n.val / 2), e.rowBase, e.rowCount,
          e.cycles, (s.slotsBegun n.val - 1) + 256 * s.slotCount n.val] : List Nat)[spr]?.getD
          (((e.loops[spr - 8]?).map LoopFrame.iteration).getD 0)))).next)) ∧
    (let v := (e.get (fieldOf w 55 51)).toNat
     s.issuesPlain n.val w (0x18, 0) →
      (spr = 1 → v % 2 ^ 32 = 0 → Does (.wrs n) s (s.retire n.val id)) ∧
      (spr = 1 → v % 2 ^ 32 ≠ 0 →
        Does (.wrs n) s ((s.setFld (R.NME_SR_SEED n.val) F.NME_SR_SEED_STATE (v % 2 ^ 32)).retire n.val id)) ∧
      (spr = 4 → Does (.wrs n) s (s.setEngine n.val { e with rowBase := v % 128 }.next)) ∧
      (spr = 5 → Does (.wrs n) s (s.setEngine n.val { e with rowCount := v % 128 }.next)) ∧
      (spr ≠ 1 → spr ≠ 4 → spr ≠ 5 → Does (.wrs n) s (s.stopReason n.val jrINSTRUCTION))) ∧
    (let at' := (e.get (fieldOf w 50 46) + BitVec.ofInt 64 (signedField w 23 0)).toNat
     at' % 8 = 0 → at' < 0x1800000 →
      (s.issuesPlain n.val w (0x19, 0) → (∀ x ∈ hit.ue ++ hit.ce, x.toNat / 8 ≠ at' / 8) →
        Does (.ldx n hit) s (s.setEngine n.val (e.put (fieldOf w 55 51)
          (BitVec.ofNat 64 (Word.ofBytes (readCells ramDefault e.scratch at' 8)))).next)) ∧
      (s.issuesPlain n.val w (0x1A, 0) →
        Does (.stx n) s (s.setEngine n.val { e with
          scratch := writeCells ramDefault e.scratch at' (Word.bytes 8 (e.get (fieldOf w 55 51)).toNat) }.next))) ∧
    ((e.gen gen).bound = true →
      (s.issuesPlain n.val w (0x20, 0) → a.toNat % 2 ^ 32 ≠ 0 → - 2 ^ 47 < b.toInt → b.toInt < 2 ^ 47 →
        sets (.gcfgLevel n) { e.gen gen with
          pattern := true, levels := (e.gen gen).levels.set (fieldOf w 51 48) (a.toNat % 2 ^ 32, b.toInt) }) ∧
      (s.issuesPlain n.val w (0x20, 4) →
        sets (.gcfgOffset n) { e.gen gen with offset := a.toNat % 2 ^ 48, cursor := 0 }) ∧
      (s.issuesPlain n.val w (0x20, 5) → - 2 ^ 47 < a.toInt → a.toInt < 2 ^ 47 →
        sets (.gcfgRowstride n) { e.gen gen with rowStride := a.toInt }) ∧
      (s.issuesPlain n.val w (0x20, 6) → a.toNat ≠ 0 → a.toNat ≤ 65536 →
        sets (.gcfgRun n) { e.gen gen with pattern := true, run := a.toNat }) ∧
      (let gi := fieldOf w 3 0
       let g := { e.gen gen with wide := bitOf w 4, index := gi, scale := a.toInt }
       s.issuesPlain n.val w (0x20, 7) →
        (bitOf w 31 = false → sets (.gcfgIndirect n hit) { e.gen gen with indirect := 0 }) ∧
        (bitOf w 31 = true → (e.gen gi).bound = true → (e.gen gi).wr = false → gi ≠ gen → (e.gen gi).indirect ≠ 1 →
          (bitOf w 5 = false → sets (.gcfgIndirect n hit) { g with indirect := 1 }) ∧
          (let x := e.gen gi
           let l := e.rows.map fun r => shiftRuns (x.rowTerm r) (x.runs (fun _ => 0) g.indexBytes x.cursor g.indexBytes)
           ∀ data u, bitOf w 5 = true → x.admitted = true → x.outside l.flatten = false →
            s.dataOf n.val hit gi l = some (data, u) →
            Does (.gcfgIndirect n hit) s (u.retire n.val fun y =>
              { y.setGen gen { g with indirect := 2, latched := (e.rows.zip data).foldl (fun t p =>
                  Tab.set (fun _ => 0) t p.1 (Word.ofBytes p.2)) [] } with
                accesses := y.accesses.filter EngineAccess.write }))))) ∧
    (let g := Generator.open' a.toNat b.toNat (bitOf w 37) (fieldOf w 36 35) (bitOf w 34)
     let o := streamOperand a.toNat b.toNat (bitOf w 37)
     s.issuesPlain n.val w (0x21, 0) → fieldOf w 36 35 ≠ 3 → (e.gen gen).bound = false →
      (bitOf w 34 = true → a.toNat + b.toNat ≤ 0x1800000 → sets (.sopen n) g) ∧
      (bitOf w 34 = false → s.operandAllowed (s.engineAccess n.val 0 0).ctx o = true → tooManyPages o = false →
        Does (.sopen n) s ((s.setEngine n.val (e.setGen gen g).next).submitStream n.val gen))) ∧
    (s.issuesPlain n.val w (0x22, 0) →
      ((e.gen gen).bound = false → Does (.sclose n) s (s.setEngine n.val e.next)) ∧
      ((e.gen gen).bound = true →
        ((e.gen gen).admitted = false ∨ (e.accesses.any fun x => x.gen == gen) = true → Does (.sclose n) s s) ∧
        ((e.gen gen).admitted = true → (e.accesses.any fun x => x.gen == gen) = false → sets (.sclose n) Generator.unbound)))

/-- The vector instructions of 11_nme_instruction_set (R323 to R329) on rows in force (R317). -/
def Obligations.LaneCommands : Prop :=
  ∀ (n : Fin 16) (s : State) (w : Nat) (hit : ScratchHit),
    let e := s.engine n.val
    let A := fun (r j : Nat) => (e.source (tAK w) (tA w) r (tN w)).getD j 0
    let D := fun (r j : Nat) => (e.source (tOP w 2) (tD w) r (tN w)).getD j 0
    let rows := fun (f : EngineState → Nat → EngineState) => s.setEngine n.val (e.rows.foldl f e).next
    let lanes := fun (i : Instr) (op : Nat) (form : EwForm) (f : Nat → Nat → Nat × Nat) =>
      s.issuesTile n.val w op (ewChecks form) → Does i s (rows fun x r => x.laneResult w r (f r))
    lanes (.ewMov n) 0x34 ⟨false, true, false⟩ (fun r j => Nf.mov (e.operandB w r j)) ∧
    lanes (.ewAdd n) 0x35 ⟨true, true, false⟩ (fun r j => Nf.add (A r j) (e.operandB w r j)) ∧
    lanes (.ewSub n) 0x36 ⟨true, true, false⟩ (fun r j => Nf.sub (A r j) (e.operandB w r j)) ∧
    lanes (.ewMul n) 0x37 ⟨true, true, false⟩ (fun r j => Nf.mul (A r j) (e.operandB w r j)) ∧
    lanes (.ewFma n) 0x38 ⟨true, true, true⟩ (fun r j => Nf.fma (A r j) (e.operandB w r j) (D r j)) ∧
    lanes (.ewMax n) 0x39 ⟨true, true, false⟩ (fun r j => Nf.max' (A r j) (e.operandB w r j)) ∧
    lanes (.ewMin n) 0x3A ⟨true, true, false⟩ (fun r j => Nf.min' (A r j) (e.operandB w r j)) ∧
    lanes (.ewAbs n) 0x3B ⟨true, false, false⟩ (fun r j => Nf.abs (A r j)) ∧
    lanes (.ewNeg n) 0x3C ⟨true, false, false⟩ (fun r j => Nf.neg (A r j)) ∧
    lanes (.ewRcp n) 0x3D ⟨true, false, false⟩ (fun r j => Nf.rcp (A r j)) ∧
    lanes (.ewRsqrt n) 0x3E ⟨true, false, false⟩ (fun r j => Nf.rsqrt (A r j)) ∧
    lanes (.exp2 n) 0x3F ⟨true, false, false⟩ (fun r j => Nf.exp2 (A r j)) ∧
    lanes (.scale n) 0x40 ⟨true, true, false⟩ (fun r j => Nf.scale (A r j) (e.operandB w r j)) ∧
    (s.issuesTile n.val w 0x41 rmaxChecks → Does (.rmax n) s (rows fun x r =>
      (x.setLanes (tB w) r 0 (e.lanes (tD w) r (tN w / 2 ^ tLG w))).accResult w r
        (((e.lanes (tD w) r (tN w / 2 ^ tLG w)).zip (e.groups w r)).map fun p => groupMax p.1 p.2))) ∧
    (let reduces := fun (i : Instr) (op : Nat) (f : Nat → Nat → Nat × Nat) => s.issuesTile n.val w op redChecks →
       (tBK w ≠ 3 → Does i s (rows fun x r => x.accResult w r
         (((e.lanes (tD w) r (tN w / 2 ^ tLG w)).zip (e.groups w r)).map fun p => redGroup f (tOP w 0) (tLG w) p.1 p.2))) ∧
       (∀ l u data v, tBK w = 3 → s.runsOf n.val hit (tGen w) e.rows false 0 (tK w * tN w * 4) = some (l, u) →
         u.dataOf n.val hit (tGen w) l = some (data, v) →
         let v := v.setEngine n.val ((v.engine n.val).advance (tGen w) (tK w * tN w * 4))
         Does i s (State.retire { v with free := v.free + tN w * e.rows.length } n.val fun x =>
           (e.rows.zip data).zipIdx.foldl (fun x p => x.accResult w p.1.1 ((List.range (tN w)).map fun j =>
             redLane f (tOP w 0) (Config.freeNat (v.free + tN w * p.2 + j)) ((e.lanes (tD w) p.1.1 (tN w)).getD j 0)
               ((List.range (tK w)).map fun k =>
                 Word.ofBytes ((Nf.chunksOf 4 (tK w * tN w) p.1.2).getD (k * tN w + j) [])))) x))
     reduces (.redSum n hit) 0x42 Nf.add ∧ reduces (.redMax n hit) 0x43 Nf.max' ∧ reduces (.redMin n hit) 0x44 Nf.min') ∧
    (let f := tFMT w
     s.issuesTile n.val w 0x48 cvtChecks →
      (tAK w = true → Does (.cvt n) s (rows fun x r =>
        let v := Nf.widen (Nf.decode f 0 (e.tileBytes (tA w) r 0 (Nf.bytesFor f (tN w))) (tN w))
        (x.setLanes (tD w) r 0 v.1).flag v.2)) ∧
      (tAK w = false → tOP w 2 = true → Does (.cvt n) s (rows fun x r =>
        let v := (e.lanes (tA w) r (tN w)).map fun v => Nf.narrow f (tOP w 0) (Fp.dec32 v)
        ((x.setTileBytes (tD w) r 0 (v.flatMap fun c => Word.bytes (Nf.elemBits f / 8) c.1)).setTags (tD w) (tDS w)
          f).flag (v.foldl (fun f c => f ||| c.2) 0))) ∧
      (tAK w = false → tOP w 2 = false → Does (.cvt n) s (rows fun x r => x.accResult w r
        ((e.lanes (tA w) r (tN w)).map fun v =>
          if f = Nf.fmINT32 then Nf.narrow f (tOP w 0) (Fp.dec32 v) else (Fp.enc32 (Nf.decInt 32 v), 0))))) ∧
    (let f := tFMT w
     let last := e.rows.zipIdx.foldl (fun (acc : EngineState × Nat) r =>
       let p := packRowBytes f (tOP w 0) (s.free + tN w * r.2) acc.2 ((e.lanes (tA w) r.1 (tN w)).map Fp.dec32)
       let x := (acc.1.setTileBytes (tD w) r.1 0 p.1).flag p.2.2.1
       (if f = Nf.fmINT8R then (List.range (tDS w)).foldl (fun x i => x.setRowScale (tD w + i) r.1 p.2.1) x else x,
         p.2.2.2)) (e, s.fld (R.NME_SR_SEED n.val) F.NME_SR_SEED_STATE)
     s.issuesTile n.val w 0x49 packChecks →
      Does (.pack n) s ((State.setFld { s with free := s.free + tN w * e.rows.length } (R.NME_SR_SEED n.val)
        F.NME_SR_SEED_STATE last.2).setEngine n.val (last.1.setTags (tD w) (tDS w) f).next)) ∧
    (s.issuesTile n.val w 0x4A unpackChecks → Does (.unpack n) s (rows fun x r =>
      let v := Nf.widen (Nf.decode (tFMT w) (e.rowScale (tA w) r)
        (e.tileBytes (tA w) r 0 (Nf.bytesFor (tFMT w) (tN w))) (tN w))
      (x.setLanes (tD w) r 0 v.1).flag v.2)) ∧
    (s.issuesTile n.val w 0x50 topkChecks → Does (.topk n) s (rows fun x r =>
      let top := (Nf.ranked (e.lanes (tA w) r (tN w))).take (tK w)
      ((x.setLanes (tD w) r 0 (top.map Prod.fst)).setLanes (tB w) r 0 (top.map Prod.snd)).flag
        (Nf.seen ((e.lanes (tA w) r (tN w)).map Fp.dec32))))

/-- The tile instructions of 11_nme_instruction_set that move data and multiply (R316, R319 to R322, R330). -/
def Obligations.TileCommands : Prop :=
  ∀ (n : Fin 16) (s : State) (w : Nat) (hit : ScratchHit),
    let e := s.engine n.val
    let g := tGen w
    let h := scaleGen w
    (s.issuesTile n.val w 0x30 ldtChecks → ∀ l u data v, s.runsOf n.val hit g e.rows false 0 (tN w) = some (l, u) →
      u.dataOf n.val hit g l = some (data, v) →
      let put := fun (v : State) => v.setEngine n.val ((e.rows.zip data).foldl (fun e p => e.setTileBytes (tD w) p.1 0 p.2)
        (((v.engine n.val).advance g (tN w)).setTags (tD w) (tDS w) (tFMT w)))
      (tFMT w ≠ Nf.fmINT8R → Does (.ldt n hit) s ((put v).retire n.val id)) ∧
      (∀ l2 u2 scales v2, tFMT w = Nf.fmINT8R →
        v.runsOf n.val hit h e.rows false (if h = g then tN w else 0) 4 = some (l2, u2) →
        u2.dataOf n.val hit h l2 = some (scales, v2) →
        Does (.ldt n hit) s ((put v2).retire n.val fun x =>
          (e.rows.zip scales).foldl (fun x p => (List.range (tDS w)).foldl (fun x i =>
            x.setRowScale (tD w + i) p.1 (Word.ofBytes p.2)) x) (x.advance h 4)))) ∧
    (s.issuesTile n.val w 0x31 sttChecks → ∀ l u, s.runsOf n.val ⟨[], []⟩ g e.rows false 0 (tN w) = some (l, u) →
      let put := fun (off : Nat) (v : State) => (e.rows.zip l).foldl (fun s p =>
        s.writeRuns n.val g p.2 (e.rowBytes (tAK w) (tA w) p.1 off (tN w))) v
      (tFMT w ≠ Nf.fmINT8R → Does (.stt n) s ((put (tK w) u).retire n.val fun x => x.advance g (tN w))) ∧
      (∀ l2 u2, tFMT w = Nf.fmINT8R →
        u.runsOf n.val ⟨[], []⟩ h e.rows false (if h = g then tN w else 0) 4 = some (l2, u2) →
        Does (.stt n) s (((e.rows.zip l2).foldl (fun s p =>
          s.writeRuns n.val h p.2 (Word.bytes 4 (e.rowScale (tA w) p.1))) (put 0 u2)).retire n.val fun x =>
            (x.advance g (tN w)).advance h 4))) ∧
    (s.issuesTile n.val w 0x32 mmaChecks → ∀ l u data v,
      s.runsOf n.val hit g e.rows true 0 (Nf.bytesFor (tFMT w) (tK w * tN w)) = some (l, u) →
      u.dataOf n.val hit g l = some (data, v) →
      let b := Nf.decode (tFMT w) 0 (data.headD []) (tK w * tN w)
      Does (.mma n hit) s ((v.setEngine n.val
          ((v.engine n.val).advance g (Nf.bytesFor (tFMT w) (tK w * tN w)))).retire n.val fun x =>
        e.rows.foldl (fun x r => x.accumulate w r (tN w) (Nf.chunkLen (tFMT w) (e.formatA w)) fun j =>
          (e.stationary w r (tK w)).zip (strided b j (tN w) (tK w))) x)) ∧
    (s.issuesTile n.val w 0x33 vmaChecks → ∀ l u data v,
      s.runsOf n.val hit g e.rows false 0 (Nf.bytesFor (tFMT w) (tK w * tN w)) = some (l, u) →
      u.dataOf n.val hit g l = some (data, v) →
      Does (.vma n hit) s ((v.setEngine n.val
          ((v.engine n.val).advance g (Nf.bytesFor (tFMT w) (tK w * tN w)))).retire n.val fun x =>
        (e.rows.zip data).foldl (fun x p =>
          let b := Nf.decode (tFMT w) 0 p.2 (tK w * tN w)
          let a := e.stationary w p.1 ((tLG w + 1) * tK w)
          x.accumulate w p.1 ((tLG w + 1) * tN w) (if tOP w 1 then 32 else Nf.chunkLen (tFMT w) (e.formatA w)) fun j =>
            (slab a (j / tN w * tK w) (tK w)).zip
              (if tOP w 1 then strided b (j % tN w) (tN w) (tK w) else slab b (j % tN w * tK w) (tK w))) x)) ∧
    (let x := e.gen g
     let l := e.rows.map fun r => (e.lanes (tA w) r (tN w)).map fun (i : Nat) =>
       ((x.offset : Int) + (r : Int) * x.rowStride + (i : Int) * x.scale, x.run)
     s.issuesTile n.val w 0x51 gathChecks → x.admitted = true → x.outside l.flatten = false → ∀ data u,
      s.dataOf n.val hit g l = some (data, u) →
      Does (.gath n hit) s (u.retire n.val fun y =>
        (e.rows.zip data).foldl (fun y p => y.setTileBytes (tD w) p.1 0 p.2)
          { y.setTags (tD w) (tDS w) (tFMT w) with accesses := y.accesses.filter EngineAccess.write }))

/-- The ring instructions (R331 to R333), and streams that are not there yet (R235, R310, R311, R336). -/
def Obligations.RingInstructions : Prop :=
  ∀ (n : Fin 16) (s : State) (w : Nat),
    let e := s.engine n.val
    let passes := fun (op : Nat) => s.issuesWord n.val w (op, 0) ∧ ∀ c ∈ ringChecks e w, c.2 = false
    (passes 0x58 → pDEST w ≠ n.val →
      let bs := e.rows.flatMap fun r => e.rowBytes (pKIND w) (pREG w) r 0 (pN w)
      Does (.send n) s ((Nf.chunksOf 256 bs.length bs).foldl (fun u part =>
          u.ringSend (2 * n.val + pPORT w) (RingPacket.make rkDATA (pDEST w) n.val (pSTREAM w) part))
        (s.setEngine n.val { e with ringUsed := true }.next))) ∧
    (let q := ringQueue (2 * n.val + pPORT w) (pSTREAM w)
     let u := State.recvGo n.val w (pN w * e.rows.length) (s.received q).length s
     let all := ((u.engine n.val).taken.map Prod.fst).getD 0 = pN w * e.rows.length
     passes 0x59 →
      (s.received q = [] → e.taken = none → Does (.recv n) s s) ∧
      (∀ x rest, s.received q = x :: rest → x.2.kind = rkTOKEN → e.taken = none → Does (.recv n) s s) ∧
      (all → pKIND w = false → Does (.recv n) s (u.retire n.val fun e => { e with taken := none })) ∧
      (all → pKIND w = true → Does (.recv n) s
        (u.retire n.val fun e => { e with taken := none }.setTags (pREG w) (pSPAN w) Nf.fmFP32)) ∧
      (¬ all → Does (.recv n) s u)) ∧
    (let u := State.rredGo n.val w (pCNT w * pN w * e.rows.length)
       ((s.received (ringQueue (2 * n.val) (pSTREAM w))).length + (s.received (ringQueue (2 * n.val + 1) (pSTREAM w))).length) s
     let all := ((u.engine n.val).taken.map Prod.fst).getD 0 = pCNT w * pN w * e.rows.length
     passes 0x5A → pKIND w = false → pCNT w ≠ 0 → pN w % 4 = 0 →
      (all → Does (.rred n) s (u.retire n.val fun e => { e with taken := none })) ∧ (¬ all → Does (.rred n) s u)) ∧
    (∀ (hit : ScratchHit) (gen : Nat) (rows : List Nat) (shared : Bool) (skip len : Nat)
       (k : List (List (Int × Nat)) → State → State) (kd : List (List Byte) → State → State),
      let g := e.gen gen
      let l := g.spans rows shared skip len fun _ _ => 0
      (g.admitted = false → s.withRuns n.val hit gen rows shared skip len k = s) ∧
      (g.admitted = true → g.indirect ≠ 1 → g.outside l.flatten = true →
        s.withRuns n.val hit gen rows shared skip len k = s.stopReason n.val (gen * 2 ^ 32 + jrEXTENT)) ∧
      (∀ l u data v, s.runsOf n.val hit gen rows shared 0 len = some (l, u) → u.dataOf n.val hit gen l = some (data, v) →
        s.consume n.val hit gen rows shared len kd = kd data (v.setEngine n.val ((v.engine n.val).advance gen len))) ∧
      (∀ l : List (List (Int × Nat)),
        let far := (s.farPieces g l.flatten).eraseDups
        let missing := far.filter fun u => (e.access gen u).isNone
        (missing ≠ [] → s.withData n.val hit gen l kd =
          missing.foldl (fun s u => s.engineAsk n.val gen u false (s.engineHusk n.val Husk.RD u.1 u.2 g.hint [])) s) ∧
        (missing = [] → (far.any fun u => (e.access gen u).any fun a => a.answer.isNone) = true →
          s.withData n.val hit gen l kd = s)))

/-- Issue and its stops (R237, R253, R294, R296, R317, R318, R338). -/
def Obligations.IssueStops : Prop :=
  ∀ (n : Fin 16) (s : State) (w : Nat) (hit : ScratchHit),
    let e := s.engine n.val
    let all : List Instr := [.add n, .sub n, .mul n, .andOp n, .orOp n, .xorOp n, .sll n, .srl n, .sra n, .minOp n, .maxOp n, .addi n, .li n,
      .lui n, .nop n, .endOp n, .br n, .loop n, .waitbeat n, .waittokScoreboard n, .waittokRing n,
      .posttokScoreboard n, .posttokRing n, .rds n, .wrs n, .ldx n hit, .stx n, .gcfgLevel n, .gcfgOffset n,
      .gcfgRowstride n, .gcfgRun n, .gcfgIndirect n hit, .sopen n, .sclose n, .ldt n hit, .stt n, .mma n hit,
      .vma n hit, .ewMov n, .ewAdd n, .ewSub n, .ewMul n, .ewFma n, .ewMax n, .ewMin n, .ewAbs n, .ewNeg n, .ewRcp n,
      .ewRsqrt n, .exp2 n, .scale n, .rmax n, .redSum n hit, .redMax n hit, .redMin n hit, .cvt n, .pack n, .unpack n,
      .topk n, .gath n hit, .send n, .recv n, .rred n, .fence n]
    let tiles : List (Instr × Nat × (EngineState → Nat → List (Nat × Bool))) := [((.ldt n hit), 0x30, ldtChecks), ((.stt n), 0x31, sttChecks), ((.mma n hit), 0x32, mmaChecks),
      ((.vma n hit), 0x33, vmaChecks), ((.ewMov n), 0x34, ewChecks formB), ((.ewAdd n), 0x35, ewChecks formAB),
      ((.ewSub n), 0x36, ewChecks formAB), ((.ewMul n), 0x37, ewChecks formAB), ((.ewFma n), 0x38, ewChecks formABD),
      ((.ewMax n), 0x39, ewChecks formAB), ((.ewMin n), 0x3A, ewChecks formAB), ((.ewAbs n), 0x3B, ewChecks formA),
      ((.ewNeg n), 0x3C, ewChecks formA), ((.ewRcp n), 0x3D, ewChecks formA), ((.ewRsqrt n), 0x3E, ewChecks formA),
      ((.exp2 n), 0x3F, ewChecks formA), ((.scale n), 0x40, ewChecks formAB), ((.rmax n), 0x41, rmaxChecks),
      ((.redSum n hit), 0x42, redChecks), ((.redMax n hit), 0x43, redChecks), ((.redMin n hit), 0x44, redChecks),
      ((.cvt n), 0x48, cvtChecks), ((.pack n), 0x49, packChecks), ((.unpack n), 0x4A, unpackChecks),
      ((.topk n), 0x50, topkChecks), ((.gath n hit), 0x51, gathChecks)]
    (∀ i ∈ all,
      (s.issues n.val = false → Does i s s) ∧
      (s.issues n.val = true → e.code.length ≤ e.pc → Does i s (s.stopReason n.val jrINSTRUCTION)) ∧
      (s.issues n.val = true → e.code[e.pc]? = some w → knownOpcode w = false →
        Does i s (s.stopReason n.val jrINSTRUCTION))) ∧
    (∀ x ∈ tiles, ∀ r, s.issuesWord n.val w (x.2.1, 0) → failing (tileChecks e w ++ x.2.2 e w) = some r →
      Does x.1 s (s.stopReason n.val r)) ∧
    (∀ x ∈ tiles, ∀ key, s.issuesWord n.val w key → key ≠ (x.2.1, 0) → Does x.1 s s) ∧
    (∀ l r, failing l = some r → (r, true) ∈ l ∧ ∀ c ∈ l, c.2 = true → r ≤ c.1) ∧
    (e.rowCount = 0 ∨ tN w = 0 → (jrZERO_DIM, true) ∈ tileChecks e w) ∧
    (96 < e.rowBase + e.rowCount → (jrINSTRUCTION, true) ∈ tileChecks e w) ∧
    (∀ k j c detail, s.jobAt n.val = some (k, j) →
      (s.stopJob n.val c detail) = (((s.setEngine n.val { e with live := false, taken := none, aim := none }).dropSends n.val).setJob k
        { j.note c detail with phase := .finished }))

/-- The commands of 12_regulation (R344 to R348, R352, R353, R357). -/
def Obligations.RegulationCommands : Prop := ∀ (s : State) (m : Fin 24) (v : Word) (by' : Origin),
  (∀ depth : Fin 8192,
    let r := R.RGL_STK_STATUS m.val
    let u := (s.setFld r F.RGL_STK_STATUS_Q depth.val).countThrottled m.val
    let tells := fun (v : State) (n : Nat) => if u.flag R.RGL_CTL F.RGL_CTL_QFB_EN then v.sendFeedback m.val n else v
    let does := fun (v : State) => Does (.qfbInterval m depth) s
      ((v.startInterval m.val).judgeHigh m.val (Tab.get (fun _ => 0) s.rgl.charged (16 * m.val + 15)))
    (u.fld R.RGL_QFB_CTL F.RGL_QFB_CTL_HIGH ≤ depth.val →
      does (tells ((u.setFld r F.RGL_STK_STATUS_CONGESTED 1).bump (R.RGL_STK_CNT m.val) F.RGL_STK_CNT_CONGESTED)
        (2 + s.overMinimum m.val))) ∧
    (depth.val < u.fld R.RGL_QFB_CTL F.RGL_QFB_CTL_HIGH → depth.val ≤ u.fld R.RGL_QFB_CTL F.RGL_QFB_CTL_LOW →
      does (tells (u.setFld r F.RGL_STK_STATUS_CONGESTED 0) 1)) ∧
    (u.fld R.RGL_QFB_CTL F.RGL_QFB_CTL_LOW < depth.val → depth.val < u.fld R.RGL_QFB_CTL F.RGL_QFB_CTL_HIGH →
      does (u.sendFeedback m.val 0))) ∧
  (∀ (u : State) (bytes : Nat),
    let r := R.RGL_STK_CNT m.val
    let n := u.bump r F.RGL_STK_CNT_HP_OVER
    (bytes * 10000 ≤ u.fld (R.RGL_STK_CFG m.val) F.RGL_STK_CFG_HPRES * 2048 → u.judgeHigh m.val bytes = u) ∧
    (u.fld (R.RGL_STK_CFG m.val) F.RGL_STK_CFG_HPRES * 2048 < bytes * 10000 →
      u.judgeHigh m.val bytes = if n.fld r F.RGL_STK_CNT_HP_OVER ≠ u.fld r F.RGL_STK_CNT_HP_OVER ∧
        n.fld r F.RGL_STK_CNT_HP_OVER % 256 = 0 then n.raise 94 else n)) ∧
  (∀ (src : Throttled) (n : Nat), Tab.get (fun _ => 0) s.rgl.sent m.val = n →
    (n = 1 → Does (.qfbClear src m) s ((List.range 16).foldl (fun s c =>
      s.setLambda (sourceOf src) m.val c (s.lambda (sourceOf src) m.val c - 1)) s)) ∧
    (2 ≤ n → Does (.qfbCongested src m) s ((bitsOf 15 (n - 2)).foldl (fun s c =>
      s.setLambda (sourceOf src) m.val c (min 7 (s.lambda (sourceOf src) m.val c + 1))) s))) ∧
  (∀ c : Fin 15,
    (let off := R.RGL_MIN m.val c.val
     Does (.rglRecompute (.minimum m c) v by') s
       (((s.written off v).setFld R.RGL_STATUS F.RGL_STATUS_PENDING 1).journalled s off by')) ∧
    ∀ k, let sum := ((List.range 15).map fun c => s.rglActive m.val c k).sum
      let min := s.rglActive m.val c.val k
      let avail := s.fld (R.STK_CAP m.val) F.STK_CAP_CAP - s.fld (R.RGL_STK_CFG m.val) F.RGL_STK_CFG_HPRES
      (s.rglLive m.val = false → s.rglNew m.val c.val k = 0) ∧
      (s.rglLive m.val = true → sum ≤ avail → s.rglNew m.val c.val k = min) ∧
      (s.rglLive m.val = true → avail < sum → s.rglNew m.val c.val k = min * avail / sum ∧
        s.rglNew m.val c.val k ≤ min)) ∧
  (let off := R.RGL_STK_CFG m.val
   Does (.rglRecompute (.stack m) v by') s
     (((s.written off v).setFld R.RGL_STATUS F.RGL_STATUS_PENDING 1).journalled s off by')) ∧
  (let t := (s.written R.RGL_CTL v).setFld R.RGL_STATUS F.RGL_STATUS_PENDING 1
   F.RGL_CTL_CNT_CLR.isSet v = false →
     Does (.rglRecompute .control v by') s (t.journalled s R.RGL_CTL by')) ∧
  (F.RGL_CTL_CNT_CLR.isSet v = true → Does (.rglCntClr v by') s
    ((((s.written R.RGL_CTL v).clearRegs ((List.range 24).flatMap fun m =>
      R.RGL_STK_CNT m :: (List.range 16).map fun c => R.RGL_CNT m c)).setFld R.RGL_STATUS F.RGL_STATUS_PENDING 1).journalled s
        R.RGL_CTL by')) ∧
  (let new := (List.range 24).flatMap fun m => s.rglRows m
   let changed := (List.range 24).filter fun m => effOf new m != effOf s.rgl.eff m
   let u := changed.foldl (fun s m => s.bump (R.RGL_STK_CNT m) F.RGL_STK_CNT_SCALINGS) s.rglStacks
   Does .rglRecomputeDone s
     (((((State.rglShow { u with rgl := { u.rgl with eff := new } }).setFld R.RGL_STATUS F.RGL_STATUS_SCALED s.rglMask).setFld
       R.RGL_STATUS F.RGL_STATUS_SCALED_ANY (if s.rglMask = 0 then 0 else 1)).setFld R.RGL_STATUS
       F.RGL_STATUS_PENDING 0).rglTell (s.fld R.RGL_STATUS F.RGL_STATUS_SCALED) s.rglMask changed)) ∧
  (F.RGL_TDF_CTL_ARM.isSet v = true → Does (.tdfArm v by') s
    (((s.written R.RGL_TDF_CTL v).setFld R.RGL_TDF_CTL F.RGL_TDF_CTL_ARMED 1).journalled s R.RGL_TDF_CTL by'))

/-- The commands of 13_thegief_lanes (R364 to R372, R374, R377). -/
def Obligations.LinkCommands : Prop := ∀ (s : State) (p : Fin 32) (lane : Fin 8) (v : Word) (by' : Origin) (us : Nat),
  let st := s.linkState p.val
  let x := s.lane p.val
  let ctl := R.LNK_CTL p.val
  let w := s.written ctl v
  let lkst := fun (u : State) (n : Nat) => u.setFld (R.LNK_STATUS p.val) F.LNK_STATUS_STATE n
  let active := st = lkUP ∧ bit (s.fld (R.LNK_STATUS p.val) F.LNK_STATUS_LANES) lane.val = true
  (F.LNK_CTL_EN.isSet v = true → F.LNK_CTL_RETRAIN.isSet v = false → F.LNK_CTL_CNT_CLR.isSet v = false →
    (w.linkState p.val = lkDISABLED → Does (.linkEnable p v by') s
      ((lkst w (if s.boot.portsFree then lkDETECT else lkRESET_HOLD)).journalled s ctl by')) ∧
    (w.linkState p.val ≠ lkDISABLED → Does (.linkEnable p v by') s (w.journalled s ctl by'))) ∧
  (F.LNK_CTL_EN.isSet v = false → F.LNK_CTL_RETRAIN.isSet v = false → F.LNK_CTL_CNT_CLR.isSet v = false →
    (w.linkState p.val ≠ lkUP → Does (.linkDisable p v by') s ((lkst w lkDISABLED).journalled s ctl by')) ∧
    (w.linkState p.val = lkUP → Does (.linkDisable p v by') s ((w.leaveUp p.val lkDISABLED 0).journalled s ctl by'))) ∧
  (F.LNK_CTL_EN.isSet v = true → F.LNK_CTL_RETRAIN.isSet v = true → F.LNK_CTL_CNT_CLR.isSet v = false →
    w.linkState p.val ≠ lkDISABLED → w.linkState p.val ≠ lkRESET_HOLD →
    (w.linkState p.val = lkUP → Does (.retrain p v by') s ((w.leaveUp p.val lkDETECT 0).journalled s ctl by')) ∧
    (w.linkState p.val ≠ lkUP → Does (.retrain p v by') s ((lkst w lkDETECT).journalled s ctl by'))) ∧
  (F.LNK_CTL_EN.isSet v = true → F.LNK_CTL_RETRAIN.isSet v = false → F.LNK_CTL_CNT_CLR.isSet v = true →
    (w.linkClear p.val).linkState p.val ≠ lkDISABLED →
    Does (.lnkCntClr p v by') s ((w.linkClear p.val).journalled s ctl by')) ∧
  (let u : State := { s with boot := { s.boot with portsFree := true } }
   (st = lkRESET_HOLD → Does (.resetHoldEnd p) s (lkst u lkDETECT)) ∧ (st ≠ lkRESET_HOLD → Does (.resetHoldEnd p) s u)) ∧
  (∀ lanes : Byte, 2 ≤ (bitsOf 8 lanes.toNat).length →
    (st = lkDETECT ∨ st = lkABSENT → Does (.detectSignal p lanes) s (s.enterAlign p.val)) ∧
    (st = lkABSENT → Does (.absentCheck p lanes) s (s.enterAlign p.val))) ∧
  (st = lkDETECT → Does (.detectTimeout p) s (lkst s lkABSENT)) ∧
  (st = lkALIGN ∨ st = lkEQ_SEARCH →
    (let u := s.setLane p.val { x with locked := setBit x.locked lane.val }
     ∀ inverted, Does (.symbolLock p lane inverted false) s
       (if inverted then u.setFld (R.LNK_LANES p.val) F.LNK_LANES_POL_INV
         (setBit (u.fld (R.LNK_LANES p.val) F.LNK_LANES_POL_INV) lane.val) else u)) ∧
    (let u := (s.setLane p.val { x with offRate := setBit x.offRate lane.val, locked := clearBit x.locked lane.val }).setFld
       (R.LNK_STATUS p.val) F.LNK_STATUS_REASON lrFREQ
     ∀ inverted, Does (.symbolLock p lane inverted true) s (if bit x.offRate lane.val then u else u.raise (610 + 4 * p.val)))) ∧
  (st = lkALIGN →
    let u := s.setLane p.val { x with search := 255 - s.fastLanes p.val }
    (s.fastLanes p.val = 0 → Does (.alignEnd p us) s (u.enterSearch p.val)) ∧
    (s.fastLanes p.val ≠ 0 → Does (.alignEnd p us) s (lkst u lkEQ_FAST))) ∧
  (∀ eyes : List Byte,
    (st = lkEQ_FAST →
      let u := (laneList.filter fun i => !bit x.search i).foldl (fun u i => u.judgeFast p.val i (eyes.getD i 0).toNat) s
      ((u.lane p.val).search = 0 → Does (.eqFastEnd p eyes us) s (lkst u lkLANE_CHECK)) ∧
      ((u.lane p.val).search ≠ 0 → Does (.eqFastEnd p eyes us) s (u.enterSearch p.val))) ∧
    (st = lkEQ_SEARCH → x.step < 16 →
      let u := s.setLane p.val { x with step := x.step + 1, best := laneList.map fun i => (if bit x.search i && decide ((x.best.getD i (0, 0)).1 < (eyes.getD i 0).toNat) then ((eyes.getD i 0).toNat, x.step)
            else x.best.getD i (0, 0)) }
      Does (.eqSearchStep p eyes) s (if x.step < 15 then
        (bitsOf 8 x.search).foldl (fun u i => u.setFld (R.LNK_LANE p.val i) F.LNK_LANE_CTLE (x.step + 1)) u else u)) ∧
    (st = lkUP → eyes.length = 8 → Does (.eyeMeasure p eyes) s
      (laneList.foldl (fun u i => u.setFld (R.LNK_LANE p.val i) F.LNK_LANE_EYE (eyes.getD i 0).toNat) s))) ∧
  (st = lkEQ_SEARCH → x.step = 16 → Does (.eqSearchEnd p us) s
    (lkst ((bitsOf 8 x.search).foldl (fun u i => u.judgeSearched p.val i (x.best.getD i (0, 0))) s) lkLANE_CHECK)) ∧
  (∀ (copies : List (Fin 8 × List Byte)) (l : List Byte),
    let good := (copies.map fun c => (c.1.val, c.2)).filter fun c => trainGood c.2
    let u := s.trainSeen p.val good (trainSym l 3)
    good.head?.map Prod.snd = some l →
    (lkALIGN ≤ st → st < lkLANE_CHECK → Does (.trainSetRx p copies us) s u) ∧
    (st = lkLANE_CHECK →
      (trainSym l 1 ≠ 0x11 → bit (trainSym l 6) 0 = false → Does (.trainSetRx p copies us) s u) ∧
      (trainSym l 1 = 0x11 ∨ bit (trainSym l 6) 0 = true →
        let r := if (u.lane p.val).crossed = 0 then u else u.linkReason p.val lrLANE_ORDER
        (∀ k g, widthChoice (r.fld ctl F.LNK_CTL_WIDTH_MASK) (r.usableLanes p.val) = some (k, g) →
          Does (.trainSetRx p copies us) s
            (lkst (r.setLane p.val { u.lane p.val with width := k, group := g, matched := 0 }) lkCONFIG)) ∧
        (widthChoice (r.fld ctl F.LNK_CTL_WIDTH_MASK) (r.usableLanes p.val) = none →
          Does (.trainSetRx p copies us) s (r.holdDown p.val lrWIDTH us)))) ∧
    (st = lkCONFIG →
      let n := if x.matches good then x.matched + 1 else 0
      let r := u.setLane p.val { u.lane p.val with matched := n }
      (n ≠ 8 → Does (.trainSetRx p copies us) s r) ∧ (n = 8 → Does (.trainSetRx p copies us) s (r.enterUp p.val us)))) ∧
  (st = lkLANE_CHECK → Does (.laneCheckTimeout p us) s (s.holdDown p.val lrFAR_TMO us)) ∧
  (st = lkCONFIG → Does (.configTimeout p us) s (s.holdDown p.val lrCONFIG_TMO us)) ∧
  (∀ r, s.holdDown p.val r us = State.raise (((((lkst s lkHELD_DOWN).setFld (R.LNK_STATUS p.val) F.LNK_STATUS_REASON r).setFld
    (R.LNK_STATUS p.val) F.LNK_STATUS_TRAIN_TIME us)).bump (R.LNK_CNT p.val) F.LNK_CNT_HELD) (609 + 4 * p.val)) ∧
  (st = lkHELD_DOWN → Does (.heldDownRetry p) s (lkst s lkDETECT)) ∧
  (active → Does (.alignLoss p lane) s
    (let u := s.bump (R.LNK_LANE p.val lane.val) F.LNK_LANE_ALIGN_LOSS
     if u.linkState p.val = lkUP then u.leaveUp p.val lkDETECT lrALIGN_LOSS else u)) ∧
  (∀ code disp, active →
    let u := (s.bump (R.LNK_LANE p.val lane.val) F.LNK_LANE_CODE_ERR code).bump (R.LNK_LANE p.val lane.val)
      F.LNK_LANE_DISP_ERR disp
    (code + disp < u.fld (R.LNK_CFG p.val) F.LNK_CFG_ERR_THRESH → Does (.errors p lane code disp) s u) ∧
    (u.fld (R.LNK_CFG p.val) F.LNK_CFG_ERR_THRESH ≤ code + disp →
      Does (.errors p lane code disp) s (if u.linkState p.val = lkUP then u.leaveUp p.val lkDETECT lrERRORS else u))) ∧
  (let u := s.bump (R.LNK_CNT p.val) F.LNK_CNT_ELASTIC
   (∀ fill : Fin 65, active →
     (fill.val ≤ 4 ∨ 60 ≤ fill.val → Does (.elastic p lane fill) s
       (if u.linkState p.val = lkUP then u.leaveUp p.val lkDETECT lrELASTIC else u)) ∧
     (4 < fill.val → fill.val < 60 → Does (.elastic p lane fill) s s)) ∧
   (st = lkUP → Does (.deskew p) s (if u.linkState p.val = lkUP then u.leaveUp p.val lkDETECT lrDESKEW else u))) ∧
  (st = lkUP → Does (.lossOfSignal p) s (s.leaveUp p.val lkDETECT lrLOSS_OF_SIGNAL)) ∧
  (∀ next r,
    let u := s.setLane p.val { x with retrained := true }
    let u := ((((lkst u next).setFld (R.LNK_STATUS p.val) F.LNK_STATUS_WIDTH 0).setFld (R.LNK_STATUS p.val)
      F.LNK_STATUS_LANES 0).setFld (R.LNK_STATUS p.val) F.LNK_STATUS_REASON r).bump (R.LNK_CNT p.val) F.LNK_CNT_RETRAINS
    let u := if u.topState = stREADY ∧ bit (u.fld R.TOP_REQ_LINKS F.TOP_REQ_LINKS_REQUIRED) p.val then
      u.setFld R.TOP_STATUS F.TOP_STATUS_REQ_LINK_DOWN 1 else u
    s.leaveUp p.val next r = ((u.portLost p.val s.portsInForce).showMet).raise (609 + 4 * p.val))

/-- Husks of 14_thegief_protocol_pods as a port receives and sends them (R384 to R396, R404, R540). -/
def Obligations.HuskCommands : Prop :=
  ∀ (s : State) (p : Fin 32) (hdr : BitVec 128) (payload : List Byte) (crc : BitVec 32) (h : Husk),
    let u := s.huskIn p.val hdr payload
    let rows : List (Nat × Instr) := [(Husk.RD, .rd p hdr payload crc), (Husk.WR, .wr p hdr payload crc),
      (Husk.AT, .atPost p hdr payload crc), (Husk.ATR, .atr p hdr payload crc), (Husk.MCW, .mcw p hdr payload crc),
      (Husk.BAR, .bar p hdr payload crc), (Husk.MBAR, .mbar p hdr payload crc), (Husk.RSP, .rsp p hdr payload crc),
      (Husk.CRD, .crd p hdr payload crc), (Husk.SNAP, .snap p hdr payload crc)]
    let takes := fun (t : Nat) => s.rxTakes p.val t hdr payload crc h
    let here := u.portKind p.val = pkPOD ∧ h.dest = u.ownId
    let v := if u.tagReused p.val h then u.auditHusk p.val 7 hdr else u
    let memory := here ∧ v.badTarget h = false ∧ regionOf h.addr ≠ .host ∧ regionOf h.addr ≠ .register ∧ v.topState = stREADY
    (∀ x ∈ rows, Husk.parse hdr payload = h →
      (s.linkState p.val ≠ lkUP → Does x.2 s s) ∧
      (s.linkState p.val = lkUP → h.typ = x.1 →
        (crc ≠ huskCrc hdr payload →
          Does x.2 s ((u.auditHusk p.val 1 hdr).bump (R.TGL_PORT_CNT p.val) F.TGL_PORT_CNT_CRC_ERR)) ∧
        (crc = huskCrc hdr payload → lenGood h = false → Does x.2 s (u.auditHusk p.val 3 hdr)) ∧
        (crc = huskCrc hdr payload → lenGood h = true → fieldsGood hdr h (u.portKind p.val == pkHOST) = false →
          Does x.2 s (u.auditHusk p.val 4 hdr)))) ∧
    (takes Husk.RD → memory →
      let r := v.memRead (huskAccess h) h.addr h.len true
      Does (.rd p hdr payload crc) s (r.2.2.answerHusk h r.1 r.2.1)) ∧
    (takes Husk.WR → memory →
      let r := v.memWrite (huskAccess h) h.addr (allBytes h.payload)
      Does (.wr p hdr payload crc) s (r.2.answerHusk h r.1 [])) ∧
    (takes Husk.AT → memory →
      let r := v.huskAtomic h
      Does (.atPost p hdr payload crc) s (r.2.2.answerHusk h r.1 [])) ∧
    (takes Husk.ATR → memory →
      let r := v.huskAtomic h
      Does (.atr p hdr payload crc) s (r.2.2.answerHusk h r.1 r.2.1)) ∧
    (here → v.badTarget h = false → regionOf h.addr = .register →
      (takes Husk.RD →
        let r := v.regRead (h.addr - regBase) h.len
        Does (.rd p hdr payload crc) s (r.2.answerHusk h scDONE r.1)) ∧
      (takes Husk.WR → Does (.wr p hdr payload crc) s ((v.regWriteBytes (h.addr - regBase) h.payload
        ⟨BitVec.ofNat 14 h.rid, BitVec.ofNat 6 h.src, true, false⟩).answerHusk h scDONE []))) ∧
    (here → v.badTarget h = false → regionOf h.addr = .host →
      let sent := v.sendRequest { h with dest := v.ownId, hops := 0 } (.relay h.src h.tag h.epoch h.cls)
      (takes Husk.RD → Does (.rd p hdr payload crc) s sent) ∧ (takes Husk.WR → Does (.wr p hdr payload crc) s sent)) ∧
    (∀ x ∈ rows.take 4, here → v.badTarget h = false → regionOf h.addr ≠ .host → regionOf h.addr ≠ .register →
      v.topState ≠ stREADY → takes x.1 → Does x.2 s (v.answerHusk h scABORTED [])) ∧
    (∀ x ∈ rows.take 4 ++ [(Husk.BAR, .bar p hdr payload crc)], here → v.badTarget h = true → takes x.1 →
      Does x.2 s ((v.auditHusk p.val 14 hdr).answerHusk h scDESCRIPTOR_ERROR [])) ∧
    (here → v.badTarget h = false → takes Husk.BAR → Does (.bar p hdr payload crc) s
      (v.setPort p.val { v.port p.val with barriers := (v.port p.val).barriers ++ [h] })) ∧
    (∀ x ∈ rows.take 4 ++ [(Husk.BAR, .bar p hdr payload crc), (Husk.RSP, .rsp p hdr payload crc)],
      u.portKind p.val = pkPOD → h.dest ≠ u.ownId → takes x.1 →
      (63 < h.hops + 1 → Does x.2 s ((u.bump R.TGL_CNT F.TGL_CNT_HOPS_DROP).auditHusk p.val 13 hdr)) ∧
      (∀ q, h.hops + 1 ≤ 63 → u.route h.dest = some q → Does x.2 s
        ((u.bump (R.TGL_PORT_CNT2 q) F.TGL_PORT_CNT2_FORWARDED).forwardHusk { h with hops := h.hops + 1 }))) ∧
    (∀ x ∈ [(Husk.MCW, Instr.mcw p hdr payload crc), (Husk.MBAR, .mbar p hdr payload crc)],
      u.portKind p.val = pkPOD → takes x.1 →
      let mask := mcMask h.payload
      let g := mcGroup h.payload
      let u := if (mask &&& u.ownBit) != 0 && u.flag (R.TGL_MC_STATE g) F.TGL_MC_STATE_LOCAL then
        u.deliverCopy p.val h hdr else u
      let t := ((s.huskIn p.val hdr payload).branches g).filter fun b => b.1 != p.val && (mask &&& b.2) != 0
      h.hops + 1 ≤ 63 → Does x.2 s ((t.foldl (fun u b => u.forkCopy b.1 { h with
        hops := h.hops + 1, payload := mcPrefix (mask &&& b.2) g ++ h.payload.drop 16 }) u).mcReport h
          (mask &&& ~~~ ((s.huskIn p.val hdr payload).branches g).foldl (fun (m : Word) b => m ||| b.2)
            (s.huskIn p.val hdr payload).ownBit) scLINK_DOWN)) ∧
    (takes Husk.RSP → here → h.mc = false → ∀ use, (u.tag h.src h.tag).busy = some use →
      ((u.tag h.src h.tag).epoch = h.epoch → h.src ≠ poolMulticast → Does (.rsp p hdr payload crc) s
        (((u.freeTagAt h.src h.tag).owe use.waiter h.status h.payload).serveTagWait h.src)) ∧
      ((u.tag h.src h.tag).epoch ≠ h.epoch → Does (.rsp p hdr payload crc) s
        (((u.auditHusk p.val 9 hdr).bump R.TGL_CNT F.TGL_CNT_STALE).portEvent p.val F.TGL_EVT_STALE))) ∧
    (takes Husk.RSP → here → h.mc = false → (u.tag h.src h.tag).busy = none →
      Does (.rsp p hdr payload crc) s (((u.auditHusk p.val 8 hdr).bump R.TGL_CNT F.TGL_CNT_STALE).portEvent p.val F.TGL_EVT_STALE)) ∧
    (takes Husk.CRD → Does (.crd p hdr payload crc) s
      (let r := if u.excessive p.val h then u.auditHusk p.val 6 hdr else u
       ((r.setPort p.val { r.port p.val with granted := h.freed }).showPips p.val).forkPump p.val)) ∧
    (takes Husk.SNAP → u.portKind p.val = pkPOD → Does (.snap p hdr payload crc) s (u.snapRx p.val h)) ∧
    (∀ x ∈ rows.take 4, u.portKind p.val = pkHOST → takes x.1 → h.dest ≠ u.ownId → regionOf h.addr ≠ .reserved →
      runInside h.addr (huskRun h) = true → Does x.2 s (u.sendRequest
        { h with src := u.ownId, rid := p.val / 4 * 2048 + 2047, hops := 0, cls := u.fld R.RGL_SRC_CLASS F.RGL_SRC_CLASS_HOST }
        (.adapter p.val h.tag h.epoch h.cls))) ∧
    (s.linkState p.val = lkUP →
      let r := s.bump (R.TGL_PORT_CNT p.val) F.TGL_PORT_CNT_FRAMING
      let r := (r.portEvent p.val F.TGL_EVT_FRAMING).audit p.val 2 0 0
      let c := R.TGL_PORT_CTL p.val
      Does (.framingError p) s
        (if r.flag c F.TGL_PORT_CTL_AUDIT && r.flag c F.TGL_PORT_CTL_NO_RETRAIN then r else r.linkRetrain p.val)) ∧
    (∀ i rest, (s.port p.val).txq = i :: rest →
      (s.linkState p.val = lkUP → i.cost.2 ≤ (s.port p.val).free i.cost.1 → Does (.huskSend p) s
        (State.forkPump (((((s.setPort p.val { s.port p.val with
          txq := rest, sent := addThird (s.port p.val).sent i.cost.1 i.cost.2 }).showPips p.val).bump
            (R.TGL_PORT_CNT2 p.val) F.TGL_PORT_CNT2_HUSKS_TX).emit (i.out p.val))) p.val)) ∧
      ((s.port p.val).free i.cost.1 < i.cost.2 → Does (.huskSend p) s s)) ∧
    (s.linkState p.val = lkUP → (s.port p.val).opened = false ∨ 0 < (s.port p.val).sinceCrd →
      let x := s.port p.val
      let r := { Husk.zero with typ := Husk.CRD, src := s.ownId, freed := x.credits }
      Does (.crdSend p) s (((s.setPort p.val { x with opened := true, sinceCrd := 0, crdSent := x.credits }).bump
        (R.TGL_PORT_CNT2 p) F.TGL_PORT_CNT2_HUSKS_TX).emit (.husk p.val r.header [] (huskCrc r.header [])))) ∧
    (∀ (pool : Fin 66) (tag : Fin 4096) (use : TagUse), (s.tag pool.val tag.val).busy = some use →
      let r := s.bump R.TGL_CNT F.TGL_CNT_TAG_TMO
      let r := if use.port < 32 then r.portEvent use.port F.TGL_EVT_TAG_TMO else r
      let r := (bitsOf 32 use.ports).foldl (fun r q => r.portEvent q F.TGL_EVT_TAG_TMO) r
      let r := if pool.val = poolMulticast then r.mcResolve tag.val use.targets true 2
        else (r.freeTagAt pool.val tag.val).owe use.waiter scTIMEOUT []
      Does (.tagTimeout pool tag) s ((r.setTag pool.val tag.val { r.tag pool.val tag.val with
        epoch := ((s.tag pool.val tag.val).epoch + 1) % 16 }).serveTagWait pool.val)) ∧
    (∀ m : Fin 64, s.routeIsHeld m.val = true → s.sentTo m.val = false → Does (.routeHoldEnd m) s
      ((Tab.get (fun _ => []) s.routeHeld m.val).foldl (fun r i => r.releaseItem m.val i)
        { s.setFld (R.TGL_ROUTE m.val) F.TGL_ROUTE_IN_USE (s.routeUse m.val) with
          routeHeld := Tab.set (fun _ => []) s.routeHeld m.val [] })) ∧
    (∀ i x, (s.port p.val).fork[i]? = some x → Does (.forkCopyDrop p i) s
      ((((s.setPort p.val { s.port p.val with fork := (s.port p.val).fork.eraseIdx i }).bump R.TGL_CNT
        F.TGL_CNT_MC_DROP).portEvent p.val F.TGL_EVT_MC_DROP).failCopy x scTIMEOUT 32))

/-- The control messages and the pod's own commands of 14_thegief_protocol_pods (R34, R391 to R403, R407). -/
def Obligations.PodCommands : Prop :=
  ∀ (s : State) (p port : Fin 32) (h : CtlHead) (hello : HelloBody) (join : JoinBody) (assign : AssignBody)
    (version : BitVec 32) (members : List MemberRow) (routes : List RouteRow) (groups : List GroupRow)
    (far id : BitVec 6) (level : BitVec 4) (number : BitVec 48) (code : Byte) (v : Word) (by' : Origin),
    let rows : List (CtlBody × Instr) := [(.join join, .join p h join), (.assign assign, .assign p h assign),
      (.members version members, .members p h version members), (.routes version routes, .routes p h version routes),
      (.groups version groups, .groups p h version groups), (.portDown port far, .portDown p h port far),
      (.portUp port far, .portUp p h port far), (.leave id, .leave p h id), (.stretch level, .stretch p h level),
      (.beatQuery, .beatQuery p h), (.beatReply number, .beatReply p h number), (.ack code version, .ack p h code version)]
    let u := fun (b : CtlBody) => s.ctlIn p.val h b
    let serves := (s.core s.ctlCore).state = csRUNNING
    let takes := fun (b : CtlBody) => serves ∧ s.linkState p.val = lkUP ∧ s.portKind p.val = pkPOD ∧ (u b).portKind p.val = pkPOD ∧
      (h.link = true ∨ h.dest.toNat = (u b).ownId)
    (∀ x ∈ rows ++ [(.hello hello, .hello p hello)],
      s.linkState p.val ≠ lkUP ∨ s.portKind p.val = pkHOST ∨ s.portKind p.val = pkDOWN → Does x.2 s s) ∧
    (∀ x ∈ rows, s.linkState p.val = lkUP → s.portKind p.val = pkFOREIGN → (u x.1).portKind p.val = pkFOREIGN →
      Does x.2 s (u x.1)) ∧
    (∀ x ∈ rows, s.linkState p.val = lkUP → s.portKind p.val = pkPOD → (u x.1).portKind p.val = pkPOD →
      h.dest.toNat ≠ s.ownId → h.link = false → h.dest.toNat ≠ (u x.1).ownId →
      (63 < h.hops + 1 → Does x.2 s (((u x.1).bump R.TGL_CNT F.TGL_CNT_HOPS_DROP).auditHusk p.val 13 (ctlHdr h x.1))) ∧
      (∀ q, h.hops + 1 ≤ 63 → (u x.1).route h.dest.toNat = some q → Does x.2 s
        (((u x.1).bump (R.TGL_PORT_CNT2 q) F.TGL_PORT_CNT2_FORWARDED).enqueue q (.ctl { h with hops := h.hops + 1 } x.1)))) ∧
    (¬ serves → s.linkState p.val = lkUP → s.portKind p.val = pkPOD →
      (∀ x ∈ rows, h.link = true ∨ h.dest.toNat = s.ownId → Does x.2 s (s.ctlHold p.val h x.1)) ∧
      Does (.hello p hello) s (s.ctlHold p.val linkHead (.hello hello))) ∧
    (let w := s.ctlIn p.val linkHead (.hello hello)
     let w := w.setPort p.val { w.port p.val with far := some (farEnd hello) }
     let best := (hello.bestRole.toNat, hello.bestSerial.toNat)
     let mine := w.bestKnown.getD (2, w.fld R.TGL_MASTER_SERIAL F.TGL_MASTER_SERIAL_SERIAL, true)
     serves → s.linkState p.val = lkUP → s.portKind p.val = pkPOD →
     (w.podState = psMEMBER ∨ w.podState = psMASTER →
       (hello.elected = false → Does (.hello p hello) s (w.sendHello p.val)) ∧
       (hello.elected = true → best.2 = w.fld R.TGL_MASTER_SERIAL F.TGL_MASTER_SERIAL_SERIAL →
         Does (.hello p hello) s (w.reportUp p.val)) ∧
       (hello.elected = true → best.2 ≠ w.fld R.TGL_MASTER_SERIAL F.TGL_MASTER_SERIAL_SERIAL →
         (hello.ready = true ∨ w.topState = stREADY → Does (.hello p hello) s (w.holdForeign p.val)) ∧
         (hello.ready = false → w.topState ≠ stREADY → better best (mine.1, mine.2.1) = true →
           let x := (w.portEvent p.val F.TGL_EVT_POD).dropId
           Does (.hello p hello) s
             (State.sendJoin { x with pod := { x.pod with best := some (best.1, best.2, true) } } p.val)))) ∧
     (w.podState ≠ psMEMBER → w.podState ≠ psMASTER →
       (hello.elected = true → w.hasId = false → w.podState ≠ psJOINING → Does (.hello p hello) s
         ((State.sendJoin { w with pod := { w.pod with best := some (best.1, best.2, true) } } p.val).sendHellos)) ∧
       (∀ r n, hello.elected = false → w.bestKnown = some (r, n, false) →
         (better best (r, n) = true → Does (.hello p hello) s
           (State.sendHellos { w with pod := { w.pod with best := some (best.1, best.2, false) } })) ∧
         (better best (r, n) = false → Does (.hello p hello) s w)))) ∧
    (s.role ≠ 2 → s.podState = psELECTING ∨ s.podState = psALONE →
      (∀ r n, s.pod.best = none ∨ (s.pod.best = some (r, n, false) ∧ better (s.role, s.serial) (r, n) = true) →
        Does .masterElected s s.becomeMaster)) ∧
    (s.role = 2 ∨ (s.podState ≠ psELECTING ∧ s.podState ≠ psALONE) → Does .masterElected s s) ∧
    (takes (.join join) →
      let join' := if h.link then { join with port := p } else join
      ((u (.join join)).isMaster = true → Does (.join p h join) s
        ((u (.join join)).assignId (if h.link then (u (.join join)).ownId else h.src.toNat) join')) ∧
      ((u (.join join)).isMaster = false → h.link = true → (u (.join join)).podState = psMEMBER →
        let w := u (.join join)
        Does (.join p h join) s (State.toMaster { w with pod := { w.pod with
          sponsored := (w.pod.sponsored.filter fun e => e.1 != join.serial.toNat) ++ [(join.serial.toNat, p.val)] } }
          (.join join')))) ∧
    (takes (.assign assign) →
      let w := u (.assign assign)
      (h.link = true → assign.serial.toNat = w.serial → w.podState = psJOINING →
        let x := (w.setPod F.TGL_POD_STATUS_ID_VALID 1).setPod F.TGL_POD_STATUS_ID assign.id.toNat
        let x : State := { x with pod := { x.pod with sponsor := some p.val }, beat := { x.beat with rejoin := true } }
        Does (.assign p h assign) s ((((x.adoptMaster assign.masterId.toNat assign.masterSerial.toNat).portEvent p.val
          F.TGL_EVT_POD).sendHellos).toMaster .beatQuery)) ∧
      (∀ e, h.link = false → (w.pod.sponsored.find? fun e => e.1 == assign.serial.toNat) = some e →
        Does (.assign p h assign) s (State.sendCtl
          { w with pod := { w.pod with sponsored := w.pod.sponsored.erase e } } e.2 0 true (.assign assign)))) ∧
    (∀ x ∈ [(CtlBody.routes version routes, Instr.routes p h version routes, 5,
        fun w : State => (w.applyRoutes routes).upstreamFollow.stretchPump),
        (.groups version groups, .groups p h version groups, 6, fun w : State => w.applyGroups groups)],
      takes x.1 →
      let w := u x.1
      let ack : CtlBody := .ack (BitVec.ofNat 8 x.2.2.1) version
      (w.isMaster = true ∨ w.hasId = false → Does x.2.1 s w) ∧
      (w.isMaster = false → w.hasId = true →
        (h.src.toNat ≠ w.masterId ∨ w.podFld F.TGL_POD_STATUS_VERSION ≤ version.toNat → Does x.2.1 s
          ((((x.2.2.2 (w.setPod F.TGL_POD_STATUS_MASTER_ID h.src.toNat)).setPod F.TGL_POD_STATUS_VERSION
            version.toNat).portEvent p.val F.TGL_EVT_POD).toMaster ack)) ∧
        (h.src.toNat = w.masterId → version.toNat < w.podFld F.TGL_POD_STATUS_VERSION → Does x.2.1 s (w.toMaster ack)))) ∧
    (takes (.members version members) →
      let w := u (.members version members)
      let ack : CtlBody := .ack 4 version
      w.isMaster = false → w.hasId = true →
        (h.src.toNat ≠ w.masterId ∨ w.podFld F.TGL_POD_STATUS_VERSION ≤ version.toNat →
          Does (.members p h version members) s
          (((((w.setPod F.TGL_POD_STATUS_MASTER_ID h.src.toNat).membersTake h members).setPod F.TGL_POD_STATUS_VERSION
            version.toNat).portEvent p.val F.TGL_EVT_POD).toMaster ack).leaveDone) ∧
        (h.src.toNat = w.masterId → version.toNat < w.podFld F.TGL_POD_STATUS_VERSION →
          Does (.members p h version members) s (w.toMaster ack).leaveDone)) ∧
    (takes (.portDown port far) → (u (.portDown port far)).isMaster = true →
      Does (.portDown p h port far) s ((u (.portDown port far)).linkDown h.src.toNat port.val)) ∧
    (takes (.portUp port far) → (u (.portUp port far)).isMaster = true →
      Does (.portUp p h port far) s ((u (.portUp port far)).linkUp h.src.toNat port.val far.toNat)) ∧
    (takes (.leave id) →
      let w := u (.leave id)
      (w.isMaster = true → w.members.contains id.toNat = true → id.toNat ≠ w.ownId →
        Does (.leave p h id) s (w.removeMember id.toNat true)) ∧
      (w.isMaster = false → w.podState = psMEMBER → id.toNat = w.masterId →
        Does (.leave p h id) s ((w.portEvent p.val F.TGL_EVT_POD).elect))) ∧
    (takes (.stretch level) →
      let w := u (.stretch level)
      (w.isMaster = true → w.members.contains h.src.toNat = true → Does (.stretch p h level) s
        { w with beat := { w.beat with levels := Tab.set (fun _ => 0) w.beat.levels h.src.toNat level.toNat } }) ∧
      (w.isMaster = false → Does (.stretch p h level) s w)) ∧
    (takes .beatQuery →
      let w := u .beatQuery
      (w.isMaster = true → Does (.beatQuery p h) s (w.sendCtlTo h.src.toNat (.beatReply (BitVec.ofNat 48 w.beatNow)))) ∧
      (w.isMaster = false → Does (.beatQuery p h) s w)) ∧
    (takes (.beatReply number) →
      let w := u (.beatReply number)
      Does (.beatReply p h number) s (State.setFld { w with beat := { w.beat with rejoin := false } } R.TGL_BEAT_NOW
        F.TGL_BEAT_NOW_NUMBER (max w.beatNow number.toNat))) ∧
    (takes (.ack code version) →
      let w := u (.ack code version)
      Does (.ack p h code version) s { w with pod := { w.pod with
        unacked := w.pod.unacked.filter fun e => e != (h.src.toNat, code.toNat, version.toNat) } }) ∧
    ((s.isMaster = true → Does .ctlResend s (s.pod.unacked.foldl (fun u e => u.sendTable e.1 e.2.1) s)) ∧
      (s.isMaster = false → Does .ctlResend s s)) ∧
    (∀ m : Fin 64,
      (s.isMaster = true → (s.pod.unacked.any fun e => e.1 == m.val) = true → s.members.contains m.val = true →
        Does (.memberRemove m) s (s.removeMember m.val false)) ∧
      (s.isMaster = false ∨ (s.pod.unacked.any fun e => e.1 == m.val) = false → Does (.memberRemove m) s s)) ∧
    (let w := s.written R.TGL_POD_CTL v
     (F.TGL_POD_CTL_LEAVE.isSet v = true → w.topState ≠ stREADY → Does (.podLeave v) s w.podEvent.dropId) ∧
     (w.topState = stREADY → Does (.podLeave v) s w)) ∧
    (let r := R.TGL_PORT_CTL p
     let w := s.written r v
     (F.TGL_PORT_CTL_CNT_CLR.isSet v = true → F.TGL_PORT_CTL_LOG_CLR.isSet v = false → Does (.tglPortCntClr p v by') s
       ((w.clearRegs [R.TGL_PORT_CNT p, R.TGL_PORT_CNT2 p]).journalled s r by')) ∧
     (F.TGL_PORT_CTL_CNT_CLR.isSet v = false → F.TGL_PORT_CTL_LOG_CLR.isSet v = true → Does (.tglLogClr p v by') s
       ((w.resetRegs fun off => (R.TGL_AUD_STATUS p ≤ off && off < R.TGL_AUD_STATUS (p + 1)) ||
         (R.TGL_AUD_LOG p 0 0 ≤ off && off < R.TGL_AUD_LOG (p + 1) 0 0)).journalled s r by')))

/-- What the commands of a request port with nothing else in it do (R412 to R421). -/
def Obligations.SiteRequests : Prop :=
  ∀ (s : State) (d : Fin 8) (p : Fin 64) (w : BitVec 128),
    let k := 64 * d.val + p.val
    let c : SiteCommand := ⟨w, [], false, false⟩
    let t := s.setSitePort k ⟨[c], []⟩
    let a := tdAddr w % 2 ^ 41
    let mine := tdAddr w / 2 ^ 41 = t.ownId
    let next := fun (u : State) => u.sitePump 1 k
    (s.siteOpen d.val = true → s.siteFenced k = false → s.sitePort k = ⟨[], []⟩ →
     Word.slice w.toNat 127 120 = tdChk w →
     (∀ x ∈ [(tdRD, Instr.tdiRd d p w), (tdFENCE, .tdiFence d p w)], tdOp w = x.1 → t.tdCheck k c ≠ scDONE →
       Does x.2 s (next (t.siteEnd k c (t.tdCheck k c) []))) ∧
     (tdOp w = tdRD → t.tdCheck k c = scDONE → mine → regionOf a ≠ .host → regionOf a ≠ .register →
       let r := t.memRead (t.siteAccess k w) a (64 * (tdLen w + 1)) true
       Does (.tdiRd d p w) s (next (r.2.2.siteEnd k c r.1 r.2.1))) ∧
     (tdOp w = tdRD → t.tdCheck k c = scDONE → mine → regionOf a = .register →
       let r := t.regRead (a - regBase) (64 * (tdLen w + 1))
       Does (.tdiRd d p w) s (next (r.2.siteEnd k c scDONE r.1))) ∧
     (tdOp w = tdRD → t.tdCheck k c = scDONE → ¬ mine ∨ regionOf a = .host →
       let u := t.siteTake k c
       let u := u.setSitePort k { u.sitePort k with
         out := (u.sitePort k).out ++ [⟨tdTag w, tdRD, tdToReg w, 1, scDONE, []⟩] }
       Does (.tdiRd d p w) s (next (u.sendRequest
         (t.siteHusk k Husk.RD (tdAddr w) (64 * (tdLen w + 1)) (tdHint w) []) (.site (k / 64) (k % 64) (tdTag w))))) ∧
     (tdOp w = tdFENCE → t.tdCheck k c = scDONE →
       (t.siteFenceKept k (tdAop w) = true → Does (.tdiFence d p w) s (next (t.siteEnd k c scDONE []))) ∧
       (t.siteFenceKept k (tdAop w) = false → Does (.tdiFence d p w) s t)) ∧
     (∀ x ∈ [(tdWR, Instr.tdiWr d p w), (tdAT, .tdiAt d p w), (tdATR, .tdiAtr d p w)], tdOp w = x.1 → Does x.2 s t) ∧
     (tdOp w = tdWAITTOK → t.tdCheck k c ≠ scDONE →
       Does (.tdiWaittok d p w) s (next (t.siteEnd k c (t.tdCheck k c) []))) ∧
     (tdOp w = tdWAITTOK → t.tdCheck k c = scDONE →
       let c' : SiteCommand := ⟨w, [], false, true⟩
       let u := t.setSitePort k ⟨[c'], []⟩
       (u.siteToken w = true → Does (.tdiWaittok d p w) s (u.siteEnd k c' scDONE [])) ∧
       (u.siteToken w = false → Does (.tdiWaittok d p w) s u))) ∧
    (∀ (flits : List (List (Option Byte))) (data : BitVec 512) (mask : BitVec 64) (parity : Byte),
     let c : SiteCommand := ⟨w, flits, false, false⟩
     let bs := flitBytes data mask w
     let c' : SiteCommand := ⟨w, flits ++ [bs], flitParity data.toNat != parity, false⟩
     let t := s.setSitePort k ⟨[c'], []⟩
     s.siteOpen d.val = true → s.siteFenced k = false → s.sitePort k = ⟨[c], []⟩ → c.held < 256 →
     flits.length + 1 = tdFlits w → tdOp w ≠ tdWAITTOK →
     (t.tdCheck k c' ≠ scDONE →
       Does (.tdiDataFlit d p data mask parity) s (next (t.siteEnd k c' (t.tdCheck k c') []))) ∧
     (tdOp w = tdWR → t.tdCheck k c' = scDONE → tdAddr w / 2 ^ 41 = t.ownId → regionOf a ≠ .host → regionOf a ≠ .register →
       let r := t.memWrite (t.siteAccess k w) a (c'.flits.flatMap id)
       Does (.tdiDataFlit d p data mask parity) s (next (r.2.siteEnd k c' r.1 []))) ∧
     (tdOp w = tdAT ∨ tdOp w = tdATR → t.tdCheck k c' = scDONE → tdAddr w / 2 ^ 41 = t.ownId → regionOf a = .buffer →
       let o := tdOperands c'
       let o := if tdAop w = 2 then (o.2, o.1) else o
       let r := t.memAtomic (t.siteAccess k w) a (tdAop w) (tdSize w) (Word.ofBytes o.1) (Word.ofBytes o.2)
       Does (.tdiDataFlit d p data mask parity) s (next (r.2.2.siteEnd k c' r.1 r.2.1))))

/-- What the commands of a request port and a site's grant do (R413 to R423, R428). -/
def Obligations.SiteCommands : Prop := ∀ (s : State) (d : Fin 8) (p : Fin 64) (v : Word) (by' : Origin),
  (∀ (w : BitVec 128) (op : Nat) (i : Instr),
    (op, i) ∈ [(tdRD, .tdiRd d p w), (tdWR, .tdiWr d p w), (tdAT, .tdiAt d p w), (tdATR, .tdiAtr d p w),
      (tdFENCE, .tdiFence d p w), (tdWAITTOK, .tdiWaittok d p w)] →
    tdOp w = op → s.siteOpen d = true → s.siteFenced (64 * d + p) = false →
    (s.sitePort (64 * d + p)).queue.length < 64 → Word.slice w.toNat 127 120 = tdChk w →
    (s.sitePort (64 * d + p)).tagBusy (tdTag w) = false → (s.sitePort (64 * d + p)).waits < 16 →
    Does i s ((s.setSitePort (64 * d + p) { s.sitePort (64 * d + p) with
      queue := (s.sitePort (64 * d + p)).queue ++ [⟨w, [], false, false⟩] }).siteGo (64 * d + p))) ∧
  (∀ (data : BitVec 512) (mask : BitVec 64) (parity : Byte), s.siteOpen d = true → s.siteFenced (64 * d + p) = false →
    ((s.sitePort (64 * d + p)).queue.map SiteCommand.held).sum < 256 →
    (s.sitePort (64 * d + p)).queue.any SiteCommand.lacking = true →
    Does (.tdiDataFlit d p data mask parity) s
      ((s.setSitePort (64 * d + p) { s.sitePort (64 * d + p) with
        queue := giveFlit (flitBytes data mask) (flitParity data.toNat != parity) (s.sitePort (64 * d + p)).queue }).siteGo (64 * d + p))) ∧
  (∀ (tag : Fin 1024) (c : SiteCommand),
    ((s.sitePort (64 * d + p)).queue.find? fun c => tdTag c.word == tag.val && c.waiting) = some c →
    Does (.tdiWaittokTimeout d p tag) s ((s.siteEnd (64 * d + p) c scTIMEOUT []).siteGo (64 * d + p))) ∧
  (F.TDI_PORT_CFG_UNFENCE.isSet v = true → s.siteFenced (64 * d + p) = true →
    s.fld (tdStatus (64 * d + p)) F.TDI_PORT_STATUS_OUTSTANDING = 0 →
    Does (.tdiUnfence d p v by') s
      ((((s.written (R.TDI_PORT_CFG d p) v).setFld (tdStatus (64 * d + p)) F.TDI_PORT_STATUS_FENCED 0).countFenced
        ((64 * d + p) / 64) false).journalled s (R.TDI_PORT_CFG d p) by')) ∧
  (F.TDI_CTL_CNT_CLR.isSet v = true →
    Does (.tdiCntClr d v) s ((s.written (R.TDI_CTL d) v).setReg (R.TDI_CNT d) 0)) ∧
  (F.TDI_PWR_GRANT_ARM.isSet v = true → s.siteKind d ≠ 2 →
    F.TDI_PWR_GRANT_NEXT_W.of v ≤ s.fld (R.TDI_PWR_LIMIT d) F.TDI_PWR_LIMIT_MAX_W →
    Does (.grantArm d v by') s
      (((s.written (R.TDI_PWR_GRANT d) v).setFld (R.TDI_PWR_GRANT d) F.TDI_PWR_GRANT_ARMED 1).journalled s
        (R.TDI_PWR_GRANT d) by'))

/-- What the commands of the interrupt controller do (R430 to R443, R457). -/
def Obligations.InterruptCommands : Prop := ∀ (s : State) (v : Word) (by' : Origin) (c : Fin 11),
  (32 ≤ F.EIC_DOORBELL_SRC.of v → F.EIC_DOORBELL_SRC.of v < 832 → F.EIC_DOORBELL_DEASSERT.isSet v = false →
    Does (.eicDoorbellAssert v) s ((s.written R.EIC_DOORBELL v).raise (F.EIC_DOORBELL_SRC.of v))) ∧
  (32 ≤ F.EIC_DOORBELL_SRC.of v → F.EIC_DOORBELL_SRC.of v < 832 → F.EIC_DOORBELL_DEASSERT.isSet v = true →
    State.sourceIsLevel (F.EIC_DOORBELL_SRC.of v) = true →
    Does (.eicDoorbellDeassert v) s ((s.written R.EIC_DOORBELL v).lower (F.EIC_DOORBELL_SRC.of v))) ∧
  (F.EIC_C_DOORBELL_SRC.of v < 32 → F.EIC_C_DOORBELL_DEASSERT.isSet v = false →
    Does (.eicCDoorbell c v) s
      (let u := s.written (R.EIC_C_DOORBELL c) v
       (u.setReg (R.EIC_C_PEND_SET c)
         (u.reg (R.EIC_C_PEND_SET c) ||| BitVec.ofNat 64 (2 ^ F.EIC_C_DOORBELL_SRC.of v))).eicSettle)) ∧
  (∀ w : Fin 13,
    Does (.pendSet (.shared w) v) s
      (if w.val = 0 then (s.written (R.EIC_PEND_SET w) v).sharedOnly (R.EIC_PEND_SET 0)
        else s.written (R.EIC_PEND_SET w) v).eicSettle ∧
    Does (.pendClr (.shared w) v) s (s.written (R.EIC_PEND_CLR w) v).eicSettle ∧
    Does (.enSet (.shared w) v by') s
      ((if w.val = 0 then (s.written (R.EIC_EN_SET w) v).sharedOnly (R.EIC_EN_SET 0)
        else s.written (R.EIC_EN_SET w) v).eicSettle.journalled s (R.EIC_EN_SET w) by') ∧
    Does (.enClr (.shared w) v by') s
      ((s.written (R.EIC_EN_CLR w) v).eicSettle.journalled s (R.EIC_EN_CLR w) by')) ∧
  Does (.pendSet (.core c) v) s (s.written (R.EIC_C_PEND_SET c) v).eicSettle ∧
  Does (.pendClr (.core c) v) s (s.written (R.EIC_C_PEND_CLR c) v).eicSettle ∧
  Does (.enSet (.core c) v by') s
    ((s.written (R.EIC_C_EN_SET c) v).eicSettle.journalled s (R.EIC_C_EN_SET c) by') ∧
  Does (.enClr (.core c) v by') s
    ((s.written (R.EIC_C_EN_CLR c) v).eicSettle.journalled s (R.EIC_C_EN_CLR c) by') ∧
  Does (.claim c 0 8) s
    ((s.claim c).2.emit (.answer (.core c) scDONE (Word.bytes 8 (s.claim c).1.toNat))) ∧
  ((s.written (R.EIC_C_EOI c) v).activeAt c (F.EIC_C_EOI_SRC.of v) = true →
    Does (.eoi c v) s ((s.written (R.EIC_C_EOI c) v).endInterrupt c (F.EIC_C_EOI_SRC.of v))) ∧
  Does (.maskSet c v) s (s.written (R.EIC_C_MASK_SET c) v) ∧
  Does (.maskClr c v) s (s.written (R.EIC_C_MASK_CLR c) v) ∧
  ((s.core c).state = csRUNNING →
    Does (.coreSleep c) s ((s.setFld (R.EIC_C_STATUS c) F.EIC_C_STATUS_ASLEEP 1).eicCore c)) ∧
  Does (.hvTrig v) s ((s.written R.EIC_HV_TRIG v).hvTrigger (F.EIC_HV_TRIG_VECTOR.of v)) ∧
  (∀ k : Fin 4096, s.fld (R.EIC_HV_STATUS k) F.EIC_HV_STATUS_COUNT ≠ 0 →
    Does (.hvCeiling k) s ((s.setVec k { s.vec k with ceiling := true }).hvTry k)) ∧
  (∀ k : Fin 4096, (s.vec k).failed = true →
    Does (.hvRetry k) s ((s.setVec k { s.vec k with due := true }).hvTry k)) ∧
  (F.EIC_CTL_CNT_CLR.isSet v = true →
    Does (.eicCntClr v) s
      ((s.written R.EIC_CTL v).liveVectors.foldl (fun u k => u.setFld (R.EIC_HV_STATUS k) F.EIC_HV_STATUS_RETRIES 0)
        ((s.written R.EIC_CTL v).setReg R.EIC_CNT 0)))

/-- What the commands of the mailboxes and the firmware cores do (R446 to R481, R504). -/
def Obligations.MailboxCommands : Prop := ∀ (s : State) (v : Word),
  (∀ i : Fin 17, F.MBX_CTL_GO.isSet v = true → F.MBX_CTL_ACK.isSet v = false →
    let u := s.written (R.MBX_CTL i) v
    u.mbState i ≠ mbBUSY → u.flag (R.MBX_STATUS i) F.MBX_STATUS_LAST_VALID = false →
    ((u.setMbState i mbBUSY).raise (800 + i)).mbRefusal i = none →
    Does (.mbxGo i v) s ((u.setMbState i mbBUSY).raise (800 + i))) ∧
  (∀ i : Fin 17, F.MBX_CTL_GO.isSet v = false → F.MBX_CTL_ACK.isSet v = true →
    let u := s.written (R.MBX_CTL i) v
    u.mbState i = mbDONE → s.fw.quiesce = none → Does (.mbxAck i v) s (u.setMbState i mbIDLE)) ∧
  (∀ i : Fin 16,
    let served := fun op => s.mbState i = mbBUSY ∧ s.mbOpcode i = op ∧ (s.core (s.serves op)).state = csRUNNING ∧
      s.mbRefusal i = none
    let hello := fun (u : State) verdict => u.mbRespond i scDONE rsOK (u.helloBytes verdict)
    (served opVERSION → Does (.mbxVersion i) s (s.mbRespond i scDONE rsOK
      (Word.bytes 2 s.ifRange.1 ++ Word.bytes 2 s.ifRange.2 ++ Word.bytes 2 (Config.interfaceMinor s.responder).toNat ++
        Word.bytes 2 s.topState ++ Word.bytes 4 (versionOf s.fw.sprout) ++ Word.bytes 4 (versionOf s.fw.running)))) ∧
    (∀ straps : BitVec 16, served opHELLO → s.fw.session = none → s.fw.running = none →
      Does (.mbxHello i straps) s (hello { s with fw := { s.fw with deferred := some (s.mbMajor i) } } hvDEFERRED)) ∧
    (∀ straps : BitVec 16, served opHELLO → s.fw.session = none → s.fw.running.isSome = true →
      s.supports (s.mbMajor i) = true →
      Does (.mbxHello i straps) s
        ((hello { s with fw := { s.fw with session := some (s.mbMajor i) } } hvACCEPTED).enterTraining straps.toNat)) ∧
    (served opATTEST → fieldAt (s.mbBytes i 72) 64 1 = 0 →
      Does (.attest i) s (State.mbRespond { s with fw := { s.fw with
        report := some (s.report ((s.mbBytes i 72).take 64), (s.mbBytes i 72).take 64) } } i scDONE rsOK
        ((s.report ((s.mbBytes i 72).take 64)).take 4096))) ∧
    (served opID_KEY → Does (.idKey i) s (s.mbRespond i scDONE rsOK
      (Word.bytes 8 s.fuses.serial.toNat ++ (List.range 2592).map (Config.mldsaPublic s.idSeed)))) ∧
    (served opFW_ACTIVATE → s.fw.act ≠ acACTIVATING → s.fw.staged.isSome = true →
      bit (fieldAt (s.mbBytes i 8) 0 8) 63 = false →
      Does (.fwActivate i) s (State.mbRespond { s with fw := { s.fw with
        act := acARMED, actAt := fieldAt (s.mbBytes i 8) 0 8 % 2 ^ 48 } } i scDONE rsOK [])) ∧
    (served opFW_STATUS → Does (.fwStatus i) s
      (let flag := fun (b : Bool) (k : Nat) => if b then 2 ^ k else 0
       s.mbRespond i scDONE rsOK (Word.bytes 8 (s.fw.act + flag s.fw.staged.isSome 3 + flag s.emergency 4 +
          flag s.fw.unified 5 + 2 ^ 16 * s.fw.actAt) ++ Word.bytes 4 (versionOf s.fw.running) ++
          Word.bytes 4 (versionOf s.fw.staged) ++ (List.range 11).flatMap fun c => (s.core c).entry))) ∧
    (served opDEFECTS → Does (.defects i) s
      (let first := fieldAt (s.mbBytes i 8) 0 2
       let l := (s.boot.defects.drop first).take 254
       s.mbRespond i scDONE rsOK (Word.bytes 8 (s.boot.defects.length % 2 ^ 16 + 2 ^ 16 * first + 2 ^ 32 * l.length +
          2 ^ 40 * s.fld R.TOP_DEFECT F.TOP_DEFECT_REC_FULL) ++ Word.bytes 8 (s.reg R.TOP_CAP0).toNat ++
          Word.bytes 8 (s.reg R.TOP_CAP1).toNat ++ Word.bytes 8 0 ++ l.flatMap DefectEntry.bytes))) ∧
    (served opQUIESCE → s.fw.quiesce = none → 0 < fieldAt (s.mbBytes i 8) 0 8 / 2 ^ 32 →
      fieldAt (s.mbBytes i 8) 0 8 / 2 ^ 32 ≤ 60000 →
      Does (.quiesce i) s
        (let u : State := { s with fw := { s.fw with quiesce := some (i.val, 0, false) } }
         let u := u.liveQueues.foldl (fun u k => u.setRing k { u.ring k with limit := some (u.qTail k) }) u
         if bit (fieldAt (s.mbBytes i 8) 0 8) 0 then u.resetWork else u))) ∧
  (∀ straps : BitVec 16, s.mbState mbBULK = mbBUSY → s.mbOpcode mbBULK = opFW_LOAD →
    (s.core (s.serves opFW_LOAD)).state = csRUNNING → s.mbRefusal mbBULK = none → s.fw.bulk = none → s.fw.act = acNONE →
    s.bulkAllowed (s.mbBulk mbBULK) = true →
    (s.inHouse (s.mbBulk mbBULK) = true →
      Does (.fwLoad straps) s
        (let r := s.memRead ⟨0, s.fwClass, 0, 300001⟩ (s.mbBulk mbBULK % 2 ^ 41) ((s.mbLen mbBULK + 63) / 64 * 64) true
         if r.1 = scDONE then r.2.2.loadImage (r.2.1.take (s.mbLen mbBULK)) straps.toNat
         else r.2.2.mbRespond mbBULK r.1 0 [])) ∧
    (s.inHouse (s.mbBulk mbBULK) = false → 0 < s.mbLen mbBULK →
      Does (.fwLoad straps) s (s.bulkReads (s.mbBulk mbBULK) ((s.mbLen mbBULK + 63) / 64 * 64)))) ∧
  (∀ i n, s.fw.quiesce = some (i, n, false) →
    Does .quiesceLimit s s.resetWork ∧
    (s.liveQueues.all s.quietQueue = true → s.tagsFree = true →
      Does .quiesceDone s (State.mbRespond { s with fw := { s.fw with quiesce := some (i, n, true) } } i scDONE rsOK
        (Word.bytes 8 (n % 2 ^ 32))))) ∧
  (∀ i n, s.fw.quiesce = some (i, n, true) →
    Does .quiesceEnter s (State.leavePod { s with fw := { s.fw with quiesce := none } })) ∧
  (s.fw.act = acARMED → s.fw.actAt ≤ s.beatNow → s.emergency = false → Does .fwActivation s s.actBegin) ∧
  (s.fw.act = acARMED → s.fw.actAt ≤ s.beatNow → s.emergency = true →
    Does .fwActivation s (State.raise { s with fw := { s.fw with act := acPENDING } } 819)) ∧
  (s.fw.act = acPENDING → s.emergency = false → Does .fwActivationDeferredStart s s.actBegin) ∧
  (∀ (c : Fin 11) (fault : Bool), (s.core c).state = csRUNNING → s.emergency = false →
    Does (.watchdogExpiry c fault) s (s.coreRestart c (if fault then crCORE_FAULT else crWATCHDOG))) ∧
  (∀ c : Fin 11, (s.core c).state = csRESTARTING → s.fw.act ≠ acACTIVATING →
    Does (.coreRunsAgain c) s
      (let t := s.setCoreState c csRUNNING
       let t := if c.val = t.coreFor 2 then t.doorbellsResume else t
       if c.val = t.ctlCore then t.ctlResume else t))

/-- What the commands of 19_power_thermal do (R512, R515, R517 to R525). -/
def Obligations.SupplyCommands : Prop := ∀ (s : State) (v : Word) (by' : Origin),
  (∀ n : Fin 8, bit (s.fld R.PWR_STATUS F.PWR_STATUS_STAGES_OK) n = true →
    Does (.powerStageFault n) s ((s.setFld R.PWR_STATUS F.PWR_STATUS_STAGES_OK
      (clearBit (s.fld R.PWR_STATUS F.PWR_STATUS_STAGES_OK) n)).raise 36)) ∧
  (s.topState ∈ [stGERM, stSPROUT, stTRAINING] → Does .railRegulationTimeout s (s.fail fcTIMEOUT)) ∧
  (∀ (d : Fin 8) (j : Fin 48) (reading : BitVec 16) (written : Nat),
    s.flag (R.HKP_CH_CFG d j) F.HKP_CH_CFG_EN = true →
    s.fld (R.HKP_CH_CFG d j) F.HKP_CH_CFG_KIND ≠ 0 → s.fld (R.HKP_CH_CFG d j) F.HKP_CH_CFG_KIND ≠ 3 →
    Does (.housekeepingMeasure d j (some reading) written) s
      (let u := if j.val ≤ 1 then s.diodeReading d j (some reading.toNat) else s
       let u := ((u.setFld (R.HKP_CH_VAL d j) F.HKP_CH_VAL_VALID 1).setFld (R.HKP_CH_VAL d j) F.HKP_CH_VAL_FAULT 0).setFld
         (R.HKP_CH_VAL d j) F.HKP_CH_VAL_VALUE reading.toNat
       let u := if 44 ≤ j.val then u.moduleReading (4 * d + (j - 44)) (some reading.toNat) else u
       let u := (u.noteHot d j reading.toNat).channelLimits d j reading.toNat written
       if d.val = 7 ∧ j.val = 47 then u.roundEnd else u)) ∧
  (s.budget.flag R.PWR_BUDGET F.PWR_BUDGET_MANUAL = false → (s.budget.core s.budget.pwrCore).state = csRUNNING →
    Does .budgetRound s
      (s.budget.topDies.foldl (fun u d =>
        let now := if u.flag (R.TDI_PWR_GRANT d) F.TDI_PWR_GRANT_ARMED then
            u.fld (R.TDI_PWR_GRANT d) F.TDI_PWR_GRANT_NEXT_W
          else u.fld (R.TDI_PWR_STATUS d) F.TDI_PWR_STATUS_SCHED_W
        if u.shareOf d = now ∨ u.siteReset d = true then u
        else u.coreWrite u.pwrCore (R.TDI_PWR_GRANT d) (BitVec.ofNat 64 (2 ^ 62 + 2 ^ 48 * u.shareOf d +
          (u.beatNow + u.fld R.PWR_BUDGET F.PWR_BUDGET_LEAD) % 2 ^ 48))) s.budget)) ∧
  (s.limitPresent lcUV = false → Does .limiterUv s (s.limitAct lcUV (List.range 8))) ∧
  (s.limitPresent lcOC = false → Does .limiterOc s (s.limitAct lcOC (List.range 8))) ∧
  Does (.limiterRelease .uv) s (s.limitGone lcUV) ∧
  Does (.limiterRelease .oc) s (s.limitGone lcOC) ∧
  (∀ (d : Fin 8) (j : Fin 48), s.flag (R.HKP_CH_VAL d j) F.HKP_CH_VAL_OVER_THR = true →
    asSigned 16 (s.fld (R.HKP_CH_VAL d j) F.HKP_CH_VAL_VALUE) ≤
      asSigned 16 (s.fld (R.HKP_CH_CFG d j) F.HKP_CH_CFG_THR) - 80 →
    Does (.limiterRelease (.channel d j)) s
      (((s.setFld (R.HKP_CH_VAL d j) F.HKP_CH_VAL_OVER_THR 0).onPower fun x =>
        { x with moduleOt := x.moduleOt.filter (· != channelOf d j) }).showOt)) ∧
  (s.acting = true → s.fld R.PWR_LIM_STATUS F.PWR_LIM_STATUS_PRESENT = 0 →
    Does .limiterHoldExpiry s
      ((((List.range 8).foldl (fun u d => (u.unclamp d).gateEngines d false) s).setFld R.PWR_STATUS F.PWR_STATUS_ACTING
        0).setFld R.THM_STATUS F.THM_STATUS_THROTTLED 0)) ∧
  (let past := fun (u : State) (byHw : Nat) =>
    ((((u.setFld R.PWR_STATUS F.PWR_STATUS_EMERGENCY 0).setFld R.PWR_EMERG F.PWR_EMERG_BY_HW byHw).setFld
      R.TGL_BEAT_STRETCH F.TGL_BEAT_STRETCH_LIMITER_LEVEL 0).stretchPump.raise 33).releaseRestart
   (F.PWR_EMERG_CLEAR.isSet v = true → s.emergency = true → s.acting = false →
      Does (.emergencyClear v by') s (past (s.written R.PWR_EMERG v) 0)) ∧
   (s.emergency = true → s.acting = false → Does .emergencyAutoClear s (past s 1))) ∧
  (∀ cause written, s.power.lost = false → s.power.on = true →
    Does (.inputLoss cause written) s
      ((State.shedLoads { s with power := { s.power with closed := false, lost := true, locked := false } }).setReg
        R.PWR_LAST_OFF (BitVec.ofNat 64 (lossCode cause * 2 ^ 60 + (State.shedLoads { s with
          power := { s.power with closed := false, lost := true, locked := false } }).beatNow)) |>.holdupFlush written)) ∧
  (s.power.lost = true →
    Does .holdupEnd s
      { State.reset with
        fuses := s.fuses, flash := s.flash, out := s.out, pending := s.pending, free := s.free,
        wear := ⟨[], s.wear.saved⟩,
        power := { State.reset.power with
          closed := false, on := false, locked := s.power.locked, lastOff := s.power.lastOff },
        pins := { State.reset.pins with refclk := s.pins.refclk },
        boot := { State.reset.boot with sfdp := s.boot.sfdp } }) ∧
  (∀ pins, s.power.locked = false → s.power.on = false → Does (.inputReturn pins) s (s.coldReset pins)) ∧
  (∀ pins, s.power.locked = false → s.power.on = true → s.power.lost = true →
    Does (.inputReturn pins) s (State.warmReset { s with power := { s.power with closed := true, lost := false } })) ∧
  (∀ ready, s.flag R.PWR_STATUS F.PWR_STATUS_HOLDUP_READY ≠ ready →
    Does (.holdupReadyChange ready) s
      ((s.setFld R.PWR_STATUS F.PWR_STATUS_HOLDUP_READY (if ready then 1 else 0)).showHoldup.raise 35))

/-- What the commands of 20_snapshots_journal_wear do (R535 to R541, R546 to R550, R552). -/
def Obligations.ArchiveCommands : Prop := ∀ (s : State) (v : Word) (by' : Origin),
  (F.SNP_ARM_ARM.isSet v = true → F.SNP_ARM_CANCEL.isSet v = false →
    Does (.snapArm v by') s
      (let u := (s.written R.SNP_ARM v).snapArm (F.SNP_ARM_AT.of v) none
       (if u.flag R.SNP_CTL F.SNP_CTL_POD_SEND then
          u.sendSnap (u.fld R.SNP_STATUS F.SNP_STATUS_NEXT_ID) (F.SNP_ARM_AT.of v)
        else u).journalled s R.SNP_ARM by')) ∧
  (F.SNP_ARM_CANCEL.isSet v = true → F.SNP_ARM_ARM.isSet v = false →
    Does (.snapCancel v by') s
      ((State.setFld { s.written R.SNP_ARM v with snap := { s.snap with armed := none } } R.SNP_STATUS
        F.SNP_STATUS_ARMED 0).journalled s R.SNP_ARM by')) ∧
  (F.SNP_TRIG_GO.isSet v = true → Does (.snapTrig v) s ((s.written R.SNP_TRIG v).latch 2 none false)) ∧
  (s.flag R.SNP_CTL F.SNP_CTL_PIN_EN = true → Does .snapIn s (s.latch 3 none false)) ∧
  (F.SNP_CTL_RELEASE.isSet v = true → s.snapState = snHELD →
    Does (.snapRelease v by') s
      (((s.written R.SNP_CTL v).setFld R.SNP_STATUS F.SNP_STATUS_STATE snEMPTY).journalled s R.SNP_CTL by')) ∧
  (F.SNP_CTL_RELEASE.isSet v = true → s.snapState = snDUMPING →
    Does (.snapRelease v by') s
      (State.journalled { s.written R.SNP_CTL v with snap := { s.snap with release := true } } s R.SNP_CTL by')) ∧
  (F.SNP_DUMP_CTL_GO.isSet v = true → s.snapState = snHELD →
    Does (.snapDump v) s
      (let u := s.written R.SNP_DUMP_CTL v
       let image := u.snapImage (u.fld R.SNP_DUMP_CTL F.SNP_DUMP_CTL_LEN)
       let u := ((u.setFld R.SNP_STATUS F.SNP_STATUS_STATE snDUMPING).setFld R.SNP_STATUS F.SNP_STATUS_DUMP_DONE
         0).setFld R.SNP_STATUS F.SNP_STATUS_TRUNC 0
       let sent := u.dumpWrite (64 * u.fld R.SNP_DUMP_ADDR F.SNP_DUMP_ADDR_ADDR) image.2.2 (.dump false)
       { sent.2.2 with snap := { sent.2.2.snap with dump := some (image.1, image.2.1, sent.1, sent.2.1) } })) ∧
  (∀ n k status, s.snap.dump = some (n, k, status, 0) →
    Does .snapDumpDone s
      (let free := s.flag R.SNP_CTL F.SNP_CTL_AUTO_REL || s.snap.release
       ((((State.setFld { s with snap := { s.snap with dump := none, release := false } } R.SNP_STATUS F.SNP_STATUS_STATE
         (if free then snEMPTY else snHELD)).setFld R.SNP_STATUS F.SNP_STATUS_DUMP_DONE 1).setFld R.SNP_STATUS
         F.SNP_STATUS_TRUNC (if k < n then 1 else 0)).setFld R.SNP_STATUS F.SNP_STATUS_DUMP_STATUS status).raise 777)) ∧
  (∀ n : Fin 1366, s.flashOk = true →
    Does (.journalFlush n) s
      ((s.jrnWaiting.take (min n (if s.jrnAt.2 < jrnEntries then jrnEntries - s.jrnAt.2 else jrnEntries))).foldl
        State.jrnStore s)) ∧
  (F.JRN_DUMP_CTL_GO.isSet v = true → s.flag R.JRN_DUMP_CNT F.JRN_DUMP_CNT_BUSY = false →
    Does (.journalDump v) s
      (let u := s.written R.JRN_DUMP_CTL v
       let want := u.fld R.JRN_DUMP_CTL F.JRN_DUMP_CTL_FIRST_SEQ
       let u := u.setFld R.JRN_DUMP_CNT F.JRN_DUMP_CNT_BUSY 1
       if u.fld R.JRN_STATUS F.JRN_STATUS_NEXT_SEQ ≤ want then
         State.journalDumpEnd { u with snap := { u.snap with journalDump := some (want, scDONE, 0) } }
       else
         let l := (u.journal.reverse.filter fun e => decide (want ≤ e.seq)).take
           (u.fld R.JRN_DUMP_CNT F.JRN_DUMP_CNT_COUNT)
         let sent := u.dumpWrite (64 * u.fld R.JRN_DUMP_ADDR F.JRN_DUMP_ADDR_ADDR) (l.flatMap JournalEntry.bytes)
           (.dump true)
         { sent.2.2 with snap := { sent.2.2.snap with
             journalDump := some ((l.head?.map JournalEntry.seq).getD want, sent.1, sent.2.1) } })) ∧
  (∀ first status, s.snap.journalDump = some (first, status, 0) →
    Does .journalDumpDone s
      ((((State.setFld { s with snap := { s.snap with journalDump := none } } R.JRN_DUMP_CNT F.JRN_DUMP_CNT_BUSY 0).setFld
        R.JRN_DUMP_CNT F.JRN_DUMP_CNT_STATUS status).setFld R.JRN_DUMP_STATUS F.JRN_DUMP_STATUS_FIRST first).raise 785)) ∧
  (s.pwrRestarts = false → Does .wearEolCompute s
    (let hours := s.fld R.WEAR_STATUS F.WEAR_STATUS_HOURS
     let rated := if hours < 720 then [(60 * 1461 - 2 * hours, 1461, 0)] else []
     let r := match leastMonths (rated ++ wearings.filterMap s.wearMonths) with
       | some (n, d, c) => (min 254 (n / d), c)
       | none => (255, 0)
     let u := ((s.setFld R.WEAR_STATUS F.WEAR_STATUS_EOL_MONTHS r.1).setFld R.WEAR_STATUS F.WEAR_STATUS_WORST r.2).setFld
       R.WEAR_STATUS F.WEAR_STATUS_HOURS (min F.WEAR_STATUS_HOURS.max (hours + 1))
     if u.fld R.WEAR_CTL F.WEAR_CTL_EOL_THRESH ≤ s.fld R.WEAR_STATUS F.WEAR_STATUS_EOL_MONTHS ∧
         r.1 < u.fld R.WEAR_CTL F.WEAR_CTL_EOL_THRESH then u.raise 788 else u)) ∧
  (s.flashOk = true → Does .wearRecordFlush s
    { s with wear := { s.wear with saved := some (s.fld R.WEAR_STATUS F.WEAR_STATUS_HOURS, s.wear.daily) } }) ∧
  (∀ values, Does (.wearDailyValue values) s (values.foldl State.wearDaily s))

/-- What the commands of the sideband do (R577, R581 to R584). -/
def Obligations.SidebandCommands : Prop := ∀ s : State,
  Does .refclkLoss s { s with pins := { s.pins with refclk := false } } ∧
  (s.pins.refclk = false → s.power.on = true → s.topState = stGERM →
    Does .refclkReturn s (State.germBoot { s with pins := { s.pins with refclk := true } })) ∧
  (s.topState ≠ stGERM → Does .refclkReturn s { s with pins := { s.pins with refclk := true } }) ∧
  (s.power.on = true →
    (∀ (bytes : List Byte) (off : Nat), bytes.length = 13 → fieldAt bytes 0 1 = 2 → i3cOffset bytes = some off →
      Does (.i3cRegisterWrite bytes) s
        (s.regWrite off (BitVec.ofNat 64 (fieldAt bytes 5 8)) ⟨0, BitVec.ofNat 6 s.ownId, false, true⟩)) ∧
    (∀ (bytes : List Byte) (off : Nat), bytes.length = 5 → fieldAt bytes 0 1 = 1 → i3cOffset bytes = some off →
      Does (.i3cReadRequest bytes) s
        ((s.regRead off 8).2.onPins fun x =>
          { x with reply := some (scDONE, BitVec.ofNat 64 (Word.ofBytes (s.regRead off 8).1)) })) ∧
    (∀ (c : Nat) (w : Word), s.pins.reply = some (c, w) →
      Does .i3cPrivateRead s
        (State.emit { s with pins := { s.pins with reply := none } }
          (.answer .i3c c (Word.bytes 1 c ++ Word.bytes 8 w.toNat)))) ∧
    (∀ a, s.pins.dynamic = none → Does (.entdaa a) s { s with pins := { s.pins with dynamic := some a } }) ∧
    (∀ static a, static.toNat = 0x28 + s.pins.straps.toNat →
      Does (.setdasa static a) s { s with pins := { s.pins with dynamic := some a } }) ∧
    Does .rstdaa s { s with pins := { s.pins with dynamic := none } } ∧
    Does .enec s s ∧ Does .disec s s ∧
    Does .getpid s (s.emit (.answer .i3c scDONE (Word.bytes 6 s.fuses.serial.toNat).reverse)) ∧
    Does .getbcr s (s.emit (.answer .i3c scDONE [Config.busCharacteristics])) ∧
    Does .getdcr s (s.emit (.answer .i3c scDONE [Config.deviceCharacteristics])) ∧
    Does .getstatus s (State.emit { s with free := s.free + 2 }
      (.answer .i3c scDONE [Config.freeByte s.free, Config.freeByte (s.free + 1)])) ∧
    Does .getmwl s (s.emit (.answer .i3c scDONE [0, 13])) ∧
    Does .getmrl s (s.emit (.answer .i3c scDONE [0, 9]))) ∧
  Does .bypass s { s with pins := { s.pins with tap := tapBYPASS } } ∧
  Does .idcode s (State.emit { s with pins := { s.pins with tap := tapIDCODE } } (.answer .tap scDONE (Word.bytes 4
    (s.fuses.rev.toNat % 16 * 2 ^ 28 + 0x0824 * 2 ^ 12 + Config.manufacturer.toNat * 2 + 1)))) ∧
  (∀ pins load, Does (.samplePreload pins load) s
    (State.emit { s with pins := { s.pins with tap := tapSAMPLE, chain := load } }
      (.answer .tap scDONE (Word.bytes 3 pins.toNat)))) ∧
  (∀ pins load, s.pins.bscan = true → Does (.extest pins load) s
    (State.emit { s with pins := { s.pins with tap := tapEXTEST, chain := load } }
      (.answer .tap scDONE (Word.bytes 3 pins.toNat)))) ∧
  (∀ pins load, s.pins.bscan = false → Does (.extest pins load) s { s with pins := { s.pins with tap := tapBYPASS } })
end

