-- ==== Sys2Proof/Laws/Table.lean ====
section
/-!
SUPPORT. Sparse tables and memories: a read after a write, what a write leaves alone, and that every operation keeps the
canonical form.
-/
namespace Sys2Proof

variable {α : Type}

theorem Tab.get_drop_self (d : Nat → α) (t : Tab α) (k : Nat) : Tab.get d (t.drop k) k = d k := by
  induction t with
  | nil => rfl
  | cons e t ih =>
    obtain ⟨j, v⟩ := e
    by_cases h : j = k <;> simp [Tab.drop, Tab.get, h, ih]

theorem Tab.get_drop_ne (d : Nat → α) (t : Tab α) {k j : Nat} (h : j ≠ k) :
    Tab.get d (t.drop k) j = Tab.get d t j := by
  induction t with
  | nil => rfl
  | cons e t ih =>
    obtain ⟨i, v⟩ := e
    by_cases hi : i = k
    · subst hi; simp [Tab.drop, Tab.get, ih, Ne.symm h]
    · simp only [Tab.drop, hi, if_false, Tab.get, ih]

theorem Tab.get_put_ne (d : Nat → α) (t : Tab α) {k j : Nat} (v : α) (h : j ≠ k) :
    Tab.get d (t.put k v) j = Tab.get d t j := by
  induction t with
  | nil => simp [Tab.put, Tab.get, Ne.symm h]
  | cons e t ih =>
    obtain ⟨i, w⟩ := e
    by_cases hi : k < i
    · simp [Tab.put, hi, Tab.get, Ne.symm h]
    · simp [Tab.put, hi, Tab.get, ih]

theorem Tab.get_put_drop (d : Nat → α) (t : Tab α) (k : Nat) (v : α) : Tab.get d ((t.drop k).put k v) k = v := by
  induction t with
  | nil => simp [Tab.drop, Tab.put, Tab.get]
  | cons e t ih =>
    obtain ⟨i, w⟩ := e
    by_cases hi : i = k
    · simp [Tab.drop, hi, ih]
    · by_cases hk : k < i <;> simp [Tab.drop, hi, Tab.put, hk, Tab.get, ih]

theorem Tab.drop_put (t : Tab α) (k : Nat) (v : α) : (t.put k v).drop k = t.drop k := by
  induction t with
  | nil => simp [Tab.put, Tab.drop]
  | cons e t ih =>
    obtain ⟨i, w⟩ := e
    by_cases hk : k < i
    · simp [Tab.put, hk, Tab.drop]
    · by_cases hi : i = k <;> simp [Tab.put, hk, Tab.drop, hi, ih]

theorem Tab.drop_drop (t : Tab α) (k : Nat) : (t.drop k).drop k = t.drop k := by
  induction t with
  | nil => rfl
  | cons e t ih =>
    obtain ⟨i, w⟩ := e
    by_cases hi : i = k <;> simp [Tab.drop, hi, ih]

variable [DecidableEq α]

/-- A read of the key just written. -/
@[simp] theorem Tab.get_set_self (d : Nat → α) (t : Tab α) (k : Nat) (v : α) : Tab.get d (t.set d k v) k = v := by
  by_cases h : v = d k
  · simp [Tab.set, h, Tab.get_drop_self]
  · simp [Tab.set, h, Tab.get_put_drop]

/-- Of two writes of a key the later one stays. -/
@[simp] theorem Tab.set_set (d : Nat → α) (t : Tab α) (k : Nat) (v w : α) : (t.set d k v).set d k w = t.set d k w := by
  have h : (t.set d k v).drop k = t.drop k := by
    unfold Tab.set; split <;> simp only [Tab.drop_put, Tab.drop_drop]
  by_cases hw : w = d k
  · rw [Tab.set, if_pos hw, h, Tab.set, if_pos hw]
  · rw [Tab.set, if_neg hw, h, Tab.set, if_neg hw]

/-- A read of another key. -/
theorem Tab.get_set_ne (d : Nat → α) (t : Tab α) {k j : Nat} (v : α) (h : j ≠ k) :
    Tab.get d (t.set d k v) j = Tab.get d t j := by
  unfold Tab.set
  split
  · exact Tab.get_drop_ne d t h
  · rw [Tab.get_put_ne d _ v h, Tab.get_drop_ne d t h]

omit [DecidableEq α] in
theorem Tab.sortedFrom_mono {m n : Nat} {t : Tab α} (h : m ≤ n) (ht : Tab.sortedFrom n t = true) :
    Tab.sortedFrom m t = true := by
  cases t with
  | nil => rfl
  | cons e t =>
    obtain ⟨j, v⟩ := e
    simp only [Tab.sortedFrom, Bool.and_eq_true, Nat.ble_eq] at ht ⊢
    exact ⟨Nat.le_trans h ht.1, ht.2⟩

omit [DecidableEq α] in
theorem Tab.sortedFrom_drop {m : Nat} {t : Tab α} (k : Nat) (ht : Tab.sortedFrom m t = true) :
    Tab.sortedFrom m (t.drop k) = true := by
  induction t generalizing m with
  | nil => rfl
  | cons e t ih =>
    obtain ⟨j, v⟩ := e
    simp only [Tab.sortedFrom, Bool.and_eq_true, Nat.ble_eq] at ht
    by_cases hj : j = k
    · simp only [Tab.drop, hj, if_true]
      exact ih (Tab.sortedFrom_mono (by omega) ht.2)
    · simp only [Tab.drop, hj, if_false, Tab.sortedFrom, Bool.and_eq_true, Nat.ble_eq]
      exact ⟨ht.1, ih ht.2⟩

omit [DecidableEq α] in
theorem Tab.not_mem_drop (t : Tab α) (k : Nat) : ∀ e ∈ t.drop k, e.1 ≠ k := by
  induction t with
  | nil => simp [Tab.drop]
  | cons e t ih =>
    obtain ⟨j, v⟩ := e
    by_cases hj : j = k
    · simpa [Tab.drop, hj] using ih
    · simp only [Tab.drop, hj, if_false, List.mem_cons]
      rintro e (rfl | h)
      · exact hj
      · exact ih e h

omit [DecidableEq α] in
theorem Tab.mem_drop {t : Tab α} {k : Nat} {e : Nat × α} (h : e ∈ t.drop k) : e ∈ t := by
  induction t with
  | nil => simp [Tab.drop] at h
  | cons x t ih =>
    obtain ⟨j, v⟩ := x
    by_cases hj : j = k
    · simp only [Tab.drop, hj, if_true] at h; exact List.mem_cons_of_mem _ (ih h)
    · simp only [Tab.drop, hj, if_false, List.mem_cons] at h
      rcases h with h | h
      · simp [h]
      · exact List.mem_cons_of_mem _ (ih h)

omit [DecidableEq α] in
theorem Tab.sortedFrom_put {m : Nat} {t : Tab α} {k : Nat} (v : α) (hm : m ≤ k) (hk : ∀ e ∈ t, e.1 ≠ k)
    (ht : Tab.sortedFrom m t = true) : Tab.sortedFrom m (t.put k v) = true := by
  induction t generalizing m with
  | nil => simp [Tab.put, Tab.sortedFrom, hm]
  | cons e t ih =>
    obtain ⟨j, w⟩ := e
    simp only [Tab.sortedFrom, Bool.and_eq_true, Nat.ble_eq] at ht
    have hj : j ≠ k := hk (j, w) (by simp)
    by_cases h : k < j
    · simp only [Tab.put, h, if_true, Tab.sortedFrom, Bool.and_eq_true, Nat.ble_eq]
      exact ⟨hm, h, ht.2⟩
    · simp only [Tab.put, h, if_false, Tab.sortedFrom, Bool.and_eq_true, Nat.ble_eq]
      exact ⟨ht.1, ih (by omega) (fun e he => hk e (by simp [he])) ht.2⟩

omit [DecidableEq α] in
theorem Tab.mem_put {t : Tab α} {k : Nat} {v : α} {e : Nat × α} (h : e ∈ t.put k v) : e = (k, v) ∨ e ∈ t := by
  induction t with
  | nil => simpa [Tab.put] using h
  | cons x t ih =>
    obtain ⟨j, w⟩ := x
    by_cases hj : k < j
    · simpa [Tab.put, hj] using h
    · simp only [Tab.put, hj, if_false, List.mem_cons] at h
      rcases h with h | h
      · simp [h]
      · rcases ih h with h | h <;> simp [h]

/-- A write keeps the canonical form. -/
theorem Tab.wf_set (d : Nat → α) {t : Tab α} (k : Nat) (v : α) (h : Tab.wf d t = true) :
    Tab.wf d (t.set d k v) = true := by
  simp only [Tab.wf, Bool.and_eq_true, List.all_eq_true] at h ⊢
  unfold Tab.set
  split
  · exact ⟨Tab.sortedFrom_drop k h.1, fun e he => h.2 e (Tab.mem_drop he)⟩
  · rename_i hv
    refine ⟨Tab.sortedFrom_put v (Nat.zero_le _) (Tab.not_mem_drop t k) (Tab.sortedFrom_drop k h.1), fun e he => ?_⟩
    rcases Tab.mem_put he with rfl | he
    · simpa using hv
    · exact h.2 e (Tab.mem_drop he)

omit [DecidableEq α] in
theorem Tab.sortedFrom_clear {m : Nat} {t : Tab α} (p : Nat → Bool) (ht : Tab.sortedFrom m t = true) :
    Tab.sortedFrom m (t.clear p) = true := by
  induction t generalizing m with
  | nil => rfl
  | cons e t ih =>
    obtain ⟨j, v⟩ := e
    simp only [Tab.sortedFrom, Bool.and_eq_true, Nat.ble_eq] at ht
    have ih' := ih ht.2
    by_cases hp : p j = true
    · simp only [Tab.clear, List.filter_cons, hp, Bool.not_true, Bool.false_eq_true, if_false] at ih' ⊢
      exact Tab.sortedFrom_mono (by omega) ih'
    · simp only [Tab.clear, List.filter_cons, hp, Bool.not_false, if_true] at ih' ⊢
      simp only [Tab.sortedFrom, Bool.and_eq_true, Nat.ble_eq]
      exact ⟨ht.1, ih'⟩

/-- So does taking entries out. -/
theorem Tab.wf_clear (d : Nat → α) {t : Tab α} (p : Nat → Bool) (h : Tab.wf d t = true) :
    Tab.wf d (t.clear p) = true := by
  simp only [Tab.wf, Bool.and_eq_true, List.all_eq_true] at h ⊢
  exact ⟨Tab.sortedFrom_clear p h.1, fun e he => h.2 e ((List.mem_filter.mp he).1)⟩

end Sys2Proof

namespace Sys2Proof.Machine

theorem writeCells_wf (d : Nat → Byte) {m : List Host.Cell} (a : Nat) (bs : List Byte) (h : Memory.wf d m = true) :
    Memory.wf d (writeCells d m a bs) = true := by
  induction bs generalizing m a with
  | nil => exact h
  | cons b bs ih => exact ih _ (Tab.wf_set d a b h)

theorem patchCells_wf (d : Nat → Byte) {m : List Host.Cell} (a : Nat) (bs : List (Option Byte))
    (h : Memory.wf d m = true) : Memory.wf d (patchCells d m a bs) = true := by
  induction bs generalizing m a with
  | nil => exact h
  | cons b bs ih =>
    cases b with
    | none => exact ih _ h
    | some b => exact ih _ (Tab.wf_set d a b h)

/-- A byte outside those written reads as before. -/
theorem get_writeCells_outside (d : Nat → Byte) (m : List Host.Cell) (a k : Nat) (bs : List Byte)
    (h : k < a ∨ a + bs.length ≤ k) : Tab.get d (writeCells d m a bs) k = Tab.get d m k := by
  induction bs generalizing m a with
  | nil => rfl
  | cons b bs ih =>
    simp only [List.length_cons] at h
    rw [writeCells, ih _ _ (by omega), Tab.get_set_ne d m b (by omega)]

/-- A byte written reads as written. -/
theorem get_writeCells_inside (d : Nat → Byte) (m : List Host.Cell) (a i : Nat) (bs : List Byte) (h : i < bs.length) :
    Tab.get d (writeCells d m a bs) (a + i) = bs[i] := by
  induction bs generalizing m a i with
  | nil => simp at h
  | cons b bs ih =>
    cases i with
    | zero => rw [writeCells, get_writeCells_outside d _ _ _ _ (by omega)]; simp
    | succ i =>
      simp only [List.length_cons] at h
      have := ih (Tab.set d m a b) (a + 1) i (by omega)
      rw [show a + 1 + i = a + (i + 1) by omega] at this
      simpa [writeCells] using this

/-- Reading what has just been written. -/
theorem readCells_writeCells (d : Nat → Byte) (m : List Host.Cell) (a : Nat) (bs : List Byte) :
    readCells d (writeCells d m a bs) a bs.length = bs := by
  apply List.ext_getElem
  · simp [readCells]
  · intro i h1 h2
    simp [readCells, get_writeCells_inside d m a i bs h2]

end Sys2Proof.Machine
end

