-- ==== Sys2Proof/Laws/Bytes.lean ====
section
/-!
SUPPORT. Runs of bytes: what a run gives at an address, what it leaves when it is laid over a memory, and the aligned
units that it is cut into. What ends a command where nothing waits.
-/
namespace Sys2Proof.Machine

/-- Nothing owed, nothing delivered. -/
theorem owed_none (n : Nat) (s : State) (h : s.owed = []) : s.settleOwed n = s := by
  cases n with
  | zero => rfl
  | succ n => unfold State.settleOwed; rw [h]

/-- What ends a command does nothing where nothing waits. -/
theorem calm_settle (u : State) (hc : u.calm) : u.settle = u := by
  obtain ⟨h1, h2, h3, h4⟩ := hc
  unfold State.settle
  rw [owed_none _ u h1]
  dsimp only
  rw [h2]
  unfold State.settleSites
  simp [h3, h4]


/-- A run of bytes laid over a memory. -/
def lay (f : Nat → Byte) (w : Nat) (data : List (Option Byte)) (k : Nat) : Byte := (given w data k).getD (f k)

/-- What two runs that follow one another give. -/
theorem given_append (w : Nat) (x y : List (Option Byte)) (k : Nat) :
    given w (x ++ y) k = if k < w + x.length then given w x k else given (w + x.length) y k := by
  unfold given
  by_cases h : w ≤ k
  · simp only [h, if_true]
    by_cases h2 : k < w + x.length
    · rw [if_pos h2, List.getElem?_append_left (by omega)]
    · rw [if_neg h2, if_pos (by omega), List.getElem?_append_right (by omega), Nat.sub_sub]
  · simp only [h, if_false]
    rw [if_pos (by omega)]

/-- Outside the run nothing is given. -/
theorem given_out (w : Nat) (x : List (Option Byte)) (k : Nat) (h : k < w ∨ w + x.length ≤ k) : given w x k = none := by
  unfold given
  by_cases h1 : w ≤ k
  · rw [if_pos h1, List.getElem?_eq_none (by omega)]; rfl
  · rw [if_neg h1]; rfl

/-- A byte of a memory after a write of bytes. -/
theorem get_write (m : List Host.Cell) (w k : Nat) (l : List Byte) :
    Tab.get ramDefault (writeCells ramDefault m w l) k = (if w ≤ k then l[k - w]? else none).getD (Tab.get ramDefault m k) := by
  by_cases h : w ≤ k ∧ k < w + l.length
  · rw [if_pos h.1, List.getElem?_eq_getElem (by omega)]
    have := get_writeCells_inside ramDefault m w (k - w) l (by omega)
    rw [show w + (k - w) = k by omega] at this
    exact this
  · rw [get_writeCells_outside _ _ _ _ _ (by omega)]
    by_cases h1 : w ≤ k
    · rw [if_pos h1, List.getElem?_eq_none (by omega)]; rfl
    · rw [if_neg h1]; rfl

/-- A write of old bytes with given ones in their place lays the given ones. -/
theorem get_merge (n : Nat) (m : List Host.Cell) (w k : Nat) (l : List (Option Byte)) (h : l.length = n) :
    Tab.get ramDefault (writeCells ramDefault m w (mergeBytes (readCells ramDefault m w n) l)) k =
      lay (Tab.get ramDefault m) w l k := by
  rw [get_write]
  unfold lay given
  by_cases h1 : w ≤ k
  · simp only [h1, if_true]
    by_cases h2 : k - w < n
    · have e1 : (mergeBytes (readCells ramDefault m w n) l)[k - w]? = some ((l[k - w]'(by omega)).getD (Tab.get ramDefault m k)) := by
        unfold mergeBytes readCells
        rw [List.getElem?_eq_getElem (by simp; omega)]
        simp [show w + (k - w) = k by omega]
      rw [e1, List.getElem?_eq_getElem (by omega)]
      rfl
    · rw [List.getElem?_eq_none (by simp [mergeBytes, readCells]; omega), List.getElem?_eq_none (by omega)]
      rfl
  · simp only [h1, if_false]; rfl

/-- A write of a run that gives every byte lays it. -/
theorem get_full (m : List Host.Cell) (w k : Nat) (l : List (Option Byte)) (h : l.all Option.isSome = true) :
    Tab.get ramDefault (writeCells ramDefault m w (l.map fun b => b.getD 0)) k = lay (Tab.get ramDefault m) w l k := by
  rw [get_write]
  unfold lay given
  by_cases h1 : w ≤ k
  · simp only [h1, if_true, List.getElem?_map]
    cases e : l[k - w]? with
    | none => rfl
    | some o =>
      have := List.all_eq_true.1 h o (List.mem_of_getElem? e)
      cases o with
      | none => simp at this
      | some b => rfl
  · simp only [h1, if_false]
    rfl

/-- Two runs that follow one another, laid one after the other. -/
theorem lay_lay (f : Nat → Byte) (w : Nat) (x y : List (Option Byte)) (k : Nat) :
    lay (lay f w x) (w + x.length) y k = lay f w (x ++ y) k := by
  unfold lay
  rw [given_append]
  by_cases h : k < w + x.length
  · rw [if_pos h, given_out (w + x.length) y k (by omega)]; rfl
  · rw [if_neg h, given_out w x k (by omega)]; rfl

/-- A run that gives nothing changes nothing. -/
theorem lay_none (f : Nat → Byte) (w : Nat) (x : List (Option Byte)) (h : x.all Option.isNone = true) (k : Nat) :
    lay f w x k = f k := by
  unfold lay
  have : given w x k = none := by
    unfold given
    split
    · cases e : x[k - w]? with
      | none => rfl
      | some o =>
        have := List.all_eq_true.1 h o (List.mem_of_getElem? e)
        cases o with
        | none => rfl
        | some b => simp at this
    · rfl
  rw [this]; rfl

/-- A run without a gap gives every byte. -/
theorem any_none_iff (l : List (Option Byte)) : l.any Option.isNone = false → l.all Option.isSome = true := by
  intro h
  rw [List.all_eq_true]; intro x hx
  have := List.any_eq_false.1 h x hx
  cases x <;> simp_all

/-- A run that gives no byte at all. -/
theorem any_some_iff (l : List (Option Byte)) : l.any Option.isSome = false → l.all Option.isNone = true := by
  intro h
  rw [List.all_eq_true]; intro x hx
  have := List.any_eq_false.1 h x hx
  cases x <;> simp_all

/-- What a list of units must be to spell a run of bytes. -/
def Spells (n a : Nat) (data : List (Option Byte)) (l : List (Nat × List (Option Byte))) : Prop :=
  (∀ u ∈ l, (u.1 % n = 0 ∧ u.2.length = n ∧ ∀ i < n, u.2[i]?.join = given a data (u.1 + i)) ∧
    a / n * n ≤ u.1 ∧ u.1 < a + data.length) ∧
  ∀ k, given a data k ≠ none → ∃ u ∈ l, u.1 = k / n * n

/-- The units of a run spell it. -/
theorem spells (n : Nat) (hn : 0 < n) (a : Nat) (data : List (Option Byte)) : Spells n a data (splitUnits n a data) := by
  have hb : a / n * n ≤ a := Nat.div_mul_le_self a n
  have pad : ∀ j, (List.replicate (a - a / n * n) none ++ data)[j]?.join = given a data (a / n * n + j) := by
    intro j
    unfold given
    by_cases hj : j < a - a / n * n
    · rw [List.getElem?_append_left (by simpa using hj), if_neg (by omega)]
      simp [hj]
    · rw [List.getElem?_append_right (by simp; omega), if_pos (by omega)]
      simp only [List.length_replicate]
      rw [show j - (a - a / n * n) = a / n * n + j - a by omega]
  refine ⟨fun u hu => ?_, fun k hk => ?_⟩
  · unfold splitUnits at hu
    simp only [List.mem_filterMap, List.mem_range, Option.ite_none_left_eq_some, Option.some.injEq] at hu
    obtain ⟨i, hi, -, rfl⟩ := hu
    refine ⟨⟨?_, ?_, fun q hq => ?_⟩, Nat.le_add_right _ _, ?_⟩
    rotate_left 3
    · simp only [List.length_append, List.length_replicate] at hi
      have := Nat.div_mul_le_self (a - a / n * n + data.length + n - 1) n
      have h2 : (i + 1) * n ≤ (a - a / n * n + data.length + n - 1) / n * n := Nat.mul_le_mul_right _ hi
      rw [Nat.add_mul, Nat.one_mul, Nat.mul_comm i] at h2
      dsimp only
      omega
    · simp [Nat.add_mod]
    · simp only [List.length_append, List.length_take, List.length_replicate]; omega
    · dsimp only
      rw [Nat.add_assoc, ← pad]
      by_cases hin : q < ((List.drop (n * i) (List.replicate (a - a / n * n) none ++ data)).take n).length
      · rw [List.getElem?_append_left hin, List.getElem?_take_of_lt hq, List.getElem?_drop]
      · rw [List.getElem?_append_right (by omega)]
        have e1 : (List.replicate (a - a / n * n) none ++ data)[n * i + q]? = none := by
          rw [List.getElem?_eq_none]
          simp only [List.length_take, List.length_drop] at hin
          omega
        rw [e1]
        simp only [List.getElem?_replicate]
        split <;> rfl
  · have hk' := hk
    unfold given at hk
    have hak : a ≤ k := by
      refine Classical.byContradiction fun hc => ?_; rw [if_neg hc] at hk; exact hk rfl
    rw [if_pos hak] at hk
    have hlen : k - a < data.length := by
      refine Classical.byContradiction fun hc => ?_; rw [List.getElem?_eq_none (by omega)] at hk; exact hk rfl
    have hbk : a / n * n ≤ k := Nat.le_trans hb hak
    have hkn : k / n * n = a / n * n + n * ((k - a / n * n) / n) := by
      have : k = (k - a / n * n) + a / n * n := by omega
      conv => lhs; rw [this]
      rw [Nat.add_mul_div_right _ _ hn, Nat.add_mul, Nat.mul_comm n]
      omega
    have hdm := Nat.div_add_mod (k - a / n * n) n
    have hml := Nat.mod_lt (k - a / n * n) hn
    refine ⟨(k / n * n, ((List.drop (n * ((k - a / n * n) / n)) (List.replicate (a - a / n * n) none ++ data)).take n ++
        List.replicate (n - ((List.drop (n * ((k - a / n * n) / n)) (List.replicate (a - a / n * n) none ++ data)).take n).length) none)), ?_, rfl⟩
    · unfold splitUnits
      simp only [List.mem_filterMap, List.mem_range, Option.ite_none_left_eq_some, Option.some.injEq]
      refine ⟨(k - a / n * n) / n, ?_, ?_, ?_⟩
      · simp only [List.length_append, List.length_replicate]
        have h3 : (k - a / n * n) + n ≤ a - a / n * n + data.length + n - 1 := by omega
        have h4 := Nat.div_le_div_right (c := n) h3
        rw [Nat.add_div_right _ hn] at h4
        exact h4
      · intro hall
        have hmem : (List.replicate (a - a / n * n) none ++ data)[k - a / n * n]?.join ≠ none := by
          rw [pad, show a / n * n + (k - a / n * n) = k by omega]; exact hk'
        cases e : (List.replicate (a - a / n * n) none ++ data)[k - a / n * n]? with
        | none => rw [e] at hmem; exact hmem rfl
        | some o =>
          cases o with
          | none => rw [e] at hmem; exact hmem rfl
          | some b =>
            have : some b ∈ (List.drop (n * ((k - a / n * n) / n)) (List.replicate (a - a / n * n) none ++ data)).take n := by
              refine List.mem_of_getElem? (i := (k - a / n * n) % n) ?_
              rw [List.getElem?_take_of_lt hml, List.getElem?_drop, hdm, e]
            simpa using List.all_eq_true.1 hall _ this
      · rw [← hkn]

/-- What a unit gives. -/
theorem given_unit {n a : Nat} (hn : 0 < n) {data : List (Option Byte)} {u : Nat × List (Option Byte)}
    (h : u.1 % n = 0 ∧ u.2.length = n ∧ ∀ i < n, u.2[i]?.join = given a data (u.1 + i)) (k : Nat) :
    given u.1 u.2 k = if u.1 = k / n * n then given a data k else none := by
  obtain ⟨h1, h2, h3⟩ := h
  have hm : n * (u.1 / n) = u.1 := Nat.mul_div_cancel' (Nat.dvd_of_mod_eq_zero h1)
  have hdm := Nat.div_add_mod k n
  have hml := Nat.mod_lt k hn
  have hc : k / n * n = n * (k / n) := Nat.mul_comm _ _
  by_cases hu : u.1 = k / n * n
  · rw [if_pos hu]
    unfold given
    rw [if_pos (by omega), h3 _ (by omega), show u.1 + (k - u.1) = k by omega]
    rfl
  · rw [if_neg hu]
    refine given_out _ _ _ ?_
    rw [h2]
    refine Classical.byContradiction fun hcon => ?_
    apply hu
    have : k / n = u.1 / n := by
      refine (Nat.div_eq_of_lt_le ?_ ?_) <;> rw [Nat.mul_comm]
      · omega
      · rw [Nat.mul_add]; omega
    rw [hc, this, hm]

/-- Laying the units one after another lays the run. -/
theorem lay_fold {n a : Nat} (hn : 0 < n) {data : List (Option Byte)} (l : List (Nat × List (Option Byte))) (f : Nat → Byte)
    (h : ∀ u ∈ l, u.1 % n = 0 ∧ u.2.length = n ∧ ∀ i < n, u.2[i]?.join = given a data (u.1 + i)) (k : Nat) :
    l.foldl (fun f u => lay f u.1 u.2) f k = if ∃ u ∈ l, u.1 = k / n * n then lay f a data k else f k := by
  induction l generalizing f with
  | nil => simp
  | cons u l ih =>
    rw [List.foldl_cons, ih _ fun x hx => h x (List.mem_cons_of_mem _ hx)]
    have hu := given_unit hn (h u List.mem_cons_self) k
    by_cases h1 : ∃ x ∈ l, x.1 = k / n * n
    · rw [if_pos h1, if_pos (by obtain ⟨x, hx, e⟩ := h1; exact ⟨x, List.mem_cons_of_mem _ hx, e⟩)]
      unfold lay
      rw [hu]
      split
      · cases given a data k <;> rfl
      · rfl
    · rw [if_neg h1]
      by_cases h2 : u.1 = k / n * n
      · rw [if_pos ⟨u, List.mem_cons_self, h2⟩]
        unfold lay; rw [hu, if_pos h2]
      · rw [if_neg (by rintro ⟨x, hx, e⟩; rcases List.mem_cons.1 hx with rfl | hx; exact h2 e; exact h1 ⟨x, hx, e⟩)]
        unfold lay; rw [hu, if_neg h2]; rfl

/-- Laying the units of a run one after another lays the run. -/
theorem lay_split (n : Nat) (hn : 0 < n) (a : Nat) (data : List (Option Byte)) (f : Nat → Byte) (k : Nat) :
    (splitUnits n a data).foldl (fun f u => lay f u.1 u.2) f k = lay f a data k := by
  have sp := spells n hn a data
  rw [lay_fold hn _ f fun u hu => (sp.1 u hu).1]
  split
  · rfl
  · rename_i hne
    have : given a data k = none := by
      refine Classical.byContradiction fun hc => ?_; exact hne (sp.2 k hc)
    unfold lay; rw [this]; rfl

/-- The units that a run touches. -/
theorem mem_units {n a u len : Nat} (hn : 0 < n) (h1 : u % n = 0) (h2 : a / n * n ≤ u) (h3 : u < a + len) (hl : len ≠ 0) :
    u ∈ unitsOf n a len := by
  unfold unitsOf
  rw [if_neg hl]
  simp only [List.mem_map, List.mem_range]
  have e := Nat.mul_div_cancel' (Nat.dvd_of_mod_eq_zero h1)
  have l1 : a / n ≤ u / n := by
    rw [Nat.le_div_iff_mul_le hn]; exact h2
  have l2 : u / n ≤ (a + len - 1) / n := Nat.div_le_div_right (by omega)
  refine ⟨u / n - a / n, by omega, ?_⟩
  rw [show a / n + (u / n - a / n) = u / n by omega, e]

/-- Where those units lie. -/
theorem units_range {n a u len : Nat} (h : u ∈ unitsOf n a len) : u % n = 0 ∧ u ≤ a + len - 1 := by
  unfold unitsOf at h
  split at h
  · simp at h
  · rename_i h0
    simp only [List.mem_map, List.mem_range] at h
    obtain ⟨i, hi, rfl⟩ := h
    have hle : a / n ≤ (a + len - 1) / n := Nat.div_le_div_right (by omega)
    refine ⟨Nat.mul_mod_right _ _, ?_⟩
    have : n * (a / n + i) ≤ n * ((a + len - 1) / n) := Nat.mul_le_mul_left _ (by omega)
    exact Nat.le_trans this (Nat.mul_div_le _ _)

/-- No bytes, no units. -/
theorem split_nil (n a : Nat) : splitUnits n a [] = [] := by
  unfold splitUnits
  rw [List.filterMap_eq_nil_iff]
  intro i _
  rw [if_pos]
  rw [List.all_eq_true]
  intro x hx
  have := List.mem_of_mem_drop (List.mem_of_mem_take hx)
  rw [List.append_nil] at this
  rw [List.eq_of_mem_replicate this]; rfl

/-- What is given lies in the run. -/
theorem given_some {w : Nat} {data : List (Option Byte)} {k : Nat} {b : Byte} (h : given w data k = some b) :
    w ≤ k ∧ k < w + data.length := by
  refine Classical.byContradiction fun hc => ?_
  rw [given_out w data k (by omega)] at h
  cases h

end Sys2Proof.Machine
end

