-- ==== Sys2Proof/Laws/Step.lean ====
section
/-!
SUPPORT. What every command does around its own effect: it answers a next state, leaves the queue alone, and delivers what
waits.
-/
namespace Sys2Proof.Machine

/-- A meaning that runs an effect is that effect, and what ends every command. -/
theorem does_of_act {i : Instr} {s u : State} {f : State → State} (he : exec i s = s.act f) (h : f s = u) :
    Does i s u := by
  subst h; exact he

/-- A command that does `u` answers a next state. -/
theorem Does.next {i : Instr} {s u : State} (h : Does i s u) : exec i s = .next { u.settle with pending := s.pending } := h

theorem State.act_next (s : State) (f : State → State) : s.act f = .next { (f s).settle with pending := s.pending } := rfl

end Sys2Proof.Machine
end

