-- ==== Sys2Proof/Laws/Does.lean ====
section
/-!
SUPPORT. Each command's own effect by the operation it calls: one lemma per command, so that no proof unfolds the
dispatcher. `does_<command> h` takes what the operation answers and gives what the command does.
-/
namespace Sys2Proof.Machine

theorem does_registerWrite (off : Nat) (bytes : List Byte) (by' : Origin) {s t : State}
    (ht : (s.regWriteBytes off bytes by') = t) : Does (.registerWrite off bytes by') s t :=
  does_of_act (f := fun s => s.regWriteBytes off bytes by') rfl ht

theorem does_inputSwitchClose (fell : Bool) {s t : State}
    (ht : (s.switchClose fell) = t) : Does (.inputSwitchClose fell) s t :=
  does_of_act (f := fun s => s.switchClose fell) rfl ht

theorem does_powerGood (pins : PowerPins) {s t : State}
    (ht : (s.powerGood pins) = t) : Does (.powerGood pins) s t :=
  does_of_act (f := fun s => s.powerGood pins) rfl ht

theorem does_sproutBoot (bridges : BitVec 10) {s t : State}
    (ht : (s.sproutBoot bridges.toNat) = t) : Does (.sproutBoot bridges) s t :=
  does_of_act (f := fun s => s.sproutBoot bridges.toNat) rfl ht

theorem does_warmReset (v : Word) (by' : Origin) {s t : State}
    (ht : (s.regWrite R.TOP_CTL v by') = t) : Does (.warmReset v by') s t :=
  does_of_act (f := fun s => s.regWrite R.TOP_CTL v by') rfl ht

theorem does_stateTimeout {s t : State}
    (ht : (s.stateTimeout) = t) : Does (.stateTimeout) s t :=
  does_of_act (f := fun s => s.stateTimeout) rfl ht

theorem does_stackTrainingDone (m : Fin 24) (r : TrainedStack) {s t : State}
    (ht : (s.stackTrained m.val r) = t) : Does (.stackTrainingDone m r) s t :=
  does_of_act (f := fun s => s.stackTrained m.val r) rfl ht

theorem does_memoryPass (slices : BitVec 24) {s t : State}
    (ht : (s.memoryPass slices.toNat) = t) : Does (.memoryPass slices) s t :=
  does_of_act (f := fun s => s.memoryPass slices.toNat) rfl ht

theorem does_fillDone (times : List Nat) {s t : State}
    (ht : (s.fillDone times) = t) : Does (.fillDone times) s t :=
  does_of_act (f := fun s => s.fillDone times) rfl ht

theorem does_unitPass (r : UnitTests) {s t : State}
    (ht : (s.unitPass r) = t) : Does (.unitPass r) s t :=
  does_of_act (f := fun s => s.unitPass r) rfl ht

theorem does_reqLinksWrite (v : Word) (by' : Origin) {s t : State}
    (ht : (s.regWrite R.TOP_REQ_LINKS v by') = t) : Does (.reqLinksWrite v by') s t :=
  does_of_act (f := fun s => s.regWrite R.TOP_REQ_LINKS v by') rfl ht

theorem does_reqWidthWrite (v : Word) (by' : Origin) {s t : State}
    (ht : (s.regWrite R.TOP_REQ_WIDTH v by') = t) : Does (.reqWidthWrite v by') s t :=
  does_of_act (f := fun s => s.regWrite R.TOP_REQ_WIDTH v by') rfl ht

theorem does_flashRead (v : Word) (by' : Origin) {s t : State}
    (ht : (s.regWrite R.TOP_FLASH_CTL v by') = t) : Does (.flashRead v by') s t :=
  does_of_act (f := fun s => s.regWrite R.TOP_FLASH_CTL v by') rfl ht

theorem does_flashProgram (v : Word) (by' : Origin) {s t : State}
    (ht : (s.regWrite R.TOP_FLASH_CTL v by') = t) : Does (.flashProgram v by') s t :=
  does_of_act (f := fun s => s.regWrite R.TOP_FLASH_CTL v by') rfl ht

theorem does_flashErase (v : Word) (by' : Origin) {s t : State}
    (ht : (s.regWrite R.TOP_FLASH_CTL v by') = t) : Does (.flashErase v by') s t :=
  does_of_act (f := fun s => s.regWrite R.TOP_FLASH_CTL v by') rfl ht

theorem does_flashCommandDone (error : Bool) {s t : State}
    (ht : (s.flashDone error) = t) : Does (.flashCommandDone error) s t :=
  does_of_act (f := fun s => s.flashDone error) rfl ht

theorem does_defectFlush {s t : State}
    (ht : (s.flushDefects) = t) : Does (.defectFlush) s t :=
  does_of_act (f := fun s => s.flushDefects) rfl ht

theorem does_masterEdge (sites : EdgeSites) {s t : State}
    (ht : (s.masterEdge sites) = t) : Does (.masterEdge sites) s t :=
  does_of_act (f := fun s => s.masterEdge sites) rfl ht

theorem does_beatInEdge (cycles : Nat) {s t : State}
    (ht : (s.beatInEdge cycles) = t) : Does (.beatInEdge cycles) s t :=
  does_of_act (f := fun s => s.beatInEdge cycles) rfl ht

theorem does_beatInMissed (sites : EdgeSites) {s t : State}
    (ht : (s.beatInMissed sites) = t) : Does (.beatInMissed sites) s t :=
  does_of_act (f := fun s => s.beatInMissed sites) rfl ht

theorem does_beatCntClr (v : Word) (by' : Origin) {s t : State}
    (ht : (s.regWrite R.TGL_BEAT_CTL v by') = t) : Does (.beatCntClr v by') s t :=
  does_of_act (f := fun s => s.regWrite R.TGL_BEAT_CTL v by') rfl ht

theorem does_beatPeriodWrite (v : Word) (by' : Origin) {s t : State}
    (ht : (s.regWrite R.TGL_BEAT_PERIOD v by') = t) : Does (.beatPeriodWrite v by') s t :=
  does_of_act (f := fun s => s.regWrite R.TGL_BEAT_PERIOD v by') rfl ht

theorem does_swStretchWrite (v : Word) (by' : Origin) {s t : State}
    (ht : (s.regWrite R.TGL_BEAT_STRETCH v by') = t) : Does (.swStretchWrite v by') s t :=
  does_of_act (f := fun s => s.regWrite R.TGL_BEAT_STRETCH v by') rfl ht

theorem does_beatSetRx (p : Fin 32) (copies : List (List Byte)) (sites : EdgeSites) {s t : State}
    (ht : (s.beatSetRx p.val copies sites) = t) : Does (.beatSetRx p copies sites) s t :=
  does_of_act (f := fun s => s.beatSetRx p.val copies sites) rfl ht

theorem does_missedBeat (sites : EdgeSites) {s t : State}
    (ht : (s.missedBeat sites) = t) : Does (.missedBeat sites) s t :=
  does_of_act (f := fun s => s.missedBeat sites) rfl ht

theorem does_freeRunEdge (sites : EdgeSites) {s t : State}
    (ht : (s.freeRunEdge sites) = t) : Does (.freeRunEdge sites) s t :=
  does_of_act (f := fun s => s.freeRunEdge sites) rfl ht

theorem does_beatRejoinRequired {s t : State}
    (ht : (s.rejoinRequired) = t) : Does (.beatRejoinRequired) s t :=
  does_of_act (f := fun s => s.rejoinRequired) rfl ht

theorem does_upstreamSwitch {s t : State}
    (ht : (s.upstreamFollow) = t) : Does (.upstreamSwitch) s t :=
  does_of_act (f := fun s => s.upstreamFollow) rfl ht

theorem does_latencyProbe (p : Fin 32) (stamp : BitVec 16) {s t : State}
    (ht : (s.latencyProbe p.val stamp) = t) : Does (.latencyProbe p stamp) s t :=
  does_of_act (f := fun s => s.latencyProbe p.val stamp) rfl ht

theorem does_probeRx (p : Fin 32) (copies : List (List Byte)) {s t : State}
    (ht : (s.probeRx p.val copies) = t) : Does (.probeRx p copies) s t :=
  does_of_act (f := fun s => s.probeRx p.val copies) rfl ht

theorem does_echoRx (p : Fin 32) (copies : List (List Byte)) (counter : BitVec 16) {s t : State}
    (ht : (s.echoRx p.val copies counter) = t) : Does (.echoRx p copies counter) s t :=
  does_of_act (f := fun s => s.echoRx p.val copies counter) rfl ht

theorem does_ownerEntryWrite (at' : OwnerTarget) (v : Word) (by' : Origin) {s t : State}
    (ht : (s.regWrite (ownerOffset at') v by') = t) : Does (.ownerEntryWrite at' v by') s t :=
  does_of_act (f := fun s => s.regWrite (ownerOffset at') v by') rfl ht

theorem does_ownerEntryApplied {s t : State}
    (ht : (s.ownersApplied) = t) : Does (.ownerEntryApplied) s t :=
  does_of_act (f := fun s => s.ownersApplied) rfl ht

theorem does_ctxActivate (v : Word) (by' : Origin) {s t : State}
    (ht : (s.regWrite R.ADT_CTX_CMD v by') = t) : Does (.ctxActivate v by') s t :=
  does_of_act (f := fun s => s.regWrite R.ADT_CTX_CMD v by') rfl ht

theorem does_ctxRetire (v : Word) (by' : Origin) {s t : State}
    (ht : (s.regWrite R.ADT_CTX_CMD v by') = t) : Does (.ctxRetire v by') s t :=
  does_of_act (f := fun s => s.regWrite R.ADT_CTX_CMD v by') rfl ht

theorem does_contextRetired (ctx : BitVec 12) {s t : State}
    (ht : (s.retireStep ctx.toNat) = t) : Does (.contextRetired ctx) s t :=
  does_of_act (f := fun s => s.retireStep ctx.toNat) rfl ht

theorem does_admit (d : Fin 8) {s t : State}
    (ht : (s.admitted (s.admitStart d.val)) = t) : Does (.admitNext d) s t :=
  does_of_act (f := fun s => s.admitted (s.admitStart d.val)) rfl ht

theorem does_admitTableReadDone (d : Fin 8) {s t : State}
    (ht : (s.admitted (s.admitRead d.val)) = t) : Does (.admitTableReadDone d) s t :=
  does_of_act (f := fun s => s.admitted (s.admitRead d.val)) rfl ht

theorem does_faultRecordCopy {s t : State}
    (ht : (s.faultCopy) = t) : Does (.faultRecordCopy) s t :=
  does_of_act (f := fun s => s.faultCopy) rfl ht

theorem does_faultRecordWriteDone {s t : State}
    (ht : (s.faultWritten) = t) : Does (.faultRecordWriteDone) s t :=
  does_of_act (f := fun s => s.faultWritten) rfl ht

theorem does_faultRecordRetry {s t : State}
    (ht : (s.faultAgain) = t) : Does (.faultRecordRetry) s t :=
  does_of_act (f := fun s => s.faultAgain) rfl ht

theorem does_faultResume (v : Word) {s t : State}
    (ht : (s.plainWrite R.ADT_RESUME v) = t) : Does (.faultResume v) s t :=
  does_of_act (f := fun s => s.plainWrite R.ADT_RESUME v) rfl ht

theorem does_faultAbort (v : Word) {s t : State}
    (ht : (s.plainWrite R.ADT_RESUME v) = t) : Does (.faultAbort v) s t :=
  does_of_act (f := fun s => s.plainWrite R.ADT_RESUME v) rfl ht

theorem does_invalidateEnqueue (v : Word) {s t : State}
    (ht : (s.plainWrite R.ADT_INV_ARG1 v) = t) : Does (.invalidateEnqueue v) s t :=
  does_of_act (f := fun s => s.plainWrite R.ADT_INV_ARG1 v) rfl ht

theorem does_invalidateRun {s t : State}
    (ht : (s.invalidateRun) = t) : Does (.invalidateRun) s t :=
  does_of_act (f := fun s => s.invalidateRun) rfl ht

theorem does_invalidateAck (u : Fin 272) {s t : State}
    (ht : (s.invalidateAck u.val) = t) : Does (.invalidateAck u) s t :=
  does_of_act (f := fun s => s.invalidateAck u.val) rfl ht

theorem does_invalidateTimeout {s t : State}
    (ht : (s.invalidateExpire) = t) : Does (.invalidateTimeout) s t :=
  does_of_act (f := fun s => s.invalidateExpire) rfl ht

theorem does_bridgeFailure (b : Fin 10) {s t : State}
    (ht : (s.bridgeFailure b.val) = t) : Does (.bridgeFailure b) s t :=
  does_of_act (f := fun s => s.bridgeFailure b.val) rfl ht

theorem does_ringConnectionFail (n : Fin 16) {s t : State}
    (ht : (s.ringConnectionFail n.val) = t) : Does (.ringConnectionFail n) s t :=
  does_of_act (f := fun s => s.ringConnectionFail n.val) rfl ht

theorem does_sbfRead (a : BitVec 41) (len : Nat) (ctx : BitVec 12) (hit : Upset) {s t : State}
    (ht : (s.holdBuffer a.toNat (.sbfRead a len ctx hit) fun s => s.bufferRead a.toNat len ctx.toNat hit) = t) : Does (.sbfRead a len ctx hit) s t :=
  does_of_act (f := fun s => s.holdBuffer a.toNat (.sbfRead a len ctx hit) fun s => s.bufferRead a.toNat len ctx.toNat hit) rfl ht

theorem does_sbfWrite (a : BitVec 41) (data : List (Option Byte)) (ctx : BitVec 12) (hit : Upset) {s t : State}
    (ht : (s.holdBuffer a.toNat (.sbfWrite a data ctx hit) fun s => s.bufferWrite a.toNat data ctx.toNat hit) = t) : Does (.sbfWrite a data ctx hit) s t :=
  does_of_act (f := fun s => s.holdBuffer a.toNat (.sbfWrite a data ctx hit) fun s => s.bufferWrite a.toNat data ctx.toNat hit) rfl ht

theorem does_sbfAtomic (a : BitVec 41) (op : BitVec 4) (size : Nat) (x y : Word) (returning : Bool) (ctx : BitVec 12) (hit : Upset) {s t : State}
    (ht : (s.holdBuffer a.toNat (.sbfAtomic a op size x y returning ctx hit) fun s => s.bufferAtomic a.toNat op.toNat size x.toNat y.toNat returning ctx.toNat hit) = t) : Does (.sbfAtomic a op size x y returning ctx hit) s t :=
  does_of_act (f := fun s => s.holdBuffer a.toNat (.sbfAtomic a op size x y returning ctx hit) fun s => s.bufferAtomic a.toNat op.toNat size x.toNat y.toNat returning ctx.toNat hit) rfl ht

theorem does_partitionClear (d : Fin 8) (v : Word) (by' : Origin) {s t : State}
    (ht : (s.regWrite (R.SBF_PART_CLR d.val) v by') = t) : Does (.partitionClear d v by') s t :=
  does_of_act (f := fun s => s.regWrite (R.SBF_PART_CLR d.val) v by') rfl ht

theorem does_partitionClearDone (d : Fin 8) {s t : State}
    (ht : (s.partitionCleared d.val) = t) : Does (.partitionClearDone d) s t :=
  does_of_act (f := fun s => s.partitionCleared d.val) rfl ht

theorem does_sbfScrub (a : BitVec 41) (last : Bool) (hit : Upset) {s t : State}
    (ht : (s.bufferScrub a.toNat last hit) = t) : Does (.sbfScrub a last hit) s t :=
  does_of_act (f := fun s => s.bufferScrub a.toNat last hit) rfl ht

theorem does_bankFence (a : BitVec 41) (source : Fin 5) {s t : State}
    (ht : (s.bankLost a.toNat source.val) = t) : Does (.bankFence a source) s t :=
  does_of_act (f := fun s => s.bankLost a.toNat source.val) rfl ht

theorem does_sbfErrPop (d : Fin 8) (v : Word) {s t : State}
    (ht : (s.plainWrite (R.SBF_ERR_POP d.val) v) = t) : Does (.sbfErrPop d v) s t :=
  does_of_act (f := fun s => s.plainWrite (R.SBF_ERR_POP d.val) v) rfl ht

theorem does_sbfCntClr (d : Fin 8) (v : Word) (by' : Origin) {s t : State}
    (ht : (s.regWrite (R.SBF_ERR_CTL d.val) v by') = t) : Does (.sbfCntClr d v by') s t :=
  does_of_act (f := fun s => s.regWrite (R.SBF_ERR_CTL d.val) v by') rfl ht

theorem does_sbfInjectArm (d : Fin 8) (v : Word) (by' : Origin) {s t : State}
    (ht : (s.regWrite (R.SBF_INJECT d.val) v by') = t) : Does (.sbfInjectArm d v by') s t :=
  does_of_act (f := fun s => s.regWrite (R.SBF_INJECT d.val) v by') rfl ht

theorem does_stkRead (a : BitVec 41) (len : Nat) (ctx : BitVec 12) (cls : Fin 16) (hit : DramUpset) {s t : State}
    (ht : (s.stackRead a.toNat len ctx.toNat cls.val hit) = t) : Does (.stkRead a len ctx cls hit) s t :=
  does_of_act (f := fun s => s.stackRead a.toNat len ctx.toNat cls.val hit) rfl ht

theorem does_stkWrite (a : BitVec 41) (data : List Byte) (ctx : BitVec 12) (cls : Fin 16) (hit : DramUpset) {s t : State}
    (ht : (s.stackWrite a.toNat (allBytes data) ctx.toNat cls.val hit) = t) : Does (.stkWrite a data ctx cls hit) s t :=
  does_of_act (f := fun s => s.stackWrite a.toNat (allBytes data) ctx.toNat cls.val hit) rfl ht

theorem does_stkPartialWrite (a : BitVec 41) (data : List (Option Byte)) (ctx : BitVec 12) (cls : Fin 16) (hit : DramUpset) {s t : State}
    (ht : (s.stackWrite a.toNat data ctx.toNat cls.val hit) = t) : Does (.stkPartialWrite a data ctx cls hit) s t :=
  does_of_act (f := fun s => s.stackWrite a.toNat data ctx.toNat cls.val hit) rfl ht

theorem does_rowPrecharge (m : Fin 24) (pc bank : Fin 64) {s t : State}
    (ht : (s.stkPrecharge m.val pc.val bank.val) = t) : Does (.rowPrecharge m pc bank) s t :=
  does_of_act (f := fun s => s.stkPrecharge m.val pc.val bank.val) rfl ht

theorem does_refresh (m : Fin 24) (pc bank : Fin 64) {s t : State}
    (ht : (s.stkRefresh m.val pc.val bank.val) = t) : Does (.refresh m pc bank) s t :=
  does_of_act (f := fun s => s.stkRefresh m.val pc.val bank.val) rfl ht

theorem does_stackTempRead (m : Fin 24) (temp : Byte) {s t : State}
    (ht : (s.stkTemp m.val temp.toNat) = t) : Does (.stackTempRead m temp) s t :=
  does_of_act (f := fun s => s.stkTemp m.val temp.toNat) rfl ht

theorem does_stkScrub (m : Fin 24) (pc bank : Fin 64) (row : Fin 16384) (last : Bool) (hit : DramUpset) {s t : State}
    (ht : (s.stackScrub m.val pc.val bank.val row.val last hit) = t) : Does (.stkScrub m pc bank row last hit) s t :=
  does_of_act (f := fun s => s.stackScrub m.val pc.val bank.val row.val last hit) rfl ht

theorem does_parityRetry (a : BitVec 41) (source : Fin 5) {s t : State}
    (ht : (s.stackParity a.toNat source.val) = t) : Does (.parityRetry a source) s t :=
  does_of_act (f := fun s => s.stackParity a.toNat source.val) rfl ht

theorem does_pcFence (a : BitVec 41) (source : Fin 5) {s t : State}
    (ht : (s.pcLost a.toNat source.val) = t) : Does (.pcFence a source) s t :=
  does_of_act (f := fun s => s.pcLost a.toNat source.val) rfl ht

theorem does_stkErrPop (m : Fin 24) (v : Word) {s t : State}
    (ht : (s.plainWrite (R.STK_ERR_POP m.val) v) = t) : Does (.stkErrPop m v) s t :=
  does_of_act (f := fun s => s.plainWrite (R.STK_ERR_POP m.val) v) rfl ht

theorem does_stkCntClr (m : Fin 24) (v : Word) (by' : Origin) {s t : State}
    (ht : (s.regWrite (R.STK_ERR_CTL m.val) v by') = t) : Does (.stkCntClr m v by') s t :=
  does_of_act (f := fun s => s.regWrite (R.STK_ERR_CTL m.val) v by') rfl ht

theorem does_stkInjectArm (m : Fin 24) (v : Word) (by' : Origin) {s t : State}
    (ht : (s.regWrite (R.STK_INJECT m.val) v by') = t) : Does (.stkInjectArm m v by') s t :=
  does_of_act (f := fun s => s.regWrite (R.STK_INJECT m.val) v by') rfl ht

theorem does_mscRead (a : BitVec 41) (len : Nat) (ctx : BitVec 12) (cls : Fin 16) (hint : Fin 3) (stream : Nat) (id : Nat) (tagErr : BitVec 16) (dataErr : Bool) {s t : State}
    (ht : (s.cacheRequest a.toNat len id (.mscRead a len ctx cls hint stream id tagErr dataErr)) = t) : Does (.mscRead a len ctx cls hint stream id tagErr dataErr) s t :=
  does_of_act (f := fun s => s.cacheRequest a.toNat len id (.mscRead a len ctx cls hint stream id tagErr dataErr)) rfl ht

theorem does_mscWrite (a : BitVec 41) (data : List (Option Byte)) (ctx : BitVec 12) (cls : Fin 16) (stream : Nat) (id : Nat) (tagErr : BitVec 16) {s t : State}
    (ht : (s.cacheRequest a.toNat data.length id (.mscWrite a data ctx cls stream id tagErr)) = t) : Does (.mscWrite a data ctx cls stream id tagErr) s t :=
  does_of_act (f := fun s => s.cacheRequest a.toNat data.length id (.mscWrite a data ctx cls stream id tagErr)) rfl ht

theorem does_mbHand (m : Fin 24) (index : Fin 64) (aged : Bool) {s t : State}
    (ht : (s.mbHandAt m.val index.val aged) = t) : Does (.mbHand m index aged) s t :=
  does_of_act (f := fun s => s.mbHandAt m.val index.val aged) rfl ht

theorem does_mbEntryFree (m : Fin 24) (index : Fin 64) (hit : DramUpset) {s t : State}
    (ht : (s.mbFreeAt m.val index.val hit) = t) : Does (.mbEntryFree m index hit) s t :=
  does_of_act (f := fun s => s.mbFreeAt m.val index.val hit) rfl ht

theorem does_mrIssue (m : Fin 24) (index : Fin 256) {s t : State}
    (ht : (s.mrIssueAt m.val index.val) = t) : Does (.mrIssue m index) s t :=
  does_of_act (f := fun s => s.mrIssueAt m.val index.val) rfl ht

theorem does_mrFill (m : Fin 24) (index : Fin 256) (hit : DramUpset) {s t : State}
    (ht : (s.mrFillAt m.val index.val hit) = t) : Does (.mrFill m index hit) s t :=
  does_of_act (f := fun s => s.mrFillAt m.val index.val hit) rfl ht

theorem does_mscDisable (m : Fin 24) (v : Word) (by' : Origin) {s t : State}
    (ht : (s.regWrite (R.MSC_CTL m.val) v by') = t) : Does (.mscDisable m v by') s t :=
  does_of_act (f := fun s => s.regWrite (R.MSC_CTL m.val) v by') rfl ht

theorem does_mscDisableDone (m : Fin 24) {s t : State}
    (ht : (s.mscDisabled m.val) = t) : Does (.mscDisableDone m) s t :=
  does_of_act (f := fun s => s.mscDisabled m.val) rfl ht

theorem does_mscEnable (m : Fin 24) (v : Word) (by' : Origin) {s t : State}
    (ht : (s.regWrite (R.MSC_CTL m.val) v by') = t) : Does (.mscEnable m v by') s t :=
  does_of_act (f := fun s => s.regWrite (R.MSC_CTL m.val) v by') rfl ht

theorem does_mscInvalidate (m : Fin 24) (v : Word) (by' : Origin) {s t : State}
    (ht : (s.regWrite (R.MSC_INV_ALL m.val) v by') = t) : Does (.mscInvalidate m v by') s t :=
  does_of_act (f := fun s => s.regWrite (R.MSC_INV_ALL m.val) v by') rfl ht

theorem does_mscInvalidateDone (m : Fin 24) {s t : State}
    (ht : (s.mscInvalidated m.val) = t) : Does (.mscInvalidateDone m) s t :=
  does_of_act (f := fun s => s.mscInvalidated m.val) rfl ht

theorem does_mscCntClr (m : Fin 24) (v : Word) (by' : Origin) {s t : State}
    (ht : (s.regWrite (R.MSC_CTL m.val) v by') = t) : Does (.mscCntClr m v by') s t :=
  does_of_act (f := fun s => s.regWrite (R.MSC_CTL m.val) v by') rfl ht

theorem does_dmvDoorbell (g : Fin 256) (q : Fin 16) (v : Word) {s t : State}
    (ht : (s.plainWrite (qTAIL (queueKey g.val q.val)) v) = t) : Does (.dmvDoorbell g q v) s t :=
  does_of_act (f := fun s => s.plainWrite (qTAIL (queueKey g.val q.val)) v) rfl ht

theorem does_descriptorFetch (g : Fin 256) {s t : State}
    (ht : (s.moverFetch g.val) = t) : Does (.descriptorFetch g) s t :=
  does_of_act (f := fun s => s.moverFetch g.val) rfl ht

theorem does_descriptorStart (g : Fin 256) (q : Fin 16) {s t : State}
    (ht : (s.descStart (queueKey g.val q.val)) = t) : Does (.descriptorStart g q) s t :=
  does_of_act (f := fun s => s.descStart (queueKey g.val q.val)) rfl ht

theorem does_descriptorComplete (g : Fin 256) (q : Fin 16) {s t : State}
    (ht : (s.descComplete (queueKey g.val q.val)) = t) : Does (.descriptorComplete g q) s t :=
  does_of_act (f := fun s => s.descComplete (queueKey g.val q.val)) rfl ht

theorem does_mcBranchTimeout (p : Fin 32) {s t : State}
    (ht : (s.branchTimeout p.val) = t) : Does (.mcBranchTimeout p) s t :=
  does_of_act (f := fun s => s.branchTimeout p.val) rfl ht

theorem does_queueEnable (g : Fin 256) (q : Fin 16) (v : Word) (by' : Origin) {s t : State}
    (ht : (s.regWrite (qCTL (queueKey g.val q.val)) v by') = t) : Does (.queueEnable g q v by') s t :=
  does_of_act (f := fun s => s.regWrite (qCTL (queueKey g.val q.val)) v by') rfl ht

theorem does_queueDisable (g : Fin 256) (q : Fin 16) (v : Word) (by' : Origin) {s t : State}
    (ht : (s.regWrite (qCTL (queueKey g.val q.val)) v by') = t) : Does (.queueDisable g q v by') s t :=
  does_of_act (f := fun s => s.regWrite (qCTL (queueKey g.val q.val)) v by') rfl ht

theorem does_queueReset (g : Fin 256) (q : Fin 16) (v : Word) (by' : Origin) {s t : State}
    (ht : (s.regWrite (qCTL (queueKey g.val q.val)) v by') = t) : Does (.queueReset g q v by') s t :=
  does_of_act (f := fun s => s.regWrite (qCTL (queueKey g.val q.val)) v by') rfl ht

theorem does_queueResetDone (g : Fin 256) (q : Fin 16) {s t : State}
    (ht : (s.queueResetDone (queueKey g.val q.val)) = t) : Does (.queueResetDone g q) s t :=
  does_of_act (f := fun s => s.queueResetDone (queueKey g.val q.val)) rfl ht

theorem does_moverLost (g : Fin 256) {s t : State}
    (ht : (s.moverLost g.val) = t) : Does (.moverLost g) s t :=
  does_of_act (f := fun s => s.moverLost g.val) rfl ht

theorem does_moverLossDrained (g : Fin 256) {s t : State}
    (ht : (s.moverDrained g.val) = t) : Does (.moverLossDrained g) s t :=
  does_of_act (f := fun s => s.moverDrained g.val) rfl ht

theorem does_dmvCntClr (g : Fin 256) (v : Word) {s t : State}
    (ht : (s.plainWrite (R.DMV_CTL g.val) v) = t) : Does (.dmvCntClr g v) s t :=
  does_of_act (f := fun s => s.plainWrite (R.DMV_CTL g.val) v) rfl ht

theorem does_barrierNotify (p : Fin 32) {s t : State}
    (ht : (s.barrierNotify p.val) = t) : Does (.barrierNotify p) s t :=
  does_of_act (f := fun s => s.barrierNotify p.val) rfl ht

theorem does_ringPacketRx (n : Fin 16) (west : Bool) (flips : Word) (spoiled : Bool) {s t : State}
    (ht : (s.ringArrive n.val west.toNat flips spoiled) = t) : Does (.ringPacketRx n west flips spoiled) s t :=
  does_of_act (f := fun s => s.ringArrive n.val west.toNat flips spoiled) rfl ht

theorem does_ringSlotStart (n : Fin 16) (west : Bool) (slot : Fin 64) {s t : State}
    (ht : (s.slotStart n.val west.toNat slot.val) = t) : Does (.ringSlotStart n west slot) s t :=
  does_of_act (f := fun s => s.slotStart n.val west.toNat slot.val) rfl ht

theorem does_ringCreditReturn (n : Fin 16) (west : Bool) {s t : State}
    (ht : (s.creditReturn n.val west.toNat) = t) : Does (.ringCreditReturn n west) s t :=
  does_of_act (f := fun s => s.creditReturn n.val west.toNat) rfl ht

theorem does_ringTableArm (n : Fin 16) (v : Word) (by' : Origin) {s t : State}
    (ht : (s.regWrite (R.NME_RING_ACT n.val) v by') = t) : Does (.ringTableArm n v by') s t :=
  does_of_act (f := fun s => s.regWrite (R.NME_RING_ACT n.val) v by') rfl ht

theorem does_ringWaitTimeout (n : Fin 16) {s t : State}
    (ht : (s.ringTimeout n.val) = t) : Does (.ringWaitTimeout n) s t :=
  does_of_act (f := fun s => s.ringTimeout n.val) rfl ht

theorem does_jobDoorbell (d : Fin 8) (r : Fin 32) (v : Word) {s t : State}
    (ht : (s.plainWrite (qTAIL (jobKey d.val r.val)) v) = t) : Does (.jobDoorbell d r v) s t :=
  does_of_act (f := fun s => s.plainWrite (qTAIL (jobKey d.val r.val)) v) rfl ht

theorem does_jobFetch (d : Fin 8) (r : Fin 32) {s t : State}
    (ht : (s.jobFetch (jobKey d.val r.val)) = t) : Does (.jobFetch d r) s t :=
  does_of_act (f := fun s => s.jobFetch (jobKey d.val r.val)) rfl ht

theorem does_jobRelease (d : Fin 8) {s t : State}
    (ht : (s.jobRelease d.val) = t) : Does (.jobRelease d) s t :=
  does_of_act (f := fun s => s.jobRelease d.val) rfl ht

theorem does_jobProgramLoad (n : Fin 16) {s t : State}
    (ht : (s.programLoad n.val) = t) : Does (.jobProgramLoad n) s t :=
  does_of_act (f := fun s => s.programLoad n.val) rfl ht

theorem does_jobComplete (d : Fin 8) (r : Fin 32) {s t : State}
    (ht : (s.jobComplete (jobKey d.val r.val)) = t) : Does (.jobComplete d r) s t :=
  does_of_act (f := fun s => s.jobComplete (jobKey d.val r.val)) rfl ht

theorem does_dspTokPost (d : Fin 8) (v : Word) {s t : State}
    (ht : (s.plainWrite (R.DSP_TOK_POST d.val) v) = t) : Does (.dspTokPost d v) s t :=
  does_of_act (f := fun s => s.plainWrite (R.DSP_TOK_POST d.val) v) rfl ht

theorem does_tokClear (d : Fin 8) (v : Word) {s t : State}
    (ht : (s.plainWrite (R.DSP_TOK_CMD d.val) v) = t) : Does (.tokClear d v) s t :=
  does_of_act (f := fun s => s.plainWrite (R.DSP_TOK_CMD d.val) v) rfl ht

theorem does_tokSet (d : Fin 8) (v : Word) {s t : State}
    (ht : (s.plainWrite (R.DSP_TOK_CMD d.val) v) = t) : Does (.tokSet d v) s t :=
  does_of_act (f := fun s => s.plainWrite (R.DSP_TOK_CMD d.val) v) rfl ht

theorem does_spillDone (n : Fin 16) {s t : State}
    (ht : (s.spillDone n.val) = t) : Does (.spillDone n) s t :=
  does_of_act (f := fun s => s.spillDone n.val) rfl ht

theorem does_reload (n : Fin 16) {s t : State}
    (ht : (s.reload n.val) = t) : Does (.reload n) s t :=
  does_of_act (f := fun s => s.reload n.val) rfl ht

theorem does_jobRingEnable (d : Fin 8) (r : Fin 32) (v : Word) (by' : Origin) {s t : State}
    (ht : (s.regWrite (qCTL (jobKey d.val r.val)) v by') = t) : Does (.jobRingEnable d r v by') s t :=
  does_of_act (f := fun s => s.regWrite (qCTL (jobKey d.val r.val)) v by') rfl ht

theorem does_jobRingReset (d : Fin 8) (r : Fin 32) (v : Word) (by' : Origin) {s t : State}
    (ht : (s.regWrite (qCTL (jobKey d.val r.val)) v by') = t) : Does (.jobRingReset d r v by') s t :=
  does_of_act (f := fun s => s.regWrite (qCTL (jobKey d.val r.val)) v by') rfl ht

theorem does_jobRingResetDone (d : Fin 8) (r : Fin 32) {s t : State}
    (ht : (s.jobRingResetDone (jobKey d.val r.val)) = t) : Does (.jobRingResetDone d r) s t :=
  does_of_act (f := fun s => s.jobRingResetDone (jobKey d.val r.val)) rfl ht

theorem does_nmeLost (n : Fin 16) {s t : State}
    (ht : (s.nmeLost n.val) = t) : Does (.nmeLost n) s t :=
  does_of_act (f := fun s => s.nmeLost n.val) rfl ht

theorem does_nmeCntClr (n : Fin 16) (v : Word) {s t : State}
    (ht : (s.plainWrite (R.NME_CTL n.val) v) = t) : Does (.nmeCntClr n v) s t :=
  does_of_act (f := fun s => s.plainWrite (R.NME_CTL n.val) v) rfl ht

theorem does_srSeedWrite (n : Fin 16) (v : Word) (by' : Origin) {s t : State}
    (ht : (s.regWrite (R.NME_SR_SEED n.val) v by') = t) : Does (.srSeedWrite n v by') s t :=
  does_of_act (f := fun s => s.regWrite (R.NME_SR_SEED n.val) v by') rfl ht

theorem does_add (n : Fin 16) {s t : State}
    (ht : (s.scalar n.val 0x01 opADD) = t) : Does (.add n) s t :=
  does_of_act (f := fun s => s.scalar n.val 0x01 opADD) rfl ht

theorem does_sub (n : Fin 16) {s t : State}
    (ht : (s.scalar n.val 0x02 opSUB) = t) : Does (.sub n) s t :=
  does_of_act (f := fun s => s.scalar n.val 0x02 opSUB) rfl ht

theorem does_mul (n : Fin 16) {s t : State}
    (ht : (s.scalar n.val 0x03 opMUL) = t) : Does (.mul n) s t :=
  does_of_act (f := fun s => s.scalar n.val 0x03 opMUL) rfl ht

theorem does_andOp (n : Fin 16) {s t : State}
    (ht : (s.scalar n.val 0x04 opAND) = t) : Does (.andOp n) s t :=
  does_of_act (f := fun s => s.scalar n.val 0x04 opAND) rfl ht

theorem does_orOp (n : Fin 16) {s t : State}
    (ht : (s.scalar n.val 0x05 opOR) = t) : Does (.orOp n) s t :=
  does_of_act (f := fun s => s.scalar n.val 0x05 opOR) rfl ht

theorem does_xorOp (n : Fin 16) {s t : State}
    (ht : (s.scalar n.val 0x06 opXOR) = t) : Does (.xorOp n) s t :=
  does_of_act (f := fun s => s.scalar n.val 0x06 opXOR) rfl ht

theorem does_sll (n : Fin 16) {s t : State}
    (ht : (s.scalar n.val 0x07 opSLL) = t) : Does (.sll n) s t :=
  does_of_act (f := fun s => s.scalar n.val 0x07 opSLL) rfl ht

theorem does_srl (n : Fin 16) {s t : State}
    (ht : (s.scalar n.val 0x08 opSRL) = t) : Does (.srl n) s t :=
  does_of_act (f := fun s => s.scalar n.val 0x08 opSRL) rfl ht

theorem does_sra (n : Fin 16) {s t : State}
    (ht : (s.scalar n.val 0x09 opSRA) = t) : Does (.sra n) s t :=
  does_of_act (f := fun s => s.scalar n.val 0x09 opSRA) rfl ht

theorem does_minOp (n : Fin 16) {s t : State}
    (ht : (s.scalar n.val 0x0A opMIN) = t) : Does (.minOp n) s t :=
  does_of_act (f := fun s => s.scalar n.val 0x0A opMIN) rfl ht

theorem does_maxOp (n : Fin 16) {s t : State}
    (ht : (s.scalar n.val 0x0B opMAX) = t) : Does (.maxOp n) s t :=
  does_of_act (f := fun s => s.scalar n.val 0x0B opMAX) rfl ht

theorem does_addi (n : Fin 16) {s t : State}
    (ht : (s.scalar n.val 0x0C opADDI) = t) : Does (.addi n) s t :=
  does_of_act (f := fun s => s.scalar n.val 0x0C opADDI) rfl ht

theorem does_li (n : Fin 16) {s t : State}
    (ht : (s.scalar n.val 0x0D opLI) = t) : Does (.li n) s t :=
  does_of_act (f := fun s => s.scalar n.val 0x0D opLI) rfl ht

theorem does_lui (n : Fin 16) {s t : State}
    (ht : (s.scalar n.val 0x0E opLUI) = t) : Does (.lui n) s t :=
  does_of_act (f := fun s => s.scalar n.val 0x0E opLUI) rfl ht

theorem does_nop (n : Fin 16) {s t : State}
    (ht : (s.nmeNop n.val) = t) : Does (.nop n) s t :=
  does_of_act (f := fun s => s.nmeNop n.val) rfl ht

theorem does_endOp (n : Fin 16) {s t : State}
    (ht : (s.nmeEnd n.val) = t) : Does (.endOp n) s t :=
  does_of_act (f := fun s => s.nmeEnd n.val) rfl ht

theorem does_br (n : Fin 16) {s t : State}
    (ht : (s.nmeBr n.val) = t) : Does (.br n) s t :=
  does_of_act (f := fun s => s.nmeBr n.val) rfl ht

theorem does_loop (n : Fin 16) {s t : State}
    (ht : (s.nmeLoop n.val) = t) : Does (.loop n) s t :=
  does_of_act (f := fun s => s.nmeLoop n.val) rfl ht

theorem does_waitbeat (n : Fin 16) {s t : State}
    (ht : (s.nmeWaitbeat n.val) = t) : Does (.waitbeat n) s t :=
  does_of_act (f := fun s => s.nmeWaitbeat n.val) rfl ht

theorem does_waittokScoreboard (n : Fin 16) {s t : State}
    (ht : (s.nmeWaittok n.val) = t) : Does (.waittokScoreboard n) s t :=
  does_of_act (f := fun s => s.nmeWaittok n.val) rfl ht

theorem does_waittokRing (n : Fin 16) {s t : State}
    (ht : (s.nmeWaitRing n.val) = t) : Does (.waittokRing n) s t :=
  does_of_act (f := fun s => s.nmeWaitRing n.val) rfl ht

theorem does_posttokScoreboard (n : Fin 16) {s t : State}
    (ht : (s.nmePosttok n.val) = t) : Does (.posttokScoreboard n) s t :=
  does_of_act (f := fun s => s.nmePosttok n.val) rfl ht

theorem does_posttokRing (n : Fin 16) {s t : State}
    (ht : (s.nmePostRing n.val) = t) : Does (.posttokRing n) s t :=
  does_of_act (f := fun s => s.nmePostRing n.val) rfl ht

theorem does_rds (n : Fin 16) {s t : State}
    (ht : (s.nmeRds n.val) = t) : Does (.rds n) s t :=
  does_of_act (f := fun s => s.nmeRds n.val) rfl ht

theorem does_wrs (n : Fin 16) {s t : State}
    (ht : (s.nmeWrs n.val) = t) : Does (.wrs n) s t :=
  does_of_act (f := fun s => s.nmeWrs n.val) rfl ht

theorem does_ldx (n : Fin 16) (hit : ScratchHit) {s t : State}
    (ht : (s.nmeLdx n.val hit) = t) : Does (.ldx n hit) s t :=
  does_of_act (f := fun s => s.nmeLdx n.val hit) rfl ht

theorem does_stx (n : Fin 16) {s t : State}
    (ht : (s.nmeStx n.val) = t) : Does (.stx n) s t :=
  does_of_act (f := fun s => s.nmeStx n.val) rfl ht

theorem does_gcfgLevel (n : Fin 16) {s t : State}
    (ht : (s.gcfgLevel n.val) = t) : Does (.gcfgLevel n) s t :=
  does_of_act (f := fun s => s.gcfgLevel n.val) rfl ht

theorem does_gcfgOffset (n : Fin 16) {s t : State}
    (ht : (s.gcfgOffset n.val) = t) : Does (.gcfgOffset n) s t :=
  does_of_act (f := fun s => s.gcfgOffset n.val) rfl ht

theorem does_gcfgRowstride (n : Fin 16) {s t : State}
    (ht : (s.gcfgRowstride n.val) = t) : Does (.gcfgRowstride n) s t :=
  does_of_act (f := fun s => s.gcfgRowstride n.val) rfl ht

theorem does_gcfgRun (n : Fin 16) {s t : State}
    (ht : (s.gcfgRun n.val) = t) : Does (.gcfgRun n) s t :=
  does_of_act (f := fun s => s.gcfgRun n.val) rfl ht

theorem does_gcfgIndirect (n : Fin 16) (hit : ScratchHit) {s t : State}
    (ht : (s.gcfgIndirect n.val hit) = t) : Does (.gcfgIndirect n hit) s t :=
  does_of_act (f := fun s => s.gcfgIndirect n.val hit) rfl ht

theorem does_sopen (n : Fin 16) {s t : State}
    (ht : (s.nmeSopen n.val) = t) : Does (.sopen n) s t :=
  does_of_act (f := fun s => s.nmeSopen n.val) rfl ht

theorem does_sclose (n : Fin 16) {s t : State}
    (ht : (s.nmeSclose n.val) = t) : Does (.sclose n) s t :=
  does_of_act (f := fun s => s.nmeSclose n.val) rfl ht

theorem does_ldt (n : Fin 16) (hit : ScratchHit) {s t : State}
    (ht : (s.nmeLdt n.val hit) = t) : Does (.ldt n hit) s t :=
  does_of_act (f := fun s => s.nmeLdt n.val hit) rfl ht

theorem does_stt (n : Fin 16) {s t : State}
    (ht : (s.nmeStt n.val) = t) : Does (.stt n) s t :=
  does_of_act (f := fun s => s.nmeStt n.val) rfl ht

theorem does_mma (n : Fin 16) (hit : ScratchHit) {s t : State}
    (ht : (s.nmeMma n.val hit) = t) : Does (.mma n hit) s t :=
  does_of_act (f := fun s => s.nmeMma n.val hit) rfl ht

theorem does_vma (n : Fin 16) (hit : ScratchHit) {s t : State}
    (ht : (s.nmeVma n.val hit) = t) : Does (.vma n hit) s t :=
  does_of_act (f := fun s => s.nmeVma n.val hit) rfl ht

theorem does_ewMov (n : Fin 16) {s t : State}
    (ht : (s.ewMov n.val) = t) : Does (.ewMov n) s t :=
  does_of_act (f := fun s => s.ewMov n.val) rfl ht

theorem does_ewAdd (n : Fin 16) {s t : State}
    (ht : (s.ewAdd n.val) = t) : Does (.ewAdd n) s t :=
  does_of_act (f := fun s => s.ewAdd n.val) rfl ht

theorem does_ewSub (n : Fin 16) {s t : State}
    (ht : (s.ewSub n.val) = t) : Does (.ewSub n) s t :=
  does_of_act (f := fun s => s.ewSub n.val) rfl ht

theorem does_ewMul (n : Fin 16) {s t : State}
    (ht : (s.ewMul n.val) = t) : Does (.ewMul n) s t :=
  does_of_act (f := fun s => s.ewMul n.val) rfl ht

theorem does_ewFma (n : Fin 16) {s t : State}
    (ht : (s.ewFma n.val) = t) : Does (.ewFma n) s t :=
  does_of_act (f := fun s => s.ewFma n.val) rfl ht

theorem does_ewMax (n : Fin 16) {s t : State}
    (ht : (s.ewMax n.val) = t) : Does (.ewMax n) s t :=
  does_of_act (f := fun s => s.ewMax n.val) rfl ht

theorem does_ewMin (n : Fin 16) {s t : State}
    (ht : (s.ewMin n.val) = t) : Does (.ewMin n) s t :=
  does_of_act (f := fun s => s.ewMin n.val) rfl ht

theorem does_ewAbs (n : Fin 16) {s t : State}
    (ht : (s.ewAbs n.val) = t) : Does (.ewAbs n) s t :=
  does_of_act (f := fun s => s.ewAbs n.val) rfl ht

theorem does_ewNeg (n : Fin 16) {s t : State}
    (ht : (s.ewNeg n.val) = t) : Does (.ewNeg n) s t :=
  does_of_act (f := fun s => s.ewNeg n.val) rfl ht

theorem does_ewRcp (n : Fin 16) {s t : State}
    (ht : (s.ewRcp n.val) = t) : Does (.ewRcp n) s t :=
  does_of_act (f := fun s => s.ewRcp n.val) rfl ht

theorem does_ewRsqrt (n : Fin 16) {s t : State}
    (ht : (s.ewRsqrt n.val) = t) : Does (.ewRsqrt n) s t :=
  does_of_act (f := fun s => s.ewRsqrt n.val) rfl ht

theorem does_exp2 (n : Fin 16) {s t : State}
    (ht : (s.nmeExp2 n.val) = t) : Does (.exp2 n) s t :=
  does_of_act (f := fun s => s.nmeExp2 n.val) rfl ht

theorem does_scale (n : Fin 16) {s t : State}
    (ht : (s.nmeScale n.val) = t) : Does (.scale n) s t :=
  does_of_act (f := fun s => s.nmeScale n.val) rfl ht

theorem does_rmax (n : Fin 16) {s t : State}
    (ht : (s.nmeRmax n.val) = t) : Does (.rmax n) s t :=
  does_of_act (f := fun s => s.nmeRmax n.val) rfl ht

theorem does_redSum (n : Fin 16) (hit : ScratchHit) {s t : State}
    (ht : (s.redSum n.val hit) = t) : Does (.redSum n hit) s t :=
  does_of_act (f := fun s => s.redSum n.val hit) rfl ht

theorem does_redMax (n : Fin 16) (hit : ScratchHit) {s t : State}
    (ht : (s.redMax n.val hit) = t) : Does (.redMax n hit) s t :=
  does_of_act (f := fun s => s.redMax n.val hit) rfl ht

theorem does_redMin (n : Fin 16) (hit : ScratchHit) {s t : State}
    (ht : (s.redMin n.val hit) = t) : Does (.redMin n hit) s t :=
  does_of_act (f := fun s => s.redMin n.val hit) rfl ht

theorem does_cvt (n : Fin 16) {s t : State}
    (ht : (s.nmeCvt n.val) = t) : Does (.cvt n) s t :=
  does_of_act (f := fun s => s.nmeCvt n.val) rfl ht

theorem does_pack (n : Fin 16) {s t : State}
    (ht : (s.nmePack n.val) = t) : Does (.pack n) s t :=
  does_of_act (f := fun s => s.nmePack n.val) rfl ht

theorem does_unpack (n : Fin 16) {s t : State}
    (ht : (s.nmeUnpack n.val) = t) : Does (.unpack n) s t :=
  does_of_act (f := fun s => s.nmeUnpack n.val) rfl ht

theorem does_topk (n : Fin 16) {s t : State}
    (ht : (s.nmeTopk n.val) = t) : Does (.topk n) s t :=
  does_of_act (f := fun s => s.nmeTopk n.val) rfl ht

theorem does_gath (n : Fin 16) (hit : ScratchHit) {s t : State}
    (ht : (s.nmeGath n.val hit) = t) : Does (.gath n hit) s t :=
  does_of_act (f := fun s => s.nmeGath n.val hit) rfl ht

theorem does_send (n : Fin 16) {s t : State}
    (ht : (s.nmeSend n.val) = t) : Does (.send n) s t :=
  does_of_act (f := fun s => s.nmeSend n.val) rfl ht

theorem does_recv (n : Fin 16) {s t : State}
    (ht : (s.nmeRecv n.val) = t) : Does (.recv n) s t :=
  does_of_act (f := fun s => s.nmeRecv n.val) rfl ht

theorem does_rred (n : Fin 16) {s t : State}
    (ht : (s.nmeRred n.val) = t) : Does (.rred n) s t :=
  does_of_act (f := fun s => s.nmeRred n.val) rfl ht

theorem does_fence (n : Fin 16) {s t : State}
    (ht : (s.nmeFence n.val) = t) : Does (.fence n) s t :=
  does_of_act (f := fun s => s.nmeFence n.val) rfl ht

theorem does_qfbInterval (m : Fin 24) (depth : Fin 8192) {s t : State}
    (ht : (s.qfbInterval m.val depth.val) = t) : Does (.qfbInterval m depth) s t :=
  does_of_act (f := fun s => s.qfbInterval m.val depth.val) rfl ht

theorem does_qfbCongested (src : Throttled) (m : Fin 24) {s t : State}
    (ht : (s.qfbReceive (sourceOf src) m.val true) = t) : Does (.qfbCongested src m) s t :=
  does_of_act (f := fun s => s.qfbReceive (sourceOf src) m.val true) rfl ht

theorem does_qfbClear (src : Throttled) (m : Fin 24) {s t : State}
    (ht : (s.qfbReceive (sourceOf src) m.val false) = t) : Does (.qfbClear src m) s t :=
  does_of_act (f := fun s => s.qfbReceive (sourceOf src) m.val false) rfl ht

theorem does_rglRecompute (at' : RglTarget) (v : Word) (by' : Origin) {s t : State}
    (ht : (s.regWrite (rglReg at') v by') = t) : Does (.rglRecompute at' v by') s t :=
  does_of_act (f := fun s => s.regWrite (rglReg at') v by') rfl ht

theorem does_rglRecomputeDone {s t : State}
    (ht : (s.rglDone) = t) : Does (.rglRecomputeDone) s t :=
  does_of_act (f := fun s => s.rglDone) rfl ht

theorem does_tdfArm (v : Word) (by' : Origin) {s t : State}
    (ht : (s.regWrite R.RGL_TDF_CTL v by') = t) : Does (.tdfArm v by') s t :=
  does_of_act (f := fun s => s.regWrite R.RGL_TDF_CTL v by') rfl ht

theorem does_rglCntClr (v : Word) (by' : Origin) {s t : State}
    (ht : (s.regWrite R.RGL_CTL v by') = t) : Does (.rglCntClr v by') s t :=
  does_of_act (f := fun s => s.regWrite R.RGL_CTL v by') rfl ht

theorem does_linkEnable (p : Fin 32) (v : Word) (by' : Origin) {s t : State}
    (ht : (s.regWrite (R.LNK_CTL p.val) v by') = t) : Does (.linkEnable p v by') s t :=
  does_of_act (f := fun s => s.regWrite (R.LNK_CTL p.val) v by') rfl ht

theorem does_linkDisable (p : Fin 32) (v : Word) (by' : Origin) {s t : State}
    (ht : (s.regWrite (R.LNK_CTL p.val) v by') = t) : Does (.linkDisable p v by') s t :=
  does_of_act (f := fun s => s.regWrite (R.LNK_CTL p.val) v by') rfl ht

theorem does_retrain (p : Fin 32) (v : Word) (by' : Origin) {s t : State}
    (ht : (s.regWrite (R.LNK_CTL p.val) v by') = t) : Does (.retrain p v by') s t :=
  does_of_act (f := fun s => s.regWrite (R.LNK_CTL p.val) v by') rfl ht

theorem does_lnkCntClr (p : Fin 32) (v : Word) (by' : Origin) {s t : State}
    (ht : (s.regWrite (R.LNK_CTL p.val) v by') = t) : Does (.lnkCntClr p v by') s t :=
  does_of_act (f := fun s => s.regWrite (R.LNK_CTL p.val) v by') rfl ht

theorem does_resetHoldEnd (p : Fin 32) {s t : State}
    (ht : (s.resetHoldEnd p.val) = t) : Does (.resetHoldEnd p) s t :=
  does_of_act (f := fun s => s.resetHoldEnd p.val) rfl ht

theorem does_detectSignal (p : Fin 32) (lanes : Byte) {s t : State}
    (ht : (s.detectSignal p.val lanes) = t) : Does (.detectSignal p lanes) s t :=
  does_of_act (f := fun s => s.detectSignal p.val lanes) rfl ht

theorem does_detectTimeout (p : Fin 32) {s t : State}
    (ht : (s.detectTimeout p.val) = t) : Does (.detectTimeout p) s t :=
  does_of_act (f := fun s => s.detectTimeout p.val) rfl ht

theorem does_absentCheck (p : Fin 32) (lanes : Byte) {s t : State}
    (ht : (s.absentCheck p.val lanes) = t) : Does (.absentCheck p lanes) s t :=
  does_of_act (f := fun s => s.absentCheck p.val lanes) rfl ht

theorem does_symbolLock (p : Fin 32) (lane : Fin 8) (inverted : Bool) (freq : Bool) {s t : State}
    (ht : (s.symbolLock p.val lane.val inverted freq) = t) : Does (.symbolLock p lane inverted freq) s t :=
  does_of_act (f := fun s => s.symbolLock p.val lane.val inverted freq) rfl ht

theorem does_alignEnd (p : Fin 32) (us : Nat) {s t : State}
    (ht : (s.alignEnd p.val) = t) : Does (.alignEnd p us) s t :=
  does_of_act (f := fun s => s.alignEnd p.val) rfl ht

theorem does_eqFastEnd (p : Fin 32) (eyes : List Byte) (us : Nat) {s t : State}
    (ht : (s.eqFastEnd p.val eyes) = t) : Does (.eqFastEnd p eyes us) s t :=
  does_of_act (f := fun s => s.eqFastEnd p.val eyes) rfl ht

theorem does_eqSearchStep (p : Fin 32) (eyes : List Byte) {s t : State}
    (ht : (s.eqSearchStep p.val eyes) = t) : Does (.eqSearchStep p eyes) s t :=
  does_of_act (f := fun s => s.eqSearchStep p.val eyes) rfl ht

theorem does_eqSearchEnd (p : Fin 32) (us : Nat) {s t : State}
    (ht : (s.eqSearchEnd p.val) = t) : Does (.eqSearchEnd p us) s t :=
  does_of_act (f := fun s => s.eqSearchEnd p.val) rfl ht

theorem does_trainSetRx (p : Fin 32) (copies : List (Fin 8 × List Byte)) (us : Nat) {s t : State}
    (ht : (s.trainRx p.val (copies.map fun c => (c.1.val, c.2)) us) = t) : Does (.trainSetRx p copies us) s t :=
  by
  subst ht; rfl

theorem does_laneCheckTimeout (p : Fin 32) (us : Nat) {s t : State}
    (ht : (s.laneCheckTimeout p.val us) = t) : Does (.laneCheckTimeout p us) s t :=
  does_of_act (f := fun s => s.laneCheckTimeout p.val us) rfl ht

theorem does_configTimeout (p : Fin 32) (us : Nat) {s t : State}
    (ht : (s.configTimeout p.val us) = t) : Does (.configTimeout p us) s t :=
  does_of_act (f := fun s => s.configTimeout p.val us) rfl ht

theorem does_heldDownRetry (p : Fin 32) {s t : State}
    (ht : (s.heldDownRetry p.val) = t) : Does (.heldDownRetry p) s t :=
  does_of_act (f := fun s => s.heldDownRetry p.val) rfl ht

theorem does_alignLoss (p : Fin 32) (lane : Fin 8) {s t : State}
    (ht : (s.alignLoss p.val lane.val) = t) : Does (.alignLoss p lane) s t :=
  does_of_act (f := fun s => s.alignLoss p.val lane.val) rfl ht

theorem does_errors (p : Fin 32) (lane : Fin 8) (codeErrors dispErrors : Nat) {s t : State}
    (ht : (s.codeErrors p.val lane.val codeErrors dispErrors) = t) : Does (.errors p lane codeErrors dispErrors) s t :=
  does_of_act (f := fun s => s.codeErrors p.val lane.val codeErrors dispErrors) rfl ht

theorem does_elastic (p : Fin 32) (lane : Fin 8) (fill : Fin 65) {s t : State}
    (ht : (s.elasticFill p.val lane.val fill.val) = t) : Does (.elastic p lane fill) s t :=
  does_of_act (f := fun s => s.elasticFill p.val lane.val fill.val) rfl ht

theorem does_deskew (p : Fin 32) {s t : State}
    (ht : (s.deskewFault p.val) = t) : Does (.deskew p) s t :=
  does_of_act (f := fun s => s.deskewFault p.val) rfl ht

theorem does_lossOfSignal (p : Fin 32) {s t : State}
    (ht : (s.linkFault p.val lrLOSS_OF_SIGNAL) = t) : Does (.lossOfSignal p) s t :=
  does_of_act (f := fun s => s.linkFault p.val lrLOSS_OF_SIGNAL) rfl ht

theorem does_eyeMeasure (p : Fin 32) (eyes : List Byte) {s t : State}
    (ht : (s.eyeMeasure p.val eyes) = t) : Does (.eyeMeasure p eyes) s t :=
  does_of_act (f := fun s => s.eyeMeasure p.val eyes) rfl ht

theorem does_rd (p : Fin 32) (hdr : BitVec 128) (payload : List Byte) (crc : BitVec 32) {s t : State}
    (ht : (s.rxHusk p.val Husk.RD hdr payload crc) = t) : Does (.rd p hdr payload crc) s t :=
  does_of_act (f := fun s => s.rxHusk p.val Husk.RD hdr payload crc) rfl ht

theorem does_wr (p : Fin 32) (hdr : BitVec 128) (payload : List Byte) (crc : BitVec 32) {s t : State}
    (ht : (s.rxHusk p.val Husk.WR hdr payload crc) = t) : Does (.wr p hdr payload crc) s t :=
  does_of_act (f := fun s => s.rxHusk p.val Husk.WR hdr payload crc) rfl ht

theorem does_atPost (p : Fin 32) (hdr : BitVec 128) (payload : List Byte) (crc : BitVec 32) {s t : State}
    (ht : (s.rxHusk p.val Husk.AT hdr payload crc) = t) : Does (.atPost p hdr payload crc) s t :=
  does_of_act (f := fun s => s.rxHusk p.val Husk.AT hdr payload crc) rfl ht

theorem does_atr (p : Fin 32) (hdr : BitVec 128) (payload : List Byte) (crc : BitVec 32) {s t : State}
    (ht : (s.rxHusk p.val Husk.ATR hdr payload crc) = t) : Does (.atr p hdr payload crc) s t :=
  does_of_act (f := fun s => s.rxHusk p.val Husk.ATR hdr payload crc) rfl ht

theorem does_mcw (p : Fin 32) (hdr : BitVec 128) (payload : List Byte) (crc : BitVec 32) {s t : State}
    (ht : (s.rxHusk p.val Husk.MCW hdr payload crc) = t) : Does (.mcw p hdr payload crc) s t :=
  does_of_act (f := fun s => s.rxHusk p.val Husk.MCW hdr payload crc) rfl ht

theorem does_bar (p : Fin 32) (hdr : BitVec 128) (payload : List Byte) (crc : BitVec 32) {s t : State}
    (ht : (s.rxHusk p.val Husk.BAR hdr payload crc) = t) : Does (.bar p hdr payload crc) s t :=
  does_of_act (f := fun s => s.rxHusk p.val Husk.BAR hdr payload crc) rfl ht

theorem does_mbar (p : Fin 32) (hdr : BitVec 128) (payload : List Byte) (crc : BitVec 32) {s t : State}
    (ht : (s.rxHusk p.val Husk.MBAR hdr payload crc) = t) : Does (.mbar p hdr payload crc) s t :=
  does_of_act (f := fun s => s.rxHusk p.val Husk.MBAR hdr payload crc) rfl ht

theorem does_rsp (p : Fin 32) (hdr : BitVec 128) (payload : List Byte) (crc : BitVec 32) {s t : State}
    (ht : (s.rxHusk p.val Husk.RSP hdr payload crc) = t) : Does (.rsp p hdr payload crc) s t :=
  does_of_act (f := fun s => s.rxHusk p.val Husk.RSP hdr payload crc) rfl ht

theorem does_crd (p : Fin 32) (hdr : BitVec 128) (payload : List Byte) (crc : BitVec 32) {s t : State}
    (ht : (s.rxHusk p.val Husk.CRD hdr payload crc) = t) : Does (.crd p hdr payload crc) s t :=
  does_of_act (f := fun s => s.rxHusk p.val Husk.CRD hdr payload crc) rfl ht

theorem does_framingError (p : Fin 32) {s t : State}
    (ht : (s.framingError p.val) = t) : Does (.framingError p) s t :=
  does_of_act (f := fun s => s.framingError p.val) rfl ht

theorem does_huskSend (p : Fin 32) {s t : State}
    (ht : (s.huskSend p.val) = t) : Does (.huskSend p) s t :=
  does_of_act (f := fun s => s.huskSend p.val) rfl ht

theorem does_crdSend (p : Fin 32) {s t : State}
    (ht : (s.crdSend p.val) = t) : Does (.crdSend p) s t :=
  does_of_act (f := fun s => s.crdSend p.val) rfl ht

theorem does_tagTimeout (pool : Fin 66) (tag : Fin 4096) {s t : State}
    (ht : (s.tagTimeout pool.val tag.val) = t) : Does (.tagTimeout pool tag) s t :=
  does_of_act (f := fun s => s.tagTimeout pool.val tag.val) rfl ht

theorem does_routeHoldEnd (dest : Fin 64) {s t : State}
    (ht : (s.routeHoldEnd dest.val) = t) : Does (.routeHoldEnd dest) s t :=
  does_of_act (f := fun s => s.routeHoldEnd dest.val) rfl ht

theorem does_forkCopyDrop (p : Fin 32) (index : Nat) {s t : State}
    (ht : (s.forkCopyDrop p.val index) = t) : Does (.forkCopyDrop p index) s t :=
  does_of_act (f := fun s => s.forkCopyDrop p.val index) rfl ht

theorem does_hello (p : Fin 32) (b : HelloBody) {s t : State}
    (ht : (s.helloRx p.val b) = t) : Does (.hello p b) s t :=
  does_of_act (f := fun s => s.helloRx p.val b) rfl ht

theorem does_masterElected {s t : State}
    (ht : (s.masterElected) = t) : Does (.masterElected) s t :=
  does_of_act (f := fun s => s.masterElected) rfl ht

theorem does_join (p : Fin 32) (h : CtlHead) (b : JoinBody) {s t : State}
    (ht : (s.joinRx p.val h b) = t) : Does (.join p h b) s t :=
  does_of_act (f := fun s => s.joinRx p.val h b) rfl ht

theorem does_assign (p : Fin 32) (h : CtlHead) (b : AssignBody) {s t : State}
    (ht : (s.assignRx p.val h b) = t) : Does (.assign p h b) s t :=
  does_of_act (f := fun s => s.assignRx p.val h b) rfl ht

theorem does_members (p : Fin 32) (h : CtlHead) (version : BitVec 32) (rows : List MemberRow) {s t : State}
    (ht : (s.membersRx p.val h version rows) = t) : Does (.members p h version rows) s t :=
  does_of_act (f := fun s => s.membersRx p.val h version rows) rfl ht

theorem does_routes (p : Fin 32) (h : CtlHead) (version : BitVec 32) (rows : List RouteRow) {s t : State}
    (ht : (s.routesRx p.val h version rows) = t) : Does (.routes p h version rows) s t :=
  does_of_act (f := fun s => s.routesRx p.val h version rows) rfl ht

theorem does_groups (p : Fin 32) (h : CtlHead) (version : BitVec 32) (rows : List GroupRow) {s t : State}
    (ht : (s.groupsRx p.val h version rows) = t) : Does (.groups p h version rows) s t :=
  does_of_act (f := fun s => s.groupsRx p.val h version rows) rfl ht

theorem does_portDown (p : Fin 32) (h : CtlHead) (port : Fin 32) (far : BitVec 6) {s t : State}
    (ht : (s.portDownRx p.val h port far) = t) : Does (.portDown p h port far) s t :=
  does_of_act (f := fun s => s.portDownRx p.val h port far) rfl ht

theorem does_portUp (p : Fin 32) (h : CtlHead) (port : Fin 32) (far : BitVec 6) {s t : State}
    (ht : (s.portUpRx p.val h port far) = t) : Does (.portUp p h port far) s t :=
  does_of_act (f := fun s => s.portUpRx p.val h port far) rfl ht

theorem does_leave (p : Fin 32) (h : CtlHead) (id : BitVec 6) {s t : State}
    (ht : (s.leaveRx p.val h id) = t) : Does (.leave p h id) s t :=
  does_of_act (f := fun s => s.leaveRx p.val h id) rfl ht

theorem does_stretch (p : Fin 32) (h : CtlHead) (level : BitVec 4) {s t : State}
    (ht : (s.stretchRx p.val h level) = t) : Does (.stretch p h level) s t :=
  does_of_act (f := fun s => s.stretchRx p.val h level) rfl ht

theorem does_beatQuery (p : Fin 32) (h : CtlHead) {s t : State}
    (ht : (s.beatQueryRx p.val h) = t) : Does (.beatQuery p h) s t :=
  does_of_act (f := fun s => s.beatQueryRx p.val h) rfl ht

theorem does_beatReply (p : Fin 32) (h : CtlHead) (number : BitVec 48) {s t : State}
    (ht : (s.beatReplyRx p.val h number) = t) : Does (.beatReply p h number) s t :=
  does_of_act (f := fun s => s.beatReplyRx p.val h number) rfl ht

theorem does_ack (p : Fin 32) (h : CtlHead) (code : Byte) (version : BitVec 32) {s t : State}
    (ht : (s.ackRx p.val h code version) = t) : Does (.ack p h code version) s t :=
  does_of_act (f := fun s => s.ackRx p.val h code version) rfl ht

theorem does_ctlResend {s t : State}
    (ht : (s.ctlResend) = t) : Does (.ctlResend) s t :=
  does_of_act (f := fun s => s.ctlResend) rfl ht

theorem does_memberRemove (m : Fin 64) {s t : State}
    (ht : (s.memberRemove m.val) = t) : Does (.memberRemove m) s t :=
  does_of_act (f := fun s => s.memberRemove m.val) rfl ht

theorem does_podLeave (v : Word) {s t : State}
    (ht : (s.plainWrite R.TGL_POD_CTL v) = t) : Does (.podLeave v) s t :=
  does_of_act (f := fun s => s.plainWrite R.TGL_POD_CTL v) rfl ht

theorem does_tglPortCntClr (p : Fin 32) (v : Word) (by' : Origin) {s t : State}
    (ht : (s.regWrite (R.TGL_PORT_CTL p.val) v by') = t) : Does (.tglPortCntClr p v by') s t :=
  does_of_act (f := fun s => s.regWrite (R.TGL_PORT_CTL p.val) v by') rfl ht

theorem does_tglLogClr (p : Fin 32) (v : Word) (by' : Origin) {s t : State}
    (ht : (s.regWrite (R.TGL_PORT_CTL p.val) v by') = t) : Does (.tglLogClr p v by') s t :=
  does_of_act (f := fun s => s.regWrite (R.TGL_PORT_CTL p.val) v by') rfl ht

theorem does_tdiRd (d : Fin 8) (p : Fin 64) (word : BitVec 128) {s t : State}
    (ht : (s.tdiCommand d.val p.val tdRD word) = t) : Does (.tdiRd d p word) s t :=
  does_of_act (f := fun s => s.tdiCommand d.val p.val tdRD word) rfl ht

theorem does_tdiWr (d : Fin 8) (p : Fin 64) (word : BitVec 128) {s t : State}
    (ht : (s.tdiCommand d.val p.val tdWR word) = t) : Does (.tdiWr d p word) s t :=
  does_of_act (f := fun s => s.tdiCommand d.val p.val tdWR word) rfl ht

theorem does_tdiAt (d : Fin 8) (p : Fin 64) (word : BitVec 128) {s t : State}
    (ht : (s.tdiCommand d.val p.val tdAT word) = t) : Does (.tdiAt d p word) s t :=
  does_of_act (f := fun s => s.tdiCommand d.val p.val tdAT word) rfl ht

theorem does_tdiAtr (d : Fin 8) (p : Fin 64) (word : BitVec 128) {s t : State}
    (ht : (s.tdiCommand d.val p.val tdATR word) = t) : Does (.tdiAtr d p word) s t :=
  does_of_act (f := fun s => s.tdiCommand d.val p.val tdATR word) rfl ht

theorem does_tdiFence (d : Fin 8) (p : Fin 64) (word : BitVec 128) {s t : State}
    (ht : (s.tdiCommand d.val p.val tdFENCE word) = t) : Does (.tdiFence d p word) s t :=
  does_of_act (f := fun s => s.tdiCommand d.val p.val tdFENCE word) rfl ht

theorem does_tdiWaittok (d : Fin 8) (p : Fin 64) (word : BitVec 128) {s t : State}
    (ht : (s.tdiCommand d.val p.val tdWAITTOK word) = t) : Does (.tdiWaittok d p word) s t :=
  does_of_act (f := fun s => s.tdiCommand d.val p.val tdWAITTOK word) rfl ht

theorem does_tdiWaittokTimeout (d : Fin 8) (p : Fin 64) (tag : Fin 1024) {s t : State}
    (ht : (s.siteWaitTimeout (64 * d.val + p.val) tag.val) = t) : Does (.tdiWaittokTimeout d p tag) s t :=
  does_of_act (f := fun s => s.siteWaitTimeout (64 * d.val + p.val) tag.val) rfl ht

theorem does_tdiDataFlit (d : Fin 8) (p : Fin 64) (data : BitVec 512) (mask : BitVec 64) (parity : Byte) {s t : State}
    (ht : (s.tdiFlit d.val p.val data mask parity) = t) : Does (.tdiDataFlit d p data mask parity) s t :=
  does_of_act (f := fun s => s.tdiFlit d.val p.val data mask parity) rfl ht

theorem does_tdiUnfence (d : Fin 8) (p : Fin 64) (v : Word) (by' : Origin) {s t : State}
    (ht : (s.regWrite (R.TDI_PORT_CFG d.val p.val) v by') = t) : Does (.tdiUnfence d p v by') s t :=
  does_of_act (f := fun s => s.regWrite (R.TDI_PORT_CFG d.val p.val) v by') rfl ht

theorem does_tdiCntClr (d : Fin 8) (v : Word) {s t : State}
    (ht : (s.plainWrite (R.TDI_CTL d.val) v) = t) : Does (.tdiCntClr d v) s t :=
  does_of_act (f := fun s => s.plainWrite (R.TDI_CTL d.val) v) rfl ht

theorem does_grantArm (d : Fin 8) (v : Word) (by' : Origin) {s t : State}
    (ht : (s.regWrite (R.TDI_PWR_GRANT d.val) v by') = t) : Does (.grantArm d v by') s t :=
  does_of_act (f := fun s => s.regWrite (R.TDI_PWR_GRANT d.val) v by') rfl ht

theorem does_eicDoorbellAssert (v : Word) {s t : State}
    (ht : (s.plainWrite R.EIC_DOORBELL v) = t) : Does (.eicDoorbellAssert v) s t :=
  does_of_act (f := fun s => s.plainWrite R.EIC_DOORBELL v) rfl ht

theorem does_eicDoorbellDeassert (v : Word) {s t : State}
    (ht : (s.plainWrite R.EIC_DOORBELL v) = t) : Does (.eicDoorbellDeassert v) s t :=
  does_of_act (f := fun s => s.plainWrite R.EIC_DOORBELL v) rfl ht

theorem does_eicCDoorbell (c : Fin 11) (v : Word) {s t : State}
    (ht : (s.plainWrite (R.EIC_C_DOORBELL c.val) v) = t) : Does (.eicCDoorbell c v) s t :=
  does_of_act (f := fun s => s.plainWrite (R.EIC_C_DOORBELL c.val) v) rfl ht

theorem does_pendSet (at' : Bank) (v : Word) {s t : State}
    (ht : (s.plainWrite (bankReg R.EIC_PEND_SET R.EIC_C_PEND_SET at') v) = t) : Does (.pendSet at' v) s t :=
  does_of_act (f := fun s => s.plainWrite (bankReg R.EIC_PEND_SET R.EIC_C_PEND_SET at') v) rfl ht

theorem does_pendClr (at' : Bank) (v : Word) {s t : State}
    (ht : (s.plainWrite (bankReg R.EIC_PEND_CLR R.EIC_C_PEND_CLR at') v) = t) : Does (.pendClr at' v) s t :=
  does_of_act (f := fun s => s.plainWrite (bankReg R.EIC_PEND_CLR R.EIC_C_PEND_CLR at') v) rfl ht

theorem does_enSet (at' : Bank) (v : Word) (by' : Origin) {s t : State}
    (ht : (s.regWrite (bankReg R.EIC_EN_SET R.EIC_C_EN_SET at') v by') = t) : Does (.enSet at' v by') s t :=
  does_of_act (f := fun s => s.regWrite (bankReg R.EIC_EN_SET R.EIC_C_EN_SET at') v by') rfl ht

theorem does_enClr (at' : Bank) (v : Word) (by' : Origin) {s t : State}
    (ht : (s.regWrite (bankReg R.EIC_EN_CLR R.EIC_C_EN_CLR at') v by') = t) : Does (.enClr at' v by') s t :=
  does_of_act (f := fun s => s.regWrite (bankReg R.EIC_EN_CLR R.EIC_C_EN_CLR at') v by') rfl ht

theorem does_claim (c : Fin 11) (skew : Fin 8) (size : Nat) {s t : State}
    (ht : (s.readClaim c.val skew.val size) = t) : Does (.claim c skew size) s t :=
  does_of_act (f := fun s => s.readClaim c.val skew.val size) rfl ht

theorem does_eoi (c : Fin 11) (v : Word) {s t : State}
    (ht : (s.plainWrite (R.EIC_C_EOI c.val) v) = t) : Does (.eoi c v) s t :=
  does_of_act (f := fun s => s.plainWrite (R.EIC_C_EOI c.val) v) rfl ht

theorem does_maskSet (c : Fin 11) (v : Word) {s t : State}
    (ht : (s.plainWrite (R.EIC_C_MASK_SET c.val) v) = t) : Does (.maskSet c v) s t :=
  does_of_act (f := fun s => s.plainWrite (R.EIC_C_MASK_SET c.val) v) rfl ht

theorem does_maskClr (c : Fin 11) (v : Word) {s t : State}
    (ht : (s.plainWrite (R.EIC_C_MASK_CLR c.val) v) = t) : Does (.maskClr c v) s t :=
  does_of_act (f := fun s => s.plainWrite (R.EIC_C_MASK_CLR c.val) v) rfl ht

theorem does_coreSleep (c : Fin 11) {s t : State}
    (ht : (s.coreSleep c.val) = t) : Does (.coreSleep c) s t :=
  does_of_act (f := fun s => s.coreSleep c.val) rfl ht

theorem does_hvTrig (v : Word) {s t : State}
    (ht : (s.plainWrite R.EIC_HV_TRIG v) = t) : Does (.hvTrig v) s t :=
  does_of_act (f := fun s => s.plainWrite R.EIC_HV_TRIG v) rfl ht

theorem does_hvCeiling (vec : Fin 4096) {s t : State}
    (ht : (s.hvCeiling vec.val) = t) : Does (.hvCeiling vec) s t :=
  does_of_act (f := fun s => s.hvCeiling vec.val) rfl ht

theorem does_hvRetry (vec : Fin 4096) {s t : State}
    (ht : (s.hvRetry vec.val) = t) : Does (.hvRetry vec) s t :=
  does_of_act (f := fun s => s.hvRetry vec.val) rfl ht

theorem does_eicCntClr (v : Word) {s t : State}
    (ht : (s.plainWrite R.EIC_CTL v) = t) : Does (.eicCntClr v) s t :=
  does_of_act (f := fun s => s.plainWrite R.EIC_CTL v) rfl ht

theorem does_mbxGo (i : Fin 17) (v : Word) {s t : State}
    (ht : (s.plainWrite (R.MBX_CTL i.val) v) = t) : Does (.mbxGo i v) s t :=
  does_of_act (f := fun s => s.plainWrite (R.MBX_CTL i.val) v) rfl ht

theorem does_mbxAck (i : Fin 17) (v : Word) {s t : State}
    (ht : (s.plainWrite (R.MBX_CTL i.val) v) = t) : Does (.mbxAck i v) s t :=
  does_of_act (f := fun s => s.plainWrite (R.MBX_CTL i.val) v) rfl ht

theorem does_quiesce (i : Fin 16) {s t : State}
    (ht : (s.mbQuiesce i.val) = t) : Does (.quiesce i) s t :=
  does_of_act (f := fun s => s.mbQuiesce i.val) rfl ht

theorem does_quiesceLimit {s t : State}
    (ht : (s.quiesceLimit) = t) : Does (.quiesceLimit) s t :=
  does_of_act (f := fun s => s.quiesceLimit) rfl ht

theorem does_quiesceDone {s t : State}
    (ht : (s.quiesceDone) = t) : Does (.quiesceDone) s t :=
  does_of_act (f := fun s => s.quiesceDone) rfl ht

theorem does_quiesceEnter {s t : State}
    (ht : (s.quiesceLeave) = t) : Does (.quiesceEnter) s t :=
  does_of_act (f := fun s => s.quiesceLeave) rfl ht

theorem does_mbxVersion (i : Fin 16) {s t : State}
    (ht : (s.mbVersion i.val) = t) : Does (.mbxVersion i) s t :=
  does_of_act (f := fun s => s.mbVersion i.val) rfl ht

theorem does_mbxHello (i : Fin 16) (straps : BitVec 16) {s t : State}
    (ht : (s.mbHello i.val straps.toNat) = t) : Does (.mbxHello i straps) s t :=
  does_of_act (f := fun s => s.mbHello i.val straps.toNat) rfl ht

theorem does_attest (i : Fin 16) {s t : State}
    (ht : (s.mbAttest i.val) = t) : Does (.attest i) s t :=
  does_of_act (f := fun s => s.mbAttest i.val) rfl ht

theorem does_idKey (i : Fin 16) {s t : State}
    (ht : (s.mbIdKey i.val) = t) : Does (.idKey i) s t :=
  does_of_act (f := fun s => s.mbIdKey i.val) rfl ht

theorem does_fwLoad (straps : BitVec 16) {s t : State}
    (ht : (s.fwLoad straps.toNat) = t) : Does (.fwLoad straps) s t :=
  does_of_act (f := fun s => s.fwLoad straps.toNat) rfl ht

theorem does_fwActivate (i : Fin 16) {s t : State}
    (ht : (s.mbActivate i.val) = t) : Does (.fwActivate i) s t :=
  does_of_act (f := fun s => s.mbActivate i.val) rfl ht

theorem does_fwStatus (i : Fin 16) {s t : State}
    (ht : (s.mbStatus i.val) = t) : Does (.fwStatus i) s t :=
  does_of_act (f := fun s => s.mbStatus i.val) rfl ht

theorem does_defects (i : Fin 16) {s t : State}
    (ht : (s.mbDefects i.val) = t) : Does (.defects i) s t :=
  does_of_act (f := fun s => s.mbDefects i.val) rfl ht

theorem does_fwActivation {s t : State}
    (ht : (s.actEdge) = t) : Does (.fwActivation) s t :=
  does_of_act (f := fun s => s.actEdge) rfl ht

theorem does_fwActivationDeferredStart {s t : State}
    (ht : (s.actDeferred) = t) : Does (.fwActivationDeferredStart) s t :=
  does_of_act (f := fun s => s.actDeferred) rfl ht

theorem does_watchdogExpiry (c : Fin 11) (fault : Bool) {s t : State}
    (ht : (s.watchdog c.val fault) = t) : Does (.watchdogExpiry c fault) s t :=
  does_of_act (f := fun s => s.watchdog c.val fault) rfl ht

theorem does_coreRunsAgain (c : Fin 11) {s t : State}
    (ht : (s.coreRuns c.val) = t) : Does (.coreRunsAgain c) s t :=
  does_of_act (f := fun s => s.coreRuns c.val) rfl ht

theorem does_powerStageFault (n : Fin 8) {s t : State}
    (ht : (s.stageFault n.val) = t) : Does (.powerStageFault n) s t :=
  does_of_act (f := fun s => s.stageFault n.val) rfl ht

theorem does_railRegulationTimeout {s t : State}
    (ht : (s.railTimeout) = t) : Does (.railRegulationTimeout) s t :=
  does_of_act (f := fun s => s.railTimeout) rfl ht

theorem does_housekeepingMeasure (d : Fin 8) (j : Fin 48) (reading : Option (BitVec 16)) (written : Nat) {s t : State}
    (ht : (s.measure d.val j.val (reading.map BitVec.toNat) written) = t) : Does (.housekeepingMeasure d j reading written) s t :=
  does_of_act (f := fun s => s.measure d.val j.val (reading.map BitVec.toNat) written) rfl ht

theorem does_budgetRound {s t : State}
    (ht : (s.budgetRound) = t) : Does (.budgetRound) s t :=
  does_of_act (f := fun s => s.budgetRound) rfl ht

theorem does_limiterUv {s t : State}
    (ht : (s.comparator lcUV) = t) : Does (.limiterUv) s t :=
  does_of_act (f := fun s => s.comparator lcUV) rfl ht

theorem does_limiterOc {s t : State}
    (ht : (s.comparator lcOC) = t) : Does (.limiterOc) s t :=
  does_of_act (f := fun s => s.comparator lcOC) rfl ht

theorem does_limiterRelease (e : LimiterEnd) {s t : State}
    (ht : (s.limiterRelease e) = t) : Does (.limiterRelease e) s t :=
  does_of_act (f := fun s => s.limiterRelease e) rfl ht

theorem does_limiterHoldExpiry {s t : State}
    (ht : (s.limiterExpire) = t) : Does (.limiterHoldExpiry) s t :=
  does_of_act (f := fun s => s.limiterExpire) rfl ht

theorem does_emergencyClear (v : Word) (by' : Origin) {s t : State}
    (ht : (s.regWrite R.PWR_EMERG v by') = t) : Does (.emergencyClear v by') s t :=
  does_of_act (f := fun s => s.regWrite R.PWR_EMERG v by') rfl ht

theorem does_emergencyAutoClear {s t : State}
    (ht : (s.emergencyEnd true) = t) : Does (.emergencyAutoClear) s t :=
  does_of_act (f := fun s => s.emergencyEnd true) rfl ht

theorem does_inputLoss (cause : LossCause) (written : Nat) {s t : State}
    (ht : (s.inputLoss (lossCode cause) 0 written) = t) : Does (.inputLoss cause written) s t :=
  does_of_act (f := fun s => s.inputLoss (lossCode cause) 0 written) rfl ht

theorem does_holdupEnd {s t : State}
    (ht : (s.holdupEnd) = t) : Does (.holdupEnd) s t :=
  does_of_act (f := fun s => s.holdupEnd) rfl ht

theorem does_inputReturn (pins : PowerPins) {s t : State}
    (ht : (s.inputReturn pins) = t) : Does (.inputReturn pins) s t :=
  does_of_act (f := fun s => s.inputReturn pins) rfl ht

theorem does_holdupReadyChange (ready : Bool) {s t : State}
    (ht : (s.holdupChange ready) = t) : Does (.holdupReadyChange ready) s t :=
  does_of_act (f := fun s => s.holdupChange ready) rfl ht

theorem does_snapArm (v : Word) (by' : Origin) {s t : State}
    (ht : (s.regWrite R.SNP_ARM v by') = t) : Does (.snapArm v by') s t :=
  does_of_act (f := fun s => s.regWrite R.SNP_ARM v by') rfl ht

theorem does_snapCancel (v : Word) (by' : Origin) {s t : State}
    (ht : (s.regWrite R.SNP_ARM v by') = t) : Does (.snapCancel v by') s t :=
  does_of_act (f := fun s => s.regWrite R.SNP_ARM v by') rfl ht

theorem does_snapTrig (v : Word) {s t : State}
    (ht : (s.plainWrite R.SNP_TRIG v) = t) : Does (.snapTrig v) s t :=
  does_of_act (f := fun s => s.plainWrite R.SNP_TRIG v) rfl ht

theorem does_snapIn {s t : State}
    (ht : (s.snapPin) = t) : Does (.snapIn) s t :=
  does_of_act (f := fun s => s.snapPin) rfl ht

theorem does_snap (p : Fin 32) (hdr : BitVec 128) (payload : List Byte) (crc : BitVec 32) {s t : State}
    (ht : (s.rxHusk p.val Husk.SNAP hdr payload crc) = t) : Does (.snap p hdr payload crc) s t :=
  does_of_act (f := fun s => s.rxHusk p.val Husk.SNAP hdr payload crc) rfl ht

theorem does_snapRelease (v : Word) (by' : Origin) {s t : State}
    (ht : (s.regWrite R.SNP_CTL v by') = t) : Does (.snapRelease v by') s t :=
  does_of_act (f := fun s => s.regWrite R.SNP_CTL v by') rfl ht

theorem does_snapDump (v : Word) {s t : State}
    (ht : (s.plainWrite R.SNP_DUMP_CTL v) = t) : Does (.snapDump v) s t :=
  does_of_act (f := fun s => s.plainWrite R.SNP_DUMP_CTL v) rfl ht

theorem does_snapDumpDone {s t : State}
    (ht : (s.snapDumpEnd) = t) : Does (.snapDumpDone) s t :=
  does_of_act (f := fun s => s.snapDumpEnd) rfl ht

theorem does_journalFlush (entries : Fin 1366) {s t : State}
    (ht : (s.journalFlush entries.val) = t) : Does (.journalFlush entries) s t :=
  does_of_act (f := fun s => s.journalFlush entries.val) rfl ht

theorem does_journalDump (v : Word) {s t : State}
    (ht : (s.plainWrite R.JRN_DUMP_CTL v) = t) : Does (.journalDump v) s t :=
  does_of_act (f := fun s => s.plainWrite R.JRN_DUMP_CTL v) rfl ht

theorem does_journalDumpDone {s t : State}
    (ht : (s.journalDumpEnd) = t) : Does (.journalDumpDone) s t :=
  does_of_act (f := fun s => s.journalDumpEnd) rfl ht

theorem does_wearEolCompute {s t : State}
    (ht : (s.wearCompute) = t) : Does (.wearEolCompute) s t :=
  does_of_act (f := fun s => s.wearCompute) rfl ht

theorem does_wearRecordFlush {s t : State}
    (ht : (s.wearSave) = t) : Does (.wearRecordFlush) s t :=
  does_of_act (f := fun s => s.wearSave) rfl ht

theorem does_wearDailyValue (values : List (Wearing × BitVec 32)) {s t : State}
    (ht : (values.foldl State.wearDaily s) = t) : Does (.wearDailyValue values) s t :=
  does_of_act (f := fun s => values.foldl State.wearDaily s) rfl ht

theorem does_refclkLoss {s t : State}
    (ht : (s.refclkLoss) = t) : Does (.refclkLoss) s t :=
  does_of_act (f := fun s => s.refclkLoss) rfl ht

theorem does_refclkReturn {s t : State}
    (ht : (s.refclkReturn) = t) : Does (.refclkReturn) s t :=
  does_of_act (f := fun s => s.refclkReturn) rfl ht

theorem does_i3cRegisterWrite (bytes : List Byte) {s t : State}
    (ht : (s.i3cLive fun s => s.i3cWrite bytes) = t) : Does (.i3cRegisterWrite bytes) s t :=
  does_of_act (f := fun s => s.i3cLive fun s => s.i3cWrite bytes) rfl ht

theorem does_i3cReadRequest (bytes : List Byte) {s t : State}
    (ht : (s.i3cLive fun s => s.i3cWrite bytes) = t) : Does (.i3cReadRequest bytes) s t :=
  does_of_act (f := fun s => s.i3cLive fun s => s.i3cWrite bytes) rfl ht

theorem does_i3cPrivateRead {s t : State}
    (ht : (s.i3cLive fun s => s.i3cRead) = t) : Does (.i3cPrivateRead) s t :=
  does_of_act (f := fun s => s.i3cLive fun s => s.i3cRead) rfl ht

theorem does_entdaa (a : BitVec 7) {s t : State}
    (ht : (s.i3cLive fun s => s.i3cEntdaa a) = t) : Does (.entdaa a) s t :=
  does_of_act (f := fun s => s.i3cLive fun s => s.i3cEntdaa a) rfl ht

theorem does_setdasa (static : BitVec 7) (a : BitVec 7) {s t : State}
    (ht : (s.i3cLive fun s => s.i3cSetdasa static a) = t) : Does (.setdasa static a) s t :=
  does_of_act (f := fun s => s.i3cLive fun s => s.i3cSetdasa static a) rfl ht

theorem does_rstdaa {s t : State}
    (ht : (s.i3cLive fun s => s.i3cRstdaa) = t) : Does (.rstdaa) s t :=
  does_of_act (f := fun s => s.i3cLive fun s => s.i3cRstdaa) rfl ht

theorem does_enec {s t : State}
    (ht : (s.i3cLive fun s => s) = t) : Does (.enec) s t :=
  does_of_act (f := fun s => s.i3cLive fun s => s) rfl ht

theorem does_disec {s t : State}
    (ht : (s.i3cLive fun s => s) = t) : Does (.disec) s t :=
  does_of_act (f := fun s => s.i3cLive fun s => s) rfl ht

theorem does_getpid {s t : State}
    (ht : (s.i3cLive fun s => s.i3cPid) = t) : Does (.getpid) s t :=
  does_of_act (f := fun s => s.i3cLive fun s => s.i3cPid) rfl ht

theorem does_getbcr {s t : State}
    (ht : (s.i3cLive fun s => s.i3cSend [Config.busCharacteristics]) = t) : Does (.getbcr) s t :=
  does_of_act (f := fun s => s.i3cLive fun s => s.i3cSend [Config.busCharacteristics]) rfl ht

theorem does_getdcr {s t : State}
    (ht : (s.i3cLive fun s => s.i3cSend [Config.deviceCharacteristics]) = t) : Does (.getdcr) s t :=
  does_of_act (f := fun s => s.i3cLive fun s => s.i3cSend [Config.deviceCharacteristics]) rfl ht

theorem does_getstatus {s t : State}
    (ht : (s.i3cLive fun s => s.i3cStatus) = t) : Does (.getstatus) s t :=
  does_of_act (f := fun s => s.i3cLive fun s => s.i3cStatus) rfl ht

theorem does_getmwl {s t : State}
    (ht : (s.i3cLive fun s => s.i3cSend [0#8, BitVec.ofNat 8 maxWrite]) = t) : Does (.getmwl) s t :=
  does_of_act (f := fun s => s.i3cLive fun s => s.i3cSend [0#8, BitVec.ofNat 8 maxWrite]) rfl ht

theorem does_getmrl {s t : State}
    (ht : (s.i3cLive fun s => s.i3cSend [0#8, BitVec.ofNat 8 maxRead]) = t) : Does (.getmrl) s t :=
  does_of_act (f := fun s => s.i3cLive fun s => s.i3cSend [0#8, BitVec.ofNat 8 maxRead]) rfl ht

theorem does_bypass {s t : State}
    (ht : (s.tapTake tapBYPASS) = t) : Does (.bypass) s t :=
  does_of_act (f := fun s => s.tapTake tapBYPASS) rfl ht

theorem does_idcode {s t : State}
    (ht : ((s.tapTake tapIDCODE).tapSend (Word.bytes 4 s.idcode)) = t) : Does (.idcode) s t :=
  does_of_act (f := fun s => (s.tapTake tapIDCODE).tapSend (Word.bytes 4 s.idcode)) rfl ht

theorem does_samplePreload (pins load : BitVec 20) {s t : State}
    (ht : (s.tapChain tapSAMPLE pins load) = t) : Does (.samplePreload pins load) s t :=
  does_of_act (f := fun s => s.tapChain tapSAMPLE pins load) rfl ht

theorem does_extest (pins load : BitVec 20) {s t : State}
    (ht : (s.tapExtest pins load) = t) : Does (.extest pins load) s t :=
  does_of_act (f := fun s => s.tapExtest pins load) rfl ht

end Sys2Proof.Machine
end

