-- ==== Sys2Proof/Laws/Fields.lean ====
section
/-!
SUPPORT. Fields of a register: a field reads as it was written, and fields that share no bit do not disturb each other.
-/
namespace Sys2Proof.Reg

theorem getLsbD_fieldMask {hi lo : Nat} (h : lo ≤ hi) (i : Nat) (hi' : i < 64) :
    (fieldMask hi lo).getLsbD i = (decide (lo ≤ i) && decide (i ≤ hi)) := by
  have e : 2 ^ (hi + 1) - 2 ^ lo = (2 ^ (hi + 1 - lo) - 1) * 2 ^ lo := by
    rw [Nat.sub_mul, ← Nat.pow_add, Nat.one_mul, Nat.sub_add_cancel (by omega)]
  rw [fieldMask, BitVec.getLsbD_ofNat, e, Nat.testBit_mul_two_pow]
  simp only [hi', decide_true, Bool.true_and, Nat.testBit_two_pow_sub_one]
  by_cases h1 : lo ≤ i <;> simp [h1]
  omega

theorem getLsbD_place {hi lo v : Nat} (h : lo ≤ hi) (i : Nat) (hi' : i < 64) :
    (place hi lo v).getLsbD i = (decide (lo ≤ i) && decide (i ≤ hi) && v.testBit (i - lo)) := by
  rw [place, BitVec.getLsbD_ofNat, Nat.testBit_mul_two_pow, Nat.testBit_mod_two_pow]
  simp only [hi', decide_true, Bool.true_and]
  by_cases h1 : lo ≤ i
  · have : (i - lo < hi - lo + 1) ↔ i ≤ hi := by omega
    simp [h1, this]
  · simp [h1]

theorem getLsbD_withBits {hi lo v : Nat} (w : Word) (h : lo ≤ hi) (i : Nat) (hi' : i < 64) :
    (withBits w hi lo v).getLsbD i = if lo ≤ i ∧ i ≤ hi then v.testBit (i - lo) else w.getLsbD i := by
  rw [withBits, BitVec.getLsbD_or, BitVec.getLsbD_and, BitVec.getLsbD_not, getLsbD_fieldMask h i hi',
    getLsbD_place h i hi']
  by_cases h1 : lo ≤ i <;> by_cases h2 : i ≤ hi <;> simp [h1, h2, hi']

theorem testBit_bits (w : Word) (hi lo i : Nat) : (bits w hi lo).testBit i = (decide (i < hi - lo + 1) && w.getLsbD (lo + i)) := by
  rw [bits, Nat.testBit_mod_two_pow, Nat.testBit_div_two_pow, Nat.add_comm i lo]; rfl

/-- A field reads as it was written. -/
theorem bits_withBits_self (w : Word) {hi lo : Nat} (h : lo ≤ hi) (hh : hi < 64) (v : Nat) :
    bits (withBits w hi lo v) hi lo = v % 2 ^ (hi - lo + 1) := by
  apply Nat.eq_of_testBit_eq; intro i
  rw [testBit_bits, Nat.testBit_mod_two_pow]
  by_cases hi' : i < hi - lo + 1
  · rw [getLsbD_withBits w h (lo + i) (by omega), if_pos (by omega)]; simp
  · simp [hi']

/-- A field that shares no bit with the one written reads as before. -/
theorem bits_withBits_disjoint (w : Word) {hi lo : Nat} (h : lo ≤ hi) (v : Nat) {hj lj : Nat} (hj' : hj < 64)
    (hl : lj ≤ hj) (hd : hj < lo ∨ hi < lj) : bits (withBits w hi lo v) hj lj = bits w hj lj := by
  apply Nat.eq_of_testBit_eq; intro i
  rw [testBit_bits, testBit_bits]
  by_cases hi' : i < hj - lj + 1
  · rw [getLsbD_withBits w h (lj + i) (by omega), if_neg (by omega)]
  · simp [hi']

end Sys2Proof.Reg
end

