-- ==== Sys2Proof/Laws/RegWrite.lean ====
section
/-!
SUPPORT. What a register write can do, said once (R6 to R10, R543): the fields take what the write stores, the block's
effect follows, and a configuration register leaves a journal entry. Everything else discards the write.
-/
namespace Sys2Proof

/-- What decides how a write runs: the register's name, its indices, and whether it is configuration-class. -/
def Reg.kindOf (off : Nat) : Option (String × List Nat × Bool) := (Reg.lookup off).map fun x => (x.1.name, x.2, x.1.cfg)

end Sys2Proof

namespace Sys2Proof.Machine

theorem State.storeReg_written {s : State} {off : Nat} {v : Word} {d : RegDef} {ix : List Nat}
    (h : Reg.lookup off = some (d, ix)) (ho : d.name ≠ "ADT_OWN_FRAME" ∧ d.name ≠ "ADT_OWN_PART") :
    s.storeReg d (off - d.shows) v = s.written off v := by
  simp [State.storeReg, State.written, storeOf, h, ho.1, ho.2]

/-- A write of a configuration-class register other than TOP_CTL that its block does not discard. -/
theorem State.regWrite_config {s : State} {off : Nat} {v : Word} {by' : Origin} (name : String) (ix : List Nat)
    (h : Reg.kindOf off = some (name, ix, true)) (hm : inMail off = false) (hd : s.discards name ix = false)
    (hi : injectElsewhere name ix v = false) (ht : off ≠ R.TOP_CTL)
    (ho : name ≠ "ADT_OWN_FRAME" ∧ name ≠ "ADT_OWN_PART") :
    s.regWrite off v by' = ((s.written off v).effect off name ix v (s.reg (storeOf off))).journalled s off by' := by
  simp only [Reg.kindOf, Option.map_eq_some_iff, Prod.mk.injEq] at h
  obtain ⟨⟨d, ix'⟩, hl, rfl, rfl, hc⟩ := h
  dsimp only at hc
  have hs : storeOf off = off - d.shows := by simp [storeOf, hl]
  have hst := State.storeReg_written (s := s) (v := v) hl ho
  simp [State.regWrite, hl, hm, hd, hi, ht, hs, hst, State.journalWrite, hc, State.journalled]

/-- A write of a register that is not configuration-class, and that its block does not discard. -/
theorem State.regWrite_plain {s : State} {off : Nat} {v : Word} {by' : Origin} (name : String) (ix : List Nat)
    (h : Reg.kindOf off = some (name, ix, false)) (hm : inMail off = false) (hd : s.discards name ix = false)
    (hi : injectElsewhere name ix v = false) (ht : off ≠ R.TOP_CTL)
    (ho : name ≠ "ADT_OWN_FRAME" ∧ name ≠ "ADT_OWN_PART") :
    s.regWrite off v by' = (s.written off v).effect off name ix v (s.reg (storeOf off)) := by
  simp only [Reg.kindOf, Option.map_eq_some_iff, Prod.mk.injEq] at h
  obtain ⟨⟨d, ix'⟩, hl, rfl, rfl, hc⟩ := h
  dsimp only at hc
  have hs : storeOf off = off - d.shows := by simp [storeOf, hl]
  have hst := State.storeReg_written (s := s) (v := v) hl ho
  simp [State.regWrite, hl, hm, hd, hi, ht, hs, hst, State.journalWrite, hc]

/-- A write at a reserved address of register space has no effect (R9). -/
theorem State.regWrite_reserved {s : State} {off : Nat} {v : Word} {by' : Origin} (h : Reg.lookup off = none)
    (hm : inMail off = false) : s.regWrite off v by' = s := by
  simp [State.regWrite, hm, h]

/-- A write that its block discards has no effect. -/
theorem State.regWrite_discarded {s : State} {off : Nat} {v : Word} {by' : Origin} {d : RegDef} {ix : List Nat}
    (h : Reg.lookup off = some (d, ix)) (hm : inMail off = false)
    (hd : (s.discards d.name ix || injectElsewhere d.name ix v) = true) : s.regWrite off v by' = s := by
  simp [State.regWrite, hm, h, hd]

/-- A write access that is not one aligned 64-bit register has no effect (R6). -/
theorem State.regWriteBytes_discarded {s : State} {off : Nat} {bs : List Byte} {by' : Origin}
    (h : ¬ (bs.length = 8 ∧ off % 8 = 0 ∧ off < 2 ^ 28)) : s.regWriteBytes off bs by' = s := if_neg h

end Sys2Proof.Machine

namespace Sys2Proof.Machine

/-! Which block's effects follow a write, by its offset. -/

theorem State.effect_package {s : State} {off : Nat} {name : String} {ix : List Nat} {v old : Word}
    (h : off < 0x100000 ∨ 0x200000 ≤ off ∧ off < 0xA00000) :
    s.effect off name ix v old = s.effectPackage name ix v := by
  simp only [State.effect]
  repeat' split
  all_goals first | rfl | omega

theorem State.effect_eic {s : State} {off : Nat} {name : String} {ix : List Nat} {v old : Word}
    (h : 0x100000 ≤ off ∧ off < 0x200000) : s.effect off name ix v old = s.effectEic name ix v := by
  simp only [State.effect]
  repeat' split
  all_goals first | rfl | omega

theorem State.effect_links {s : State} {off : Nat} {name : String} {ix : List Nat} {v old : Word}
    (h : 0xA00000 ≤ off ∧ off < 0xC00000) : s.effect off name ix v old = s.effectLinks name ix v := by
  simp only [State.effect]
  repeat' split
  all_goals first | rfl | omega

theorem State.effect_memory {s : State} {off : Nat} {name : String} {ix : List Nat} {v old : Word}
    (h : 0xC00000 ≤ off ∧ off % 0x1000000 < 0x300000) : s.effect off name ix v old = s.effectMemory name ix v old := by
  simp only [State.effect]
  repeat' split
  all_goals first | rfl | omega

theorem State.effect_die {s : State} {off : Nat} {name : String} {ix : List Nat} {v old : Word}
    (h : 0xC00000 ≤ off ∧ 0x300000 ≤ off % 0x1000000) : s.effect off name ix v old = s.effectDie name ix v old := by
  simp only [State.effect]
  repeat' split
  all_goals first | rfl | omega

end Sys2Proof.Machine
end

