-- ==== Sys2Proof/Laws/QueueRegs.lean ====
section
/-!
SUPPORT. Where the registers of a mover's queues stand in register space (R232).
-/
namespace Sys2Proof
theorem Reg.search_skip {d : RegDef} {ds : List RegDef} {off : Nat} (h : Reg.indices d.dims (off - d.base) = none) :
    Reg.search (d :: ds) off = Reg.search ds off := by
  simp only [Reg.search]; split <;> simp [h]

theorem Reg.search_hit {d : RegDef} {ds : List RegDef} {off : Nat} {ix : List Nat} (hb : d.base ≤ off)
    (h : Reg.indices d.dims (off - d.base) = some ix) : Reg.search (d :: ds) off = some (d, ix) := by
  simp only [Reg.search, Nat.ble_eq_true_of_le hb, h]

theorem Reg.indices_step {stride count r k t : Nat} (ds : List (Nat × Nat)) (hk : k < count) (hr : r = k * stride + t)
    (ht : t < stride) : Reg.indices ((stride, count) :: ds) r = (Reg.indices ds t).map (k :: ·) := by
  have h0 : 0 < stride := by omega
  have h1 : r / stride = k := by rw [hr, Nat.mul_comm, Nat.mul_add_div h0, Nat.div_eq_of_lt ht, Nat.add_zero]
  have h2 : r % stride = t := by rw [hr, Nat.mul_comm, Nat.mul_add_mod, Nat.mod_eq_of_lt ht]
  have h3 : Nat.ble count k = false := by rw [Bool.eq_false_iff, ne_eq, Nat.ble_eq]; omega
  simp only [Reg.indices, h1, h2, h3]

theorem Reg.indices_two (a b : Nat) (ha : a < 8) (hb : b < 32) (t : Nat) (ht : 0 < t) (h2 : t < 0x2000) :
    Reg.indices [(0x1000000, 8), (0x2000, 32)] (a * 0x1000000 + b * 0x2000 + t) = none := by
  rw [Reg.indices_step _ ha (Nat.add_assoc _ _ _) (by omega), Reg.indices_step _ hb rfl h2, Reg.indices]
  simp [Nat.ne_of_gt ht]

theorem Reg.indices_three (a b c : Nat) (ha : a < 8) (hb : b < 32) (hc : c < 16) (t : Nat) (h2 : t < 0x40) :
    Reg.indices [(0x1000000, 8), (0x2000, 32), (0x40, 16)] (a * 0x1000000 + (b * 0x2000 + (c * 0x40 + t))) =
      if t = 0 then some [a, b, c] else none := by
  rw [Reg.indices_step _ ha rfl (by omega), Reg.indices_step _ hb rfl (by omega), Reg.indices_step _ hc rfl h2,
    Reg.indices]
  by_cases h : t = 0 <;> simp [h]

theorem Reg.block_dmv (a b : Nat) (ha : a < 8) (hb : b < 32) (t : Nat) (h2 : t < 0x2000) :
    Reg.block (0x1300000 + a * 0x1000000 + b * 0x2000 + t) = RegMap.dmv := by
  have h1 : ¬ 0x1300000 + a * 0x1000000 + b * 0x2000 + t < 0x1000000 := by omega
  have h3 : (0x1300000 + a * 0x1000000 + b * 0x2000 + t) % 0x1000000 / 0x80000 = 6 := by omega
  simp only [Reg.block, if_neg h1, h3]

theorem Machine.qRING_mover (g q : Nat) (hg : g < 256) (hq : q < 16) :
    Machine.qRING (Machine.queueKey g q) = 0x1300100 + g / 32 * 0x1000000 + g % 32 * 0x2000 + q * 0x40 := by
  have h : Machine.isJob (16 * g + q) = false := by simp [Machine.isJob]; omega
  have h1 : (16 * g + q) / 16 = g := by omega
  have h2 : (16 * g + q) % 16 = q := by omega
  simp [Machine.qRING, Machine.queueKey, h, h1, h2, R.DMV_Q_RING]

/-- The k-th register of a queue, k from 0 for RING to 6 for STATUS. -/
theorem Reg.lookup_queue (g q : Nat) (hg : g < 256) (hq : q < 16) (k : Nat) (hk : k < 7) :
    Reg.lookup (Machine.qRING (Machine.queueKey g q) + 8 * k) =
      (RegMap.dmv[6 + k]?).map fun d => (d, [g / 32, g % 32, q]) := by
  rw [Machine.qRING_mover g q hg hq, Reg.lookup]
  have ha : g / 32 < 8 := by omega
  have hb : g % 32 < 32 := by omega
  generalize g / 32 = a at *
  generalize g % 32 = b at *
  have e : 0x1300100 + a * 0x1000000 + b * 0x2000 + q * 0x40 + 8 * k =
    0x1300000 + a * 0x1000000 + b * 0x2000 + (0x100 + q * 0x40 + 8 * k) := by omega
  rw [e, Reg.block_dmv a b ha hb _ (by omega)]
  have two : ∀ n, 0x1300000 ≤ n → n < 0x1300100 → Reg.indices [(0x1000000, 8), (0x2000, 32)]
      (0x1300000 + a * 0x1000000 + b * 0x2000 + (0x100 + q * 0x40 + 8 * k) - n) = none := by
    intro n hn hn'
    rw [← Reg.indices_two a b ha hb (0x1300100 - n + q * 0x40 + 8 * k) (by omega) (by omega)]
    congr 1; omega
  have skip : ∀ n j, n = 0x1300100 + 8 * j → j < k → Reg.indices [(0x1000000, 8), (0x2000, 32), (0x40, 16)]
      (0x1300000 + a * 0x1000000 + b * 0x2000 + (0x100 + q * 0x40 + 8 * k) - n) = none := by
    intro n j hn hj
    have := Reg.indices_three a b q ha hb hq (8 * (k - j)) (by omega)
    rw [if_neg (by omega)] at this
    rw [← this]; congr 1; omega
  have hit : ∀ n, n = 0x1300100 + 8 * k → Reg.indices [(0x1000000, 8), (0x2000, 32), (0x40, 16)]
      (0x1300000 + a * 0x1000000 + b * 0x2000 + (0x100 + q * 0x40 + 8 * k) - n) = some [a, b, q] := by
    intro n hn
    have := Reg.indices_three a b q ha hb hq 0 (by omega)
    rw [if_pos rfl] at this
    rw [← this]; congr 1; omega
  rw [RegMap.dmv]
  refine (Reg.search_skip (two 0x1300000 (by decide) (by decide))).trans ?_
  refine (Reg.search_skip (two 0x1300008 (by decide) (by decide))).trans ?_
  refine (Reg.search_skip (two 0x1300010 (by decide) (by decide))).trans ?_
  refine (Reg.search_skip (two 0x1300018 (by decide) (by decide))).trans ?_
  refine (Reg.search_skip (two 0x1300020 (by decide) (by decide))).trans ?_
  refine (Reg.search_skip (two 0x1300028 (by decide) (by decide))).trans ?_
  rcases Nat.lt_or_ge 0 k with h0 | h0
  case inr =>
    obtain rfl : k = 0 := by omega
    exact Reg.search_hit (by dsimp only; omega) (hit 0x1300100 (by rfl))
  refine (Reg.search_skip (skip 0x1300100 0 (by rfl) h0)).trans ?_
  rcases Nat.lt_or_ge 1 k with h1 | h1
  case inr =>
    obtain rfl : k = 1 := by omega
    exact Reg.search_hit (by dsimp only; omega) (hit 0x1300108 (by rfl))
  refine (Reg.search_skip (skip 0x1300108 1 (by rfl) h1)).trans ?_
  rcases Nat.lt_or_ge 2 k with h2 | h2
  case inr =>
    obtain rfl : k = 2 := by omega
    exact Reg.search_hit (by dsimp only; omega) (hit 0x1300110 (by rfl))
  refine (Reg.search_skip (skip 0x1300110 2 (by rfl) h2)).trans ?_
  rcases Nat.lt_or_ge 3 k with h3 | h3
  case inr =>
    obtain rfl : k = 3 := by omega
    exact Reg.search_hit (by dsimp only; omega) (hit 0x1300118 (by rfl))
  refine (Reg.search_skip (skip 0x1300118 3 (by rfl) h3)).trans ?_
  rcases Nat.lt_or_ge 4 k with h4 | h4
  case inr =>
    obtain rfl : k = 4 := by omega
    exact Reg.search_hit (by dsimp only; omega) (hit 0x1300120 (by rfl))
  refine (Reg.search_skip (skip 0x1300120 4 (by rfl) h4)).trans ?_
  rcases Nat.lt_or_ge 5 k with h5 | h5
  case inr =>
    obtain rfl : k = 5 := by omega
    exact Reg.search_hit (by dsimp only; omega) (hit 0x1300128 (by rfl))
  refine (Reg.search_skip (skip 0x1300128 5 (by rfl) h5)).trans ?_
  obtain rfl : k = 6 := by omega
  exact Reg.search_hit (by dsimp only; omega) (hit 0x1300130 (by rfl))
end Sys2Proof
end

