-- ==== Sys2Proof/Laws/State.lean ====
section
/-!
SUPPORT. Each field of the state after each named update, so that no proof unfolds a record update.
-/
namespace Sys2Proof.Machine

/-- A register reads as it was written. -/
@[simp] theorem State.reg_setReg (s : State) (off : Nat) (w : Word) : (s.setReg off w).reg off = w := by
  simp [State.reg, State.setReg]

/-- Another register reads as before. -/
theorem State.reg_setReg_ne (s : State) {off r : Nat} (w : Word) (h : r ≠ off) : (s.setReg off w).reg r = s.reg r := by
  simp [State.reg, State.setReg, Tab.get_set_ne _ _ _ h]

/-- A field reads as it was written. -/
theorem State.fld_setFld (s : State) (off : Nat) (f : Fld) (n : Nat) (h : f.lo ≤ f.hi) (hh : f.hi < 64) :
    (s.setFld off f n).fld off f = n % 2 ^ (f.hi - f.lo + 1) := by
  simp [State.fld, State.setFld, Reg.bits_withBits_self _ h hh]

/-- A field of another register reads as before. -/
theorem State.fld_setFld_ne (s : State) {off r : Nat} (f g : Fld) (n : Nat) (h : r ≠ off) :
    (s.setFld off f n).fld r g = s.fld r g := by
  simp [State.fld, State.setFld, State.reg_setReg_ne _ _ h]

/-- A field of the same register that shares no bit reads as before. -/
theorem State.fld_setFld_disjoint (s : State) (off : Nat) (f g : Fld) (n : Nat) (h : f.lo ≤ f.hi) (hg : g.lo ≤ g.hi)
    (hh : g.hi < 64) (hd : g.hi < f.lo ∨ f.hi < g.lo) : (s.setFld off f n).fld off g = s.fld off g := by
  simp [State.fld, State.setFld, Reg.bits_withBits_disjoint _ h n hh hg hd]

theorem State.fld_setReg_ne (s : State) {off r : Nat} (w : Word) (g : Fld) (h : r ≠ off) :
    (s.setReg off w).fld r g = s.fld r g := by
  simp [State.fld, State.reg_setReg_ne _ _ h]

@[simp] theorem State.reg_emit (s : State) (o : Out) (r : Nat) : (s.emit o).reg r = s.reg r := rfl
@[simp] theorem State.fld_emit (s : State) (o : Out) (r : Nat) (f : Fld) : (s.emit o).fld r f = s.fld r f := rfl
@[simp] theorem State.emit_out (s : State) (o : Out) : (s.emit o).out = o :: s.out := rfl

@[simp] theorem State.setReg_fuses (s : State) (off : Nat) (w : Word) : (s.setReg off w).fuses = s.fuses := rfl
@[simp] theorem State.setReg_now (s : State) (off : Nat) (w : Word) : (s.setReg off w).now = s.now := rfl
@[simp] theorem State.setReg_dram (s : State) (off : Nat) (w : Word) : (s.setReg off w).dram = s.dram := rfl
@[simp] theorem State.setReg_sram (s : State) (off : Nat) (w : Word) : (s.setReg off w).sram = s.sram := rfl
@[simp] theorem State.setReg_flash (s : State) (off : Nat) (w : Word) : (s.setReg off w).flash = s.flash := rfl
@[simp] theorem State.setReg_beat (s : State) (off : Nat) (w : Word) : (s.setReg off w).beat = s.beat := rfl
@[simp] theorem State.setReg_lanes (s : State) (off : Nat) (w : Word) : (s.setReg off w).lanes = s.lanes := rfl
@[simp] theorem State.setReg_ports (s : State) (off : Nat) (w : Word) : (s.setReg off w).ports = s.ports := rfl
@[simp] theorem State.setReg_tags (s : State) (off : Nat) (w : Word) : (s.setReg off w).tags = s.tags := rfl
@[simp] theorem State.setReg_tagWait (s : State) (off : Nat) (w : Word) : (s.setReg off w).tagWait = s.tagWait := rfl
@[simp] theorem State.setReg_routeHeld (s : State) (off : Nat) (w : Word) : (s.setReg off w).routeHeld = s.routeHeld := rfl
@[simp] theorem State.setReg_pod (s : State) (off : Nat) (w : Word) : (s.setReg off w).pod = s.pod := rfl
@[simp] theorem State.setReg_eic (s : State) (off : Nat) (w : Word) : (s.setReg off w).eic = s.eic := rfl
@[simp] theorem State.setReg_snap (s : State) (off : Nat) (w : Word) : (s.setReg off w).snap = s.snap := rfl
@[simp] theorem State.setReg_journal (s : State) (off : Nat) (w : Word) : (s.setReg off w).journal = s.journal := rfl
@[simp] theorem State.setReg_flushed (s : State) (off : Nat) (w : Word) : (s.setReg off w).flushed = s.flushed := rfl
@[simp] theorem State.setReg_jrnAt (s : State) (off : Nat) (w : Word) : (s.setReg off w).jrnAt = s.jrnAt := rfl
@[simp] theorem State.setReg_wear (s : State) (off : Nat) (w : Word) : (s.setReg off w).wear = s.wear := rfl
@[simp] theorem State.setReg_movers (s : State) (off : Nat) (w : Word) : (s.setReg off w).movers = s.movers := rfl
@[simp] theorem State.setReg_nme (s : State) (off : Nat) (w : Word) : (s.setReg off w).nme = s.nme := rfl
@[simp] theorem State.setReg_rgl (s : State) (off : Nat) (w : Word) : (s.setReg off w).rgl = s.rgl := rfl
@[simp] theorem State.setReg_adt (s : State) (off : Nat) (w : Word) : (s.setReg off w).adt = s.adt := rfl
@[simp] theorem State.setReg_buffer (s : State) (off : Nat) (w : Word) : (s.setReg off w).buffer = s.buffer := rfl
@[simp] theorem State.setReg_stackState (s : State) (off : Nat) (w : Word) : (s.setReg off w).stackState = s.stackState := rfl
@[simp] theorem State.setReg_slices (s : State) (off : Nat) (w : Word) : (s.setReg off w).slices = s.slices := rfl
@[simp] theorem State.setReg_boot (s : State) (off : Nat) (w : Word) : (s.setReg off w).boot = s.boot := rfl
@[simp] theorem State.setReg_fw (s : State) (off : Nat) (w : Word) : (s.setReg off w).fw = s.fw := rfl
@[simp] theorem State.setReg_sites (s : State) (off : Nat) (w : Word) : (s.setReg off w).sites = s.sites := rfl
@[simp] theorem State.setReg_power (s : State) (off : Nat) (w : Word) : (s.setReg off w).power = s.power := rfl
@[simp] theorem State.setReg_pins (s : State) (off : Nat) (w : Word) : (s.setReg off w).pins = s.pins := rfl
@[simp] theorem State.setReg_owed (s : State) (off : Nat) (w : Word) : (s.setReg off w).owed = s.owed := rfl
@[simp] theorem State.setReg_free (s : State) (off : Nat) (w : Word) : (s.setReg off w).free = s.free := rfl
@[simp] theorem State.setReg_out (s : State) (off : Nat) (w : Word) : (s.setReg off w).out = s.out := rfl
@[simp] theorem State.setReg_pending (s : State) (off : Nat) (w : Word) : (s.setReg off w).pending = s.pending := rfl
@[simp] theorem State.setFld_fuses (s : State) (off : Nat) (f : Fld) (n : Nat) : (s.setFld off f n).fuses = s.fuses := rfl
@[simp] theorem State.setFld_now (s : State) (off : Nat) (f : Fld) (n : Nat) : (s.setFld off f n).now = s.now := rfl
@[simp] theorem State.setFld_dram (s : State) (off : Nat) (f : Fld) (n : Nat) : (s.setFld off f n).dram = s.dram := rfl
@[simp] theorem State.setFld_sram (s : State) (off : Nat) (f : Fld) (n : Nat) : (s.setFld off f n).sram = s.sram := rfl
@[simp] theorem State.setFld_flash (s : State) (off : Nat) (f : Fld) (n : Nat) : (s.setFld off f n).flash = s.flash := rfl
@[simp] theorem State.setFld_beat (s : State) (off : Nat) (f : Fld) (n : Nat) : (s.setFld off f n).beat = s.beat := rfl
@[simp] theorem State.setFld_lanes (s : State) (off : Nat) (f : Fld) (n : Nat) : (s.setFld off f n).lanes = s.lanes := rfl
@[simp] theorem State.setFld_ports (s : State) (off : Nat) (f : Fld) (n : Nat) : (s.setFld off f n).ports = s.ports := rfl
@[simp] theorem State.setFld_tags (s : State) (off : Nat) (f : Fld) (n : Nat) : (s.setFld off f n).tags = s.tags := rfl
@[simp] theorem State.setFld_tagWait (s : State) (off : Nat) (f : Fld) (n : Nat) : (s.setFld off f n).tagWait = s.tagWait := rfl
@[simp] theorem State.setFld_routeHeld (s : State) (off : Nat) (f : Fld) (n : Nat) : (s.setFld off f n).routeHeld = s.routeHeld := rfl
@[simp] theorem State.setFld_pod (s : State) (off : Nat) (f : Fld) (n : Nat) : (s.setFld off f n).pod = s.pod := rfl
@[simp] theorem State.setFld_eic (s : State) (off : Nat) (f : Fld) (n : Nat) : (s.setFld off f n).eic = s.eic := rfl
@[simp] theorem State.setFld_snap (s : State) (off : Nat) (f : Fld) (n : Nat) : (s.setFld off f n).snap = s.snap := rfl
@[simp] theorem State.setFld_journal (s : State) (off : Nat) (f : Fld) (n : Nat) : (s.setFld off f n).journal = s.journal := rfl
@[simp] theorem State.setFld_flushed (s : State) (off : Nat) (f : Fld) (n : Nat) : (s.setFld off f n).flushed = s.flushed := rfl
@[simp] theorem State.setFld_jrnAt (s : State) (off : Nat) (f : Fld) (n : Nat) : (s.setFld off f n).jrnAt = s.jrnAt := rfl
@[simp] theorem State.setFld_wear (s : State) (off : Nat) (f : Fld) (n : Nat) : (s.setFld off f n).wear = s.wear := rfl
@[simp] theorem State.setFld_movers (s : State) (off : Nat) (f : Fld) (n : Nat) : (s.setFld off f n).movers = s.movers := rfl
@[simp] theorem State.setFld_nme (s : State) (off : Nat) (f : Fld) (n : Nat) : (s.setFld off f n).nme = s.nme := rfl
@[simp] theorem State.setFld_rgl (s : State) (off : Nat) (f : Fld) (n : Nat) : (s.setFld off f n).rgl = s.rgl := rfl
@[simp] theorem State.setFld_adt (s : State) (off : Nat) (f : Fld) (n : Nat) : (s.setFld off f n).adt = s.adt := rfl
@[simp] theorem State.setFld_buffer (s : State) (off : Nat) (f : Fld) (n : Nat) : (s.setFld off f n).buffer = s.buffer := rfl
@[simp] theorem State.setFld_stackState (s : State) (off : Nat) (f : Fld) (n : Nat) : (s.setFld off f n).stackState = s.stackState := rfl
@[simp] theorem State.setFld_slices (s : State) (off : Nat) (f : Fld) (n : Nat) : (s.setFld off f n).slices = s.slices := rfl
@[simp] theorem State.setFld_boot (s : State) (off : Nat) (f : Fld) (n : Nat) : (s.setFld off f n).boot = s.boot := rfl
@[simp] theorem State.setFld_fw (s : State) (off : Nat) (f : Fld) (n : Nat) : (s.setFld off f n).fw = s.fw := rfl
@[simp] theorem State.setFld_sites (s : State) (off : Nat) (f : Fld) (n : Nat) : (s.setFld off f n).sites = s.sites := rfl
@[simp] theorem State.setFld_power (s : State) (off : Nat) (f : Fld) (n : Nat) : (s.setFld off f n).power = s.power := rfl
@[simp] theorem State.setFld_pins (s : State) (off : Nat) (f : Fld) (n : Nat) : (s.setFld off f n).pins = s.pins := rfl
@[simp] theorem State.setFld_owed (s : State) (off : Nat) (f : Fld) (n : Nat) : (s.setFld off f n).owed = s.owed := rfl
@[simp] theorem State.setFld_free (s : State) (off : Nat) (f : Fld) (n : Nat) : (s.setFld off f n).free = s.free := rfl
@[simp] theorem State.setFld_out (s : State) (off : Nat) (f : Fld) (n : Nat) : (s.setFld off f n).out = s.out := rfl
@[simp] theorem State.setFld_pending (s : State) (off : Nat) (f : Fld) (n : Nat) : (s.setFld off f n).pending = s.pending := rfl
@[simp] theorem State.emit_fuses (s : State) (o : Out) : (s.emit o).fuses = s.fuses := rfl
@[simp] theorem State.emit_now (s : State) (o : Out) : (s.emit o).now = s.now := rfl
@[simp] theorem State.emit_regs (s : State) (o : Out) : (s.emit o).regs = s.regs := rfl
@[simp] theorem State.emit_dram (s : State) (o : Out) : (s.emit o).dram = s.dram := rfl
@[simp] theorem State.emit_sram (s : State) (o : Out) : (s.emit o).sram = s.sram := rfl
@[simp] theorem State.emit_flash (s : State) (o : Out) : (s.emit o).flash = s.flash := rfl
@[simp] theorem State.emit_beat (s : State) (o : Out) : (s.emit o).beat = s.beat := rfl
@[simp] theorem State.emit_lanes (s : State) (o : Out) : (s.emit o).lanes = s.lanes := rfl
@[simp] theorem State.emit_ports (s : State) (o : Out) : (s.emit o).ports = s.ports := rfl
@[simp] theorem State.emit_tags (s : State) (o : Out) : (s.emit o).tags = s.tags := rfl
@[simp] theorem State.emit_tagWait (s : State) (o : Out) : (s.emit o).tagWait = s.tagWait := rfl
@[simp] theorem State.emit_routeHeld (s : State) (o : Out) : (s.emit o).routeHeld = s.routeHeld := rfl
@[simp] theorem State.emit_pod (s : State) (o : Out) : (s.emit o).pod = s.pod := rfl
@[simp] theorem State.emit_eic (s : State) (o : Out) : (s.emit o).eic = s.eic := rfl
@[simp] theorem State.emit_snap (s : State) (o : Out) : (s.emit o).snap = s.snap := rfl
@[simp] theorem State.emit_journal (s : State) (o : Out) : (s.emit o).journal = s.journal := rfl
@[simp] theorem State.emit_flushed (s : State) (o : Out) : (s.emit o).flushed = s.flushed := rfl
@[simp] theorem State.emit_jrnAt (s : State) (o : Out) : (s.emit o).jrnAt = s.jrnAt := rfl
@[simp] theorem State.emit_wear (s : State) (o : Out) : (s.emit o).wear = s.wear := rfl
@[simp] theorem State.emit_movers (s : State) (o : Out) : (s.emit o).movers = s.movers := rfl
@[simp] theorem State.emit_nme (s : State) (o : Out) : (s.emit o).nme = s.nme := rfl
@[simp] theorem State.emit_rgl (s : State) (o : Out) : (s.emit o).rgl = s.rgl := rfl
@[simp] theorem State.emit_adt (s : State) (o : Out) : (s.emit o).adt = s.adt := rfl
@[simp] theorem State.emit_buffer (s : State) (o : Out) : (s.emit o).buffer = s.buffer := rfl
@[simp] theorem State.emit_stackState (s : State) (o : Out) : (s.emit o).stackState = s.stackState := rfl
@[simp] theorem State.emit_slices (s : State) (o : Out) : (s.emit o).slices = s.slices := rfl
@[simp] theorem State.emit_boot (s : State) (o : Out) : (s.emit o).boot = s.boot := rfl
@[simp] theorem State.emit_fw (s : State) (o : Out) : (s.emit o).fw = s.fw := rfl
@[simp] theorem State.emit_sites (s : State) (o : Out) : (s.emit o).sites = s.sites := rfl
@[simp] theorem State.emit_power (s : State) (o : Out) : (s.emit o).power = s.power := rfl
@[simp] theorem State.emit_pins (s : State) (o : Out) : (s.emit o).pins = s.pins := rfl
@[simp] theorem State.emit_owed (s : State) (o : Out) : (s.emit o).owed = s.owed := rfl
@[simp] theorem State.emit_free (s : State) (o : Out) : (s.emit o).free = s.free := rfl
@[simp] theorem State.emit_pending (s : State) (o : Out) : (s.emit o).pending = s.pending := rfl

end Sys2Proof.Machine
end

