-- ==== Sys2Proof/Laws/Writes.lean ====
section
/-!
SUPPORT. What a write of each register that the commands write does: one lemma per register, so that no proof unfolds a
register write.
-/
set_option Elab.async false

namespace Sys2Proof.Machine

theorem kind_TOP_REQ_LINKS : (Reg.kindOf R.TOP_REQ_LINKS = some ("TOP_REQ_LINKS", [], true) ∧ inMail R.TOP_REQ_LINKS = false ∧ R.TOP_REQ_LINKS ≠ R.TOP_CTL) ∧ (R.TOP_REQ_LINKS < 0x100000 ∨ 0x200000 ≤ R.TOP_REQ_LINKS ∧ R.TOP_REQ_LINKS < 0xA00000) := by decide +kernel

theorem State.write_TOP_REQ_LINKS (s : State) (v : Word) (by' : Origin) :
    s.regWrite R.TOP_REQ_LINKS v by' =
      ((s.written R.TOP_REQ_LINKS v).judgeLinks).journalled s R.TOP_REQ_LINKS by' := by
  obtain ⟨⟨hk, hm, ht⟩, hr⟩ := kind_TOP_REQ_LINKS
  rw [State.regWrite_config _ _ hk hm rfl rfl ht (by decide), State.effect_package hr]
  rfl

theorem kind_TOP_REQ_WIDTH : (Reg.kindOf R.TOP_REQ_WIDTH = some ("TOP_REQ_WIDTH", [], true) ∧ inMail R.TOP_REQ_WIDTH = false ∧ R.TOP_REQ_WIDTH ≠ R.TOP_CTL) ∧ (R.TOP_REQ_WIDTH < 0x100000 ∨ 0x200000 ≤ R.TOP_REQ_WIDTH ∧ R.TOP_REQ_WIDTH < 0xA00000) := by decide +kernel

theorem State.write_TOP_REQ_WIDTH (s : State) (v : Word) (by' : Origin) :
    s.regWrite R.TOP_REQ_WIDTH v by' =
      ((s.written R.TOP_REQ_WIDTH v).judgeLinks).journalled s R.TOP_REQ_WIDTH by' := by
  obtain ⟨⟨hk, hm, ht⟩, hr⟩ := kind_TOP_REQ_WIDTH
  rw [State.regWrite_config _ _ hk hm rfl rfl ht (by decide), State.effect_package hr]
  rfl

theorem kind_TOP_FLASH_CTL : (Reg.kindOf R.TOP_FLASH_CTL = some ("TOP_FLASH_CTL", [], true) ∧ inMail R.TOP_FLASH_CTL = false ∧ R.TOP_FLASH_CTL ≠ R.TOP_CTL) ∧ (R.TOP_FLASH_CTL < 0x100000 ∨ 0x200000 ≤ R.TOP_FLASH_CTL ∧ R.TOP_FLASH_CTL < 0xA00000) := by decide +kernel

theorem State.write_TOP_FLASH_CTL (s : State) (v : Word) (by' : Origin)
    (hd : s.flag R.TOP_FLASH_STATUS F.TOP_FLASH_STATUS_BUSY = false) :
    s.regWrite R.TOP_FLASH_CTL v by' =
      ((s.written R.TOP_FLASH_CTL v).flashStart (F.TOP_FLASH_CTL_OP.of v)).journalled s R.TOP_FLASH_CTL by' := by
  obtain ⟨⟨hk, hm, ht⟩, hr⟩ := kind_TOP_FLASH_CTL
  rw [State.regWrite_config _ _ hk hm (by simpa [State.discards] using hd) rfl ht (by decide), State.effect_package hr]
  rfl

theorem kind_TGL_BEAT_CTL : (Reg.kindOf R.TGL_BEAT_CTL = some ("TGL_BEAT_CTL", [], true) ∧ inMail R.TGL_BEAT_CTL = false ∧ R.TGL_BEAT_CTL ≠ R.TOP_CTL) ∧ (0xA00000 ≤ R.TGL_BEAT_CTL ∧ R.TGL_BEAT_CTL < 0xC00000) := by decide +kernel

theorem State.write_TGL_BEAT_CTL (s : State) (v : Word) (by' : Origin) :
    s.regWrite R.TGL_BEAT_CTL v by' =
      ((s.written R.TGL_BEAT_CTL v).beatCtl v).journalled s R.TGL_BEAT_CTL by' := by
  obtain ⟨⟨hk, hm, ht⟩, hr⟩ := kind_TGL_BEAT_CTL
  rw [State.regWrite_config _ _ hk hm rfl rfl ht (by decide), State.effect_links hr]
  rfl

theorem kind_TGL_BEAT_PERIOD : (Reg.kindOf R.TGL_BEAT_PERIOD = some ("TGL_BEAT_PERIOD", [], true) ∧ inMail R.TGL_BEAT_PERIOD = false ∧ R.TGL_BEAT_PERIOD ≠ R.TOP_CTL) ∧ (0xA00000 ≤ R.TGL_BEAT_PERIOD ∧ R.TGL_BEAT_PERIOD < 0xC00000) := by decide +kernel

theorem State.write_TGL_BEAT_PERIOD (s : State) (v : Word) (by' : Origin) :
    s.regWrite R.TGL_BEAT_PERIOD v by' =
      ((s.written R.TGL_BEAT_PERIOD v).periodWritten).journalled s R.TGL_BEAT_PERIOD by' := by
  obtain ⟨⟨hk, hm, ht⟩, hr⟩ := kind_TGL_BEAT_PERIOD
  rw [State.regWrite_config _ _ hk hm rfl rfl ht (by decide), State.effect_links hr]
  rfl

theorem kind_TGL_BEAT_STRETCH : (Reg.kindOf R.TGL_BEAT_STRETCH = some ("TGL_BEAT_STRETCH", [], true) ∧ inMail R.TGL_BEAT_STRETCH = false ∧ R.TGL_BEAT_STRETCH ≠ R.TOP_CTL) ∧ (0xA00000 ≤ R.TGL_BEAT_STRETCH ∧ R.TGL_BEAT_STRETCH < 0xC00000) := by decide +kernel

theorem State.write_TGL_BEAT_STRETCH (s : State) (v : Word) (by' : Origin) :
    s.regWrite R.TGL_BEAT_STRETCH v by' =
      ((s.written R.TGL_BEAT_STRETCH v).stretchPump).journalled s R.TGL_BEAT_STRETCH by' := by
  obtain ⟨⟨hk, hm, ht⟩, hr⟩ := kind_TGL_BEAT_STRETCH
  rw [State.regWrite_config _ _ hk hm rfl rfl ht (by decide), State.effect_links hr]
  rfl

theorem kind_ADT_CTX_CMD : (Reg.kindOf R.ADT_CTX_CMD = some ("ADT_CTX_CMD", [], true) ∧ inMail R.ADT_CTX_CMD = false ∧ R.ADT_CTX_CMD ≠ R.TOP_CTL) ∧ (R.ADT_CTX_CMD < 0x100000 ∨ 0x200000 ≤ R.ADT_CTX_CMD ∧ R.ADT_CTX_CMD < 0xA00000) := by decide +kernel

theorem State.write_ADT_CTX_CMD (s : State) (v : Word) (by' : Origin) :
    s.regWrite R.ADT_CTX_CMD v by' =
      ((s.written R.ADT_CTX_CMD v).ctxCommand v).journalled s R.ADT_CTX_CMD by' := by
  obtain ⟨⟨hk, hm, ht⟩, hr⟩ := kind_ADT_CTX_CMD
  rw [State.regWrite_config _ _ hk hm rfl rfl ht (by decide), State.effect_package hr]
  rfl

theorem kind_ADT_RESUME : (Reg.kindOf R.ADT_RESUME = some ("ADT_RESUME", [], false) ∧ inMail R.ADT_RESUME = false ∧ R.ADT_RESUME ≠ R.TOP_CTL) ∧ (R.ADT_RESUME < 0x100000 ∨ 0x200000 ≤ R.ADT_RESUME ∧ R.ADT_RESUME < 0xA00000) := by decide +kernel

theorem State.write_ADT_RESUME (s : State) (v : Word) (by' : Origin) :
    s.regWrite R.ADT_RESUME v by' =
      ((s.written R.ADT_RESUME v).resumeWrite v) := by
  obtain ⟨⟨hk, hm, ht⟩, hr⟩ := kind_ADT_RESUME
  rw [State.regWrite_plain _ _ hk hm rfl rfl ht (by decide), State.effect_package hr]
  rfl

theorem kind_ADT_INV_ARG1 : (Reg.kindOf R.ADT_INV_ARG1 = some ("ADT_INV_ARG1", [], false) ∧ inMail R.ADT_INV_ARG1 = false ∧ R.ADT_INV_ARG1 ≠ R.TOP_CTL) ∧ (R.ADT_INV_ARG1 < 0x100000 ∨ 0x200000 ≤ R.ADT_INV_ARG1 ∧ R.ADT_INV_ARG1 < 0xA00000) := by decide +kernel

theorem State.write_ADT_INV_ARG1 (s : State) (v : Word) (by' : Origin) :
    s.regWrite R.ADT_INV_ARG1 v by' =
      ((s.written R.ADT_INV_ARG1 v).invalEnqueue v) := by
  obtain ⟨⟨hk, hm, ht⟩, hr⟩ := kind_ADT_INV_ARG1
  rw [State.regWrite_plain _ _ hk hm rfl rfl ht (by decide), State.effect_package hr]
  rfl

theorem kind_SBF_PART_CLR : ∀ d : Fin 8, (Reg.kindOf (R.SBF_PART_CLR d) = some ("SBF_PART_CLR", [d.val], true) ∧ inMail (R.SBF_PART_CLR d) = false ∧ (R.SBF_PART_CLR d) ≠ R.TOP_CTL) ∧ (0xC00000 ≤ (R.SBF_PART_CLR d) ∧ (R.SBF_PART_CLR d) % 0x1000000 < 0x300000) := by decide +kernel

theorem State.write_SBF_PART_CLR (s : State) (d : Fin 8) (v : Word) (by' : Origin) :
    s.regWrite (R.SBF_PART_CLR d) v by' =
      ((s.written (R.SBF_PART_CLR d) v).partitionClear d v).journalled s (R.SBF_PART_CLR d) by' := by
  obtain ⟨⟨hk, hm, ht⟩, hr⟩ := kind_SBF_PART_CLR d
  rw [State.regWrite_config _ _ hk hm rfl rfl ht (by decide), State.effect_memory hr]
  rfl

theorem kind_SBF_ERR_POP : ∀ d : Fin 8, (Reg.kindOf (R.SBF_ERR_POP d) = some ("SBF_ERR_POP", [d.val], false) ∧ inMail (R.SBF_ERR_POP d) = false ∧ (R.SBF_ERR_POP d) ≠ R.TOP_CTL) ∧ (0xC00000 ≤ (R.SBF_ERR_POP d) ∧ (R.SBF_ERR_POP d) % 0x1000000 < 0x300000) := by decide +kernel

theorem State.write_SBF_ERR_POP (s : State) (d : Fin 8) (v : Word) (by' : Origin) :
    s.regWrite (R.SBF_ERR_POP d) v by' =
      ((s.written (R.SBF_ERR_POP d) v).sbfPop d v) := by
  obtain ⟨⟨hk, hm, ht⟩, hr⟩ := kind_SBF_ERR_POP d
  rw [State.regWrite_plain _ _ hk hm rfl rfl ht (by decide), State.effect_memory hr]
  rfl

theorem kind_SBF_ERR_CTL : ∀ d : Fin 8, (Reg.kindOf (R.SBF_ERR_CTL d) = some ("SBF_ERR_CTL", [d.val], true) ∧ inMail (R.SBF_ERR_CTL d) = false ∧ (R.SBF_ERR_CTL d) ≠ R.TOP_CTL) ∧ (0xC00000 ≤ (R.SBF_ERR_CTL d) ∧ (R.SBF_ERR_CTL d) % 0x1000000 < 0x300000) := by decide +kernel

theorem State.write_SBF_ERR_CTL (s : State) (d : Fin 8) (v : Word) (by' : Origin) :
    s.regWrite (R.SBF_ERR_CTL d) v by' =
      ((s.written (R.SBF_ERR_CTL d) v).sbfCntClr d v).journalled s (R.SBF_ERR_CTL d) by' := by
  obtain ⟨⟨hk, hm, ht⟩, hr⟩ := kind_SBF_ERR_CTL d
  rw [State.regWrite_config _ _ hk hm rfl rfl ht (by decide), State.effect_memory hr]
  rfl

theorem kind_SBF_INJECT : ∀ d : Fin 8, (Reg.kindOf (R.SBF_INJECT d) = some ("SBF_INJECT", [d.val], true) ∧ inMail (R.SBF_INJECT d) = false ∧ (R.SBF_INJECT d) ≠ R.TOP_CTL) ∧ (0xC00000 ≤ (R.SBF_INJECT d) ∧ (R.SBF_INJECT d) % 0x1000000 < 0x300000) := by decide +kernel

theorem State.write_SBF_INJECT (s : State) (d : Fin 8) (v : Word) (by' : Origin)
    (hi : injectElsewhere "SBF_INJECT" [d.val] v = false) :
    s.regWrite (R.SBF_INJECT d) v by' =
      (s.written (R.SBF_INJECT d) v).journalled s (R.SBF_INJECT d) by' := by
  obtain ⟨⟨hk, hm, ht⟩, hr⟩ := kind_SBF_INJECT d
  rw [State.regWrite_config _ _ hk hm rfl hi ht (by decide), State.effect_memory hr]
  rfl

theorem eff_STK_ERR_POP (s : State) (m : Nat) (v old : Word) :
    s.effectMemory "STK_ERR_POP" [m / 3, m % 3] v old = (s.stkPop m v) := by
  unfold State.effectMemory
  split <;> first
    | (simp only [List.getD_cons_zero, List.getD_cons_succ, Nat.div_add_mod]; done)
    | contradiction
    | (simp at *)

theorem kind_STK_ERR_POP : ∀ m : Fin 24, (Reg.kindOf (R.STK_ERR_POP m) = some ("STK_ERR_POP", [m.val / 3, m.val % 3], false) ∧ inMail (R.STK_ERR_POP m) = false ∧ (R.STK_ERR_POP m) ≠ R.TOP_CTL) ∧ (0xC00000 ≤ (R.STK_ERR_POP m) ∧ (R.STK_ERR_POP m) % 0x1000000 < 0x300000) := by decide +kernel

theorem State.write_STK_ERR_POP (s : State) (m : Fin 24) (v : Word) (by' : Origin) :
    s.regWrite (R.STK_ERR_POP m) v by' =
      ((s.written (R.STK_ERR_POP m) v).stkPop m v) := by
  obtain ⟨⟨hk, hm, ht⟩, hr⟩ := kind_STK_ERR_POP m
  rw [State.regWrite_plain _ _ hk hm rfl rfl ht (by decide), State.effect_memory hr]
  rw [eff_STK_ERR_POP]

theorem eff_STK_ERR_CTL (s : State) (m : Nat) (v old : Word) :
    s.effectMemory "STK_ERR_CTL" [m / 3, m % 3] v old = (s.stkCntClr m v) := by
  unfold State.effectMemory
  split <;> first
    | (simp only [List.getD_cons_zero, List.getD_cons_succ, Nat.div_add_mod]; done)
    | contradiction
    | (simp at *)

theorem kind_STK_ERR_CTL : ∀ m : Fin 24, (Reg.kindOf (R.STK_ERR_CTL m) = some ("STK_ERR_CTL", [m.val / 3, m.val % 3], true) ∧ inMail (R.STK_ERR_CTL m) = false ∧ (R.STK_ERR_CTL m) ≠ R.TOP_CTL) ∧ (0xC00000 ≤ (R.STK_ERR_CTL m) ∧ (R.STK_ERR_CTL m) % 0x1000000 < 0x300000) := by decide +kernel

theorem State.write_STK_ERR_CTL (s : State) (m : Fin 24) (v : Word) (by' : Origin) :
    s.regWrite (R.STK_ERR_CTL m) v by' =
      ((s.written (R.STK_ERR_CTL m) v).stkCntClr m v).journalled s (R.STK_ERR_CTL m) by' := by
  obtain ⟨⟨hk, hm, ht⟩, hr⟩ := kind_STK_ERR_CTL m
  rw [State.regWrite_config _ _ hk hm rfl rfl ht (by decide), State.effect_memory hr]
  rw [eff_STK_ERR_CTL]

theorem kind_STK_INJECT : ∀ m : Fin 24, (Reg.kindOf (R.STK_INJECT m) = some ("STK_INJECT", [m.val / 3, m.val % 3], true) ∧ inMail (R.STK_INJECT m) = false ∧ (R.STK_INJECT m) ≠ R.TOP_CTL) ∧ (0xC00000 ≤ (R.STK_INJECT m) ∧ (R.STK_INJECT m) % 0x1000000 < 0x300000) := by decide +kernel

theorem State.write_STK_INJECT (s : State) (m : Fin 24) (v : Word) (by' : Origin) :
    s.regWrite (R.STK_INJECT m) v by' =
      (s.written (R.STK_INJECT m) v).journalled s (R.STK_INJECT m) by' := by
  obtain ⟨⟨hk, hm, ht⟩, hr⟩ := kind_STK_INJECT m
  rw [State.regWrite_config _ _ hk hm rfl rfl ht (by decide), State.effect_memory hr]
  rfl

theorem eff_MSC_CTL (s : State) (m : Nat) (v old : Word) :
    s.effectMemory "MSC_CTL" [m / 3, m % 3] v old = (s.mscCtl m v old) := by
  unfold State.effectMemory
  split <;> first
    | (simp only [List.getD_cons_zero, List.getD_cons_succ, Nat.div_add_mod]; done)
    | contradiction
    | (simp at *)

theorem kind_MSC_CTL : ∀ m : Fin 24, (Reg.kindOf (R.MSC_CTL m) = some ("MSC_CTL", [m.val / 3, m.val % 3], true) ∧ inMail (R.MSC_CTL m) = false ∧ (R.MSC_CTL m) ≠ R.TOP_CTL) ∧ (0xC00000 ≤ (R.MSC_CTL m) ∧ (R.MSC_CTL m) % 0x1000000 < 0x300000) := by decide +kernel

theorem State.write_MSC_CTL (s : State) (m : Fin 24) (v : Word) (by' : Origin) :
    s.regWrite (R.MSC_CTL m) v by' =
      ((s.written (R.MSC_CTL m) v).mscCtl m v (s.reg (storeOf (R.MSC_CTL m)))).journalled s (R.MSC_CTL m) by' := by
  obtain ⟨⟨hk, hm, ht⟩, hr⟩ := kind_MSC_CTL m
  rw [State.regWrite_config _ _ hk hm rfl rfl ht (by decide), State.effect_memory hr]
  rw [eff_MSC_CTL]

theorem eff_MSC_INV_ALL (s : State) (m : Nat) (v old : Word) :
    s.effectMemory "MSC_INV_ALL" [m / 3, m % 3] v old = (if F.MSC_INV_ALL_GO.isSet v then s.mscInvalidateStart m else s) := by
  unfold State.effectMemory
  split <;> first
    | (simp only [List.getD_cons_zero, List.getD_cons_succ, Nat.div_add_mod]; done)
    | contradiction
    | (simp at *)

theorem kind_MSC_INV_ALL : ∀ m : Fin 24, (Reg.kindOf (R.MSC_INV_ALL m) = some ("MSC_INV_ALL", [m.val / 3, m.val % 3], true) ∧ inMail (R.MSC_INV_ALL m) = false ∧ (R.MSC_INV_ALL m) ≠ R.TOP_CTL) ∧ (0xC00000 ≤ (R.MSC_INV_ALL m) ∧ (R.MSC_INV_ALL m) % 0x1000000 < 0x300000) := by decide +kernel

theorem State.write_MSC_INV_ALL (s : State) (m : Fin 24) (v : Word) (by' : Origin) :
    s.regWrite (R.MSC_INV_ALL m) v by' =
      (if F.MSC_INV_ALL_GO.isSet v then (s.written (R.MSC_INV_ALL m) v).mscInvalidateStart m else s.written (R.MSC_INV_ALL m) v).journalled s (R.MSC_INV_ALL m) by' := by
  obtain ⟨⟨hk, hm, ht⟩, hr⟩ := kind_MSC_INV_ALL m
  rw [State.regWrite_config _ _ hk hm rfl rfl ht (by decide), State.effect_memory hr]
  rw [eff_MSC_INV_ALL]

theorem kind_DMV_CTL : ∀ g : Fin 256, (Reg.kindOf (R.DMV_CTL g) = some ("DMV_CTL", [g.val / 32, g.val % 32], false) ∧ inMail (R.DMV_CTL g) = false ∧ (R.DMV_CTL g) ≠ R.TOP_CTL) ∧ (0xC00000 ≤ (R.DMV_CTL g) ∧ 0x300000 ≤ (R.DMV_CTL g) % 0x1000000) := by decide +kernel

theorem State.write_DMV_CTL (s : State) (g : Fin 256) (v : Word) (by' : Origin) :
    s.regWrite (R.DMV_CTL g) v by' =
      ((s.written (R.DMV_CTL g) v).dmvCntClr g v) := by
  obtain ⟨⟨hk, hm, ht⟩, hr⟩ := kind_DMV_CTL g
  rw [State.regWrite_plain _ _ hk hm rfl rfl ht (by decide), State.effect_die hr]
  simp [State.effectDie, Nat.div_add_mod]

theorem kind_DMV_Q_TAIL : ∀ g : Fin 256, ∀ q : Fin 16, (Reg.kindOf (qTAIL (queueKey g q)) = some ("DMV_Q_TAIL", [g.val / 32, g.val % 32, q.val], false) ∧ inMail (qTAIL (queueKey g q)) = false ∧ (qTAIL (queueKey g q)) ≠ R.TOP_CTL) ∧ (0xC00000 ≤ (qTAIL (queueKey g q)) ∧ 0x300000 ≤ (qTAIL (queueKey g q)) % 0x1000000) := by
  intro g q
  have hr := qRING_mover g q g.isLt q.isLt
  have hg := g.isLt
  have hq := q.isLt
  refine ⟨⟨?_, ?_, ?_⟩, ?_⟩
  · have h := Reg.lookup_queue g q g.isLt q.isLt 3 (by decide)
    rw [Reg.kindOf, qTAIL, show (24 : Nat) = 8 * 3 from rfl, h]; rfl
  · simp only [inMail, qTAIL, hr, mailBase, decide_eq_false_iff_not]; omega
  · simp only [qTAIL, hr, R.TOP_CTL]; omega
  · simp only [qTAIL, hr]; omega

theorem State.write_DMV_Q_TAIL (s : State) (g : Fin 256) (q : Fin 16) (v : Word) (by' : Origin) :
    s.regWrite (qTAIL (queueKey g q)) v by' =
      (((s.written (qTAIL (queueKey g q)) v).setReg (qTAIL (queueKey g q)) (s.reg (storeOf (qTAIL (queueKey g q))))).doorbell (queueKey g q) v) := by
  obtain ⟨⟨hk, hm, ht⟩, hr⟩ := kind_DMV_Q_TAIL g q
  rw [State.regWrite_plain _ _ hk hm rfl rfl ht (by decide), State.effect_die hr]
  simp [State.effectDie, Nat.div_add_mod]

theorem kind_DMV_Q_CTL : ∀ g : Fin 256, ∀ q : Fin 16, (Reg.kindOf (qCTL (queueKey g q)) = some ("DMV_Q_CTL", [g.val / 32, g.val % 32, q.val], true) ∧ inMail (qCTL (queueKey g q)) = false ∧ (qCTL (queueKey g q)) ≠ R.TOP_CTL) ∧ (0xC00000 ≤ (qCTL (queueKey g q)) ∧ 0x300000 ≤ (qCTL (queueKey g q)) % 0x1000000) := by
  intro g q
  have hr := qRING_mover g q g.isLt q.isLt
  have hg := g.isLt
  have hq := q.isLt
  refine ⟨⟨?_, ?_, ?_⟩, ?_⟩
  · have h := Reg.lookup_queue g q g.isLt q.isLt 5 (by decide)
    rw [Reg.kindOf, qCTL, show (40 : Nat) = 8 * 5 from rfl, h]; rfl
  · simp only [inMail, qCTL, hr, mailBase, decide_eq_false_iff_not]; omega
  · simp only [qCTL, hr, R.TOP_CTL]; omega
  · simp only [qCTL, hr]; omega

theorem State.write_DMV_Q_CTL (s : State) (g : Fin 256) (q : Fin 16) (v : Word) (by' : Origin) :
    s.regWrite (qCTL (queueKey g q)) v by' =
      ((s.written (qCTL (queueKey g q)) v).queueCtl (queueKey g q) v (s.reg (storeOf (qCTL (queueKey g q))))).journalled s (qCTL (queueKey g q)) by' := by
  obtain ⟨⟨hk, hm, ht⟩, hr⟩ := kind_DMV_Q_CTL g q
  rw [State.regWrite_config _ _ hk hm rfl rfl ht (by decide), State.effect_die hr]
  simp [State.effectDie, Nat.div_add_mod]

theorem kind_DSP_JR_TAIL : ∀ d : Fin 8, ∀ r : Fin 32, (Reg.kindOf (qTAIL (jobKey d r)) = some ("DSP_JR_TAIL", [d.val, r.val], false) ∧ inMail (qTAIL (jobKey d r)) = false ∧ (qTAIL (jobKey d r)) ≠ R.TOP_CTL) ∧ (0xC00000 ≤ (qTAIL (jobKey d r)) ∧ 0x300000 ≤ (qTAIL (jobKey d r)) % 0x1000000) := by decide +kernel

theorem State.write_DSP_JR_TAIL (s : State) (d : Fin 8) (r : Fin 32) (v : Word) (by' : Origin) :
    s.regWrite (qTAIL (jobKey d r)) v by' =
      (((s.written (qTAIL (jobKey d r)) v).setReg (qTAIL (jobKey d r)) (s.reg (storeOf (qTAIL (jobKey d r))))).doorbell (jobKey d r) v) := by
  obtain ⟨⟨hk, hm, ht⟩, hr⟩ := kind_DSP_JR_TAIL d r
  rw [State.regWrite_plain _ _ hk hm rfl rfl ht (by decide), State.effect_die hr]
  simp [State.effectDie]

theorem kind_DSP_JR_CTL : ∀ d : Fin 8, ∀ r : Fin 32, (Reg.kindOf (qCTL (jobKey d r)) = some ("DSP_JR_CTL", [d.val, r.val], true) ∧ inMail (qCTL (jobKey d r)) = false ∧ (qCTL (jobKey d r)) ≠ R.TOP_CTL) ∧ (0xC00000 ≤ (qCTL (jobKey d r)) ∧ 0x300000 ≤ (qCTL (jobKey d r)) % 0x1000000) := by decide +kernel

theorem State.write_DSP_JR_CTL (s : State) (d : Fin 8) (r : Fin 32) (v : Word) (by' : Origin) :
    s.regWrite (qCTL (jobKey d r)) v by' =
      ((s.written (qCTL (jobKey d r)) v).queueCtl (jobKey d r) v (s.reg (storeOf (qCTL (jobKey d r))))).journalled s (qCTL (jobKey d r)) by' := by
  obtain ⟨⟨hk, hm, ht⟩, hr⟩ := kind_DSP_JR_CTL d r
  rw [State.regWrite_config _ _ hk hm rfl rfl ht (by decide), State.effect_die hr]
  simp [State.effectDie]

theorem kind_DSP_TOK_POST : ∀ d : Fin 8, (Reg.kindOf (R.DSP_TOK_POST d) = some ("DSP_TOK_POST", [d.val], false) ∧ inMail (R.DSP_TOK_POST d) = false ∧ (R.DSP_TOK_POST d) ≠ R.TOP_CTL) ∧ (0xC00000 ≤ (R.DSP_TOK_POST d) ∧ 0x300000 ≤ (R.DSP_TOK_POST d) % 0x1000000) := by decide +kernel

theorem State.write_DSP_TOK_POST (s : State) (d : Fin 8) (v : Word) (by' : Origin) :
    s.regWrite (R.DSP_TOK_POST d) v by' =
      ((s.written (R.DSP_TOK_POST d) v).tokPostWrite d v) := by
  obtain ⟨⟨hk, hm, ht⟩, hr⟩ := kind_DSP_TOK_POST d
  rw [State.regWrite_plain _ _ hk hm rfl rfl ht (by decide), State.effect_die hr]
  simp [State.effectDie]

theorem kind_DSP_TOK_CMD : ∀ d : Fin 8, (Reg.kindOf (R.DSP_TOK_CMD d) = some ("DSP_TOK_CMD", [d.val], false) ∧ inMail (R.DSP_TOK_CMD d) = false ∧ (R.DSP_TOK_CMD d) ≠ R.TOP_CTL) ∧ (0xC00000 ≤ (R.DSP_TOK_CMD d) ∧ 0x300000 ≤ (R.DSP_TOK_CMD d) % 0x1000000) := by decide +kernel

theorem State.write_DSP_TOK_CMD (s : State) (d : Fin 8) (v : Word) (by' : Origin) :
    s.regWrite (R.DSP_TOK_CMD d) v by' =
      (((s.written (R.DSP_TOK_CMD d) v).tokClear d v).tokSet d v) := by
  obtain ⟨⟨hk, hm, ht⟩, hr⟩ := kind_DSP_TOK_CMD d
  rw [State.regWrite_plain _ _ hk hm rfl rfl ht (by decide), State.effect_die hr]
  simp [State.effectDie]

theorem kind_NME_RING_ACT : ∀ n : Fin 16, (Reg.kindOf (R.NME_RING_ACT n) = some ("NME_RING_ACT", [n.val / 2, n.val % 2], true) ∧ inMail (R.NME_RING_ACT n) = false ∧ (R.NME_RING_ACT n) ≠ R.TOP_CTL) ∧ (0xC00000 ≤ (R.NME_RING_ACT n) ∧ 0x300000 ≤ (R.NME_RING_ACT n) % 0x1000000) := by decide +kernel

theorem State.write_NME_RING_ACT (s : State) (n : Fin 16) (v : Word) (by' : Origin) :
    s.regWrite (R.NME_RING_ACT n) v by' =
      ((s.written (R.NME_RING_ACT n) v).ringActWrite n v).journalled s (R.NME_RING_ACT n) by' := by
  obtain ⟨⟨hk, hm, ht⟩, hr⟩ := kind_NME_RING_ACT n
  rw [State.regWrite_config _ _ hk hm rfl rfl ht (by decide), State.effect_die hr]
  simp [State.effectDie, Nat.div_add_mod]

theorem kind_NME_CTL : ∀ n : Fin 16, (Reg.kindOf (R.NME_CTL n) = some ("NME_CTL", [n.val / 2, n.val % 2], false) ∧ inMail (R.NME_CTL n) = false ∧ (R.NME_CTL n) ≠ R.TOP_CTL) ∧ (0xC00000 ≤ (R.NME_CTL n) ∧ 0x300000 ≤ (R.NME_CTL n) % 0x1000000) := by decide +kernel

theorem State.write_NME_CTL (s : State) (n : Fin 16) (v : Word) (by' : Origin) :
    s.regWrite (R.NME_CTL n) v by' =
      ((s.written (R.NME_CTL n) v).nmeCntClr n v) := by
  obtain ⟨⟨hk, hm, ht⟩, hr⟩ := kind_NME_CTL n
  rw [State.regWrite_plain _ _ hk hm rfl rfl ht (by decide), State.effect_die hr]
  simp [State.effectDie, Nat.div_add_mod]

theorem kind_NME_SR_SEED : ∀ n : Fin 16, (Reg.kindOf (R.NME_SR_SEED n) = some ("NME_SR_SEED", [n.val / 2, n.val % 2], true) ∧ inMail (R.NME_SR_SEED n) = false ∧ (R.NME_SR_SEED n) ≠ R.TOP_CTL) ∧ (0xC00000 ≤ (R.NME_SR_SEED n) ∧ 0x300000 ≤ (R.NME_SR_SEED n) % 0x1000000) := by decide +kernel

theorem State.write_NME_SR_SEED (s : State) (n : Fin 16) (v : Word) (by' : Origin) :
    s.regWrite (R.NME_SR_SEED n) v by' =
      (s.written (R.NME_SR_SEED n) v).journalled s (R.NME_SR_SEED n) by' := by
  obtain ⟨⟨hk, hm, ht⟩, hr⟩ := kind_NME_SR_SEED n
  rw [State.regWrite_config _ _ hk hm rfl rfl ht (by decide), State.effect_die hr]
  rfl

theorem kind_RGL_TDF_CTL : (Reg.kindOf R.RGL_TDF_CTL = some ("RGL_TDF_CTL", [], true) ∧ inMail R.RGL_TDF_CTL = false ∧ R.RGL_TDF_CTL ≠ R.TOP_CTL) ∧ (R.RGL_TDF_CTL < 0x100000 ∨ 0x200000 ≤ R.RGL_TDF_CTL ∧ R.RGL_TDF_CTL < 0xA00000) := by decide +kernel

theorem State.write_RGL_TDF_CTL (s : State) (v : Word) (by' : Origin) :
    s.regWrite R.RGL_TDF_CTL v by' =
      ((s.written R.RGL_TDF_CTL v).tdfArm v).journalled s R.RGL_TDF_CTL by' := by
  obtain ⟨⟨hk, hm, ht⟩, hr⟩ := kind_RGL_TDF_CTL
  rw [State.regWrite_config _ _ hk hm rfl rfl ht (by decide), State.effect_package hr]
  rfl

theorem kind_RGL_CTL : (Reg.kindOf R.RGL_CTL = some ("RGL_CTL", [], true) ∧ inMail R.RGL_CTL = false ∧ R.RGL_CTL ≠ R.TOP_CTL) ∧ (R.RGL_CTL < 0x100000 ∨ 0x200000 ≤ R.RGL_CTL ∧ R.RGL_CTL < 0xA00000) := by decide +kernel

theorem State.write_RGL_CTL (s : State) (v : Word) (by' : Origin) :
    s.regWrite R.RGL_CTL v by' =
      (((s.written R.RGL_CTL v).rglCntClr v).rglStart).journalled s R.RGL_CTL by' := by
  obtain ⟨⟨hk, hm, ht⟩, hr⟩ := kind_RGL_CTL
  rw [State.regWrite_config _ _ hk hm rfl rfl ht (by decide), State.effect_package hr]
  rfl

theorem kind_RGL_STK_CFG : ∀ m : Fin 24, (Reg.kindOf (R.RGL_STK_CFG m) = some ("RGL_STK_CFG", [m.val], true) ∧ inMail (R.RGL_STK_CFG m) = false ∧ (R.RGL_STK_CFG m) ≠ R.TOP_CTL) ∧ ((R.RGL_STK_CFG m) < 0x100000 ∨ 0x200000 ≤ (R.RGL_STK_CFG m) ∧ (R.RGL_STK_CFG m) < 0xA00000) := by decide +kernel

theorem State.write_RGL_STK_CFG (s : State) (m : Fin 24) (v : Word) (by' : Origin) :
    s.regWrite (R.RGL_STK_CFG m) v by' =
      ((s.written (R.RGL_STK_CFG m) v).rglStart).journalled s (R.RGL_STK_CFG m) by' := by
  obtain ⟨⟨hk, hm, ht⟩, hr⟩ := kind_RGL_STK_CFG m
  rw [State.regWrite_config _ _ hk hm rfl rfl ht (by decide), State.effect_package hr]
  rfl

theorem kind_RGL_MIN : ∀ m : Fin 24, ∀ c : Fin 15, (Reg.kindOf (R.RGL_MIN m c) = some ("RGL_MIN", [m.val, c.val], true) ∧ inMail (R.RGL_MIN m c) = false ∧ (R.RGL_MIN m c) ≠ R.TOP_CTL) ∧ ((R.RGL_MIN m c) < 0x100000 ∨ 0x200000 ≤ (R.RGL_MIN m c) ∧ (R.RGL_MIN m c) < 0xA00000) := by decide +kernel

theorem State.write_RGL_MIN (s : State) (m : Fin 24) (c : Fin 15) (v : Word) (by' : Origin) :
    s.regWrite (R.RGL_MIN m c) v by' =
      ((s.written (R.RGL_MIN m c) v).rglStart).journalled s (R.RGL_MIN m c) by' := by
  obtain ⟨⟨hk, hm, ht⟩, hr⟩ := kind_RGL_MIN m c
  rw [State.regWrite_config _ _ hk hm rfl rfl ht (by decide), State.effect_package hr]
  rfl

theorem kind_LNK_CTL : ∀ p : Fin 32, (Reg.kindOf (R.LNK_CTL p) = some ("LNK_CTL", [p.val], true) ∧ inMail (R.LNK_CTL p) = false ∧ (R.LNK_CTL p) ≠ R.TOP_CTL) ∧ (0xA00000 ≤ (R.LNK_CTL p) ∧ (R.LNK_CTL p) < 0xC00000) := by decide +kernel

theorem State.write_LNK_CTL (s : State) (p : Fin 32) (v : Word) (by' : Origin) :
    s.regWrite (R.LNK_CTL p) v by' =
      ((s.written (R.LNK_CTL p) v).linkCtl p v).journalled s (R.LNK_CTL p) by' := by
  obtain ⟨⟨hk, hm, ht⟩, hr⟩ := kind_LNK_CTL p
  rw [State.regWrite_config _ _ hk hm rfl rfl ht (by decide), State.effect_links hr]
  rfl

theorem kind_TGL_POD_CTL : (Reg.kindOf R.TGL_POD_CTL = some ("TGL_POD_CTL", [], false) ∧ inMail R.TGL_POD_CTL = false ∧ R.TGL_POD_CTL ≠ R.TOP_CTL) ∧ (0xA00000 ≤ R.TGL_POD_CTL ∧ R.TGL_POD_CTL < 0xC00000) := by decide +kernel

theorem State.write_TGL_POD_CTL (s : State) (v : Word) (by' : Origin) :
    s.regWrite R.TGL_POD_CTL v by' =
      ((s.written R.TGL_POD_CTL v).podLeaveWrite v) := by
  obtain ⟨⟨hk, hm, ht⟩, hr⟩ := kind_TGL_POD_CTL
  rw [State.regWrite_plain _ _ hk hm rfl rfl ht (by decide), State.effect_links hr]
  rfl

theorem kind_TGL_PORT_CTL : ∀ p : Fin 32, (Reg.kindOf (R.TGL_PORT_CTL p) = some ("TGL_PORT_CTL", [p.val], true) ∧ inMail (R.TGL_PORT_CTL p) = false ∧ (R.TGL_PORT_CTL p) ≠ R.TOP_CTL) ∧ (0xA00000 ≤ (R.TGL_PORT_CTL p) ∧ (R.TGL_PORT_CTL p) < 0xC00000) := by decide +kernel

theorem State.write_TGL_PORT_CTL (s : State) (p : Fin 32) (v : Word) (by' : Origin) :
    s.regWrite (R.TGL_PORT_CTL p) v by' =
      ((s.written (R.TGL_PORT_CTL p) v).portCtl p v).journalled s (R.TGL_PORT_CTL p) by' := by
  obtain ⟨⟨hk, hm, ht⟩, hr⟩ := kind_TGL_PORT_CTL p
  rw [State.regWrite_config _ _ hk hm rfl rfl ht (by decide), State.effect_links hr]
  rfl

theorem kind_TDI_PORT_CFG : ∀ d : Fin 8, ∀ p : Fin 64, (Reg.kindOf (R.TDI_PORT_CFG d p) = some ("TDI_PORT_CFG", [d.val, p.val], true) ∧ inMail (R.TDI_PORT_CFG d p) = false ∧ (R.TDI_PORT_CFG d p) ≠ R.TOP_CTL) ∧ (0xC00000 ≤ (R.TDI_PORT_CFG d p) ∧ 0x300000 ≤ (R.TDI_PORT_CFG d p) % 0x1000000) := by decide +kernel

theorem State.write_TDI_PORT_CFG (s : State) (d : Fin 8) (p : Fin 64) (v : Word) (by' : Origin) :
    s.regWrite (R.TDI_PORT_CFG d p) v by' =
      (if F.TDI_PORT_CFG_UNFENCE.isSet v then (s.written (R.TDI_PORT_CFG d p) v).siteUnfence (64 * d.val + p.val) else s.written (R.TDI_PORT_CFG d p) v).journalled s (R.TDI_PORT_CFG d p) by' := by
  obtain ⟨⟨hk, hm, ht⟩, hr⟩ := kind_TDI_PORT_CFG d p
  rw [State.regWrite_config _ _ hk hm rfl rfl ht (by decide), State.effect_die hr]
  simp [State.effectDie]

theorem kind_TDI_CTL : ∀ d : Fin 8, (Reg.kindOf (R.TDI_CTL d) = some ("TDI_CTL", [d.val], false) ∧ inMail (R.TDI_CTL d) = false ∧ (R.TDI_CTL d) ≠ R.TOP_CTL) ∧ (0xC00000 ≤ (R.TDI_CTL d) ∧ 0x300000 ≤ (R.TDI_CTL d) % 0x1000000) := by decide +kernel

theorem State.write_TDI_CTL (s : State) (d : Fin 8) (v : Word) (by' : Origin) :
    s.regWrite (R.TDI_CTL d) v by' =
      ((s.written (R.TDI_CTL d) v).siteCntClr d v) := by
  obtain ⟨⟨hk, hm, ht⟩, hr⟩ := kind_TDI_CTL d
  rw [State.regWrite_plain _ _ hk hm rfl rfl ht (by decide), State.effect_die hr]
  rfl

theorem kind_TDI_PWR_GRANT : ∀ d : Fin 8, (Reg.kindOf (R.TDI_PWR_GRANT d) = some ("TDI_PWR_GRANT", [d.val], true) ∧ inMail (R.TDI_PWR_GRANT d) = false ∧ (R.TDI_PWR_GRANT d) ≠ R.TOP_CTL) ∧ (0xC00000 ≤ (R.TDI_PWR_GRANT d) ∧ 0x300000 ≤ (R.TDI_PWR_GRANT d) % 0x1000000) := by decide +kernel

theorem State.write_TDI_PWR_GRANT (s : State) (d : Fin 8) (v : Word) (by' : Origin) :
    s.regWrite (R.TDI_PWR_GRANT d) v by' =
      ((s.written (R.TDI_PWR_GRANT d) v).grantWritten d v (s.reg (storeOf (R.TDI_PWR_GRANT d)))).journalled s (R.TDI_PWR_GRANT d) by' := by
  obtain ⟨⟨hk, hm, ht⟩, hr⟩ := kind_TDI_PWR_GRANT d
  rw [State.regWrite_config _ _ hk hm rfl rfl ht (by decide), State.effect_die hr]
  rfl

theorem kind_EIC_DOORBELL : (Reg.kindOf R.EIC_DOORBELL = some ("EIC_DOORBELL", [], false) ∧ inMail R.EIC_DOORBELL = false ∧ R.EIC_DOORBELL ≠ R.TOP_CTL) ∧ (0x100000 ≤ R.EIC_DOORBELL ∧ R.EIC_DOORBELL < 0x200000) := by decide +kernel

theorem State.write_EIC_DOORBELL (s : State) (v : Word) (by' : Origin) :
    s.regWrite R.EIC_DOORBELL v by' =
      ((s.written R.EIC_DOORBELL v).eicDoorbell v) := by
  obtain ⟨⟨hk, hm, ht⟩, hr⟩ := kind_EIC_DOORBELL
  rw [State.regWrite_plain _ _ hk hm rfl rfl ht (by decide), State.effect_eic hr]
  rfl

theorem kind_EIC_C_DOORBELL : ∀ c : Fin 11, (Reg.kindOf (R.EIC_C_DOORBELL c) = some ("EIC_C_DOORBELL", [c.val], false) ∧ inMail (R.EIC_C_DOORBELL c) = false ∧ (R.EIC_C_DOORBELL c) ≠ R.TOP_CTL) ∧ (0x100000 ≤ (R.EIC_C_DOORBELL c) ∧ (R.EIC_C_DOORBELL c) < 0x200000) := by decide +kernel

theorem State.write_EIC_C_DOORBELL (s : State) (c : Fin 11) (v : Word) (by' : Origin) :
    s.regWrite (R.EIC_C_DOORBELL c) v by' =
      ((s.written (R.EIC_C_DOORBELL c) v).eicCDoorbell c v) := by
  obtain ⟨⟨hk, hm, ht⟩, hr⟩ := kind_EIC_C_DOORBELL c
  rw [State.regWrite_plain _ _ hk hm rfl rfl ht (by decide), State.effect_eic hr]
  rfl

theorem kind_EIC_PEND_SET : ∀ w : Fin 13, (Reg.kindOf (R.EIC_PEND_SET w) = some ("EIC_PEND_SET", [w.val], false) ∧ inMail (R.EIC_PEND_SET w) = false ∧ (R.EIC_PEND_SET w) ≠ R.TOP_CTL) ∧ (0x100000 ≤ (R.EIC_PEND_SET w) ∧ (R.EIC_PEND_SET w) < 0x200000) := by decide +kernel

theorem State.write_EIC_PEND_SET (s : State) (w : Fin 13) (v : Word) (by' : Origin) :
    s.regWrite (R.EIC_PEND_SET w) v by' =
      ((if w.val = 0 then (s.written (R.EIC_PEND_SET w) v).sharedOnly (R.EIC_PEND_SET 0) else s.written (R.EIC_PEND_SET w) v).eicSettle) := by
  obtain ⟨⟨hk, hm, ht⟩, hr⟩ := kind_EIC_PEND_SET w
  rw [State.regWrite_plain _ _ hk hm rfl rfl ht (by decide), State.effect_eic hr]
  simp [State.effectEic]

theorem kind_EIC_C_PEND_SET : ∀ c : Fin 11, (Reg.kindOf (R.EIC_C_PEND_SET c) = some ("EIC_C_PEND_SET", [c.val], false) ∧ inMail (R.EIC_C_PEND_SET c) = false ∧ (R.EIC_C_PEND_SET c) ≠ R.TOP_CTL) ∧ (0x100000 ≤ (R.EIC_C_PEND_SET c) ∧ (R.EIC_C_PEND_SET c) < 0x200000) := by decide +kernel

theorem State.write_EIC_C_PEND_SET (s : State) (c : Fin 11) (v : Word) (by' : Origin) :
    s.regWrite (R.EIC_C_PEND_SET c) v by' =
      ((s.written (R.EIC_C_PEND_SET c) v).eicSettle) := by
  obtain ⟨⟨hk, hm, ht⟩, hr⟩ := kind_EIC_C_PEND_SET c
  rw [State.regWrite_plain _ _ hk hm rfl rfl ht (by decide), State.effect_eic hr]
  rfl

theorem kind_EIC_PEND_CLR : ∀ w : Fin 13, (Reg.kindOf (R.EIC_PEND_CLR w) = some ("EIC_PEND_CLR", [w.val], false) ∧ inMail (R.EIC_PEND_CLR w) = false ∧ (R.EIC_PEND_CLR w) ≠ R.TOP_CTL) ∧ (0x100000 ≤ (R.EIC_PEND_CLR w) ∧ (R.EIC_PEND_CLR w) < 0x200000) := by decide +kernel

theorem State.write_EIC_PEND_CLR (s : State) (w : Fin 13) (v : Word) (by' : Origin) :
    s.regWrite (R.EIC_PEND_CLR w) v by' =
      ((s.written (R.EIC_PEND_CLR w) v).eicSettle) := by
  obtain ⟨⟨hk, hm, ht⟩, hr⟩ := kind_EIC_PEND_CLR w
  rw [State.regWrite_plain _ _ hk hm rfl rfl ht (by decide), State.effect_eic hr]
  rfl

theorem kind_EIC_C_PEND_CLR : ∀ c : Fin 11, (Reg.kindOf (R.EIC_C_PEND_CLR c) = some ("EIC_C_PEND_CLR", [c.val], false) ∧ inMail (R.EIC_C_PEND_CLR c) = false ∧ (R.EIC_C_PEND_CLR c) ≠ R.TOP_CTL) ∧ (0x100000 ≤ (R.EIC_C_PEND_CLR c) ∧ (R.EIC_C_PEND_CLR c) < 0x200000) := by decide +kernel

theorem State.write_EIC_C_PEND_CLR (s : State) (c : Fin 11) (v : Word) (by' : Origin) :
    s.regWrite (R.EIC_C_PEND_CLR c) v by' =
      ((s.written (R.EIC_C_PEND_CLR c) v).eicSettle) := by
  obtain ⟨⟨hk, hm, ht⟩, hr⟩ := kind_EIC_C_PEND_CLR c
  rw [State.regWrite_plain _ _ hk hm rfl rfl ht (by decide), State.effect_eic hr]
  rfl

theorem kind_EIC_EN_SET : ∀ w : Fin 13, (Reg.kindOf (R.EIC_EN_SET w) = some ("EIC_EN_SET", [w.val], true) ∧ inMail (R.EIC_EN_SET w) = false ∧ (R.EIC_EN_SET w) ≠ R.TOP_CTL) ∧ (0x100000 ≤ (R.EIC_EN_SET w) ∧ (R.EIC_EN_SET w) < 0x200000) := by decide +kernel

theorem State.write_EIC_EN_SET (s : State) (w : Fin 13) (v : Word) (by' : Origin) :
    s.regWrite (R.EIC_EN_SET w) v by' =
      ((if w.val = 0 then (s.written (R.EIC_EN_SET w) v).sharedOnly (R.EIC_EN_SET 0) else s.written (R.EIC_EN_SET w) v).eicSettle).journalled s (R.EIC_EN_SET w) by' := by
  obtain ⟨⟨hk, hm, ht⟩, hr⟩ := kind_EIC_EN_SET w
  rw [State.regWrite_config _ _ hk hm rfl rfl ht (by decide), State.effect_eic hr]
  simp [State.effectEic]

theorem kind_EIC_C_EN_SET : ∀ c : Fin 11, (Reg.kindOf (R.EIC_C_EN_SET c) = some ("EIC_C_EN_SET", [c.val], true) ∧ inMail (R.EIC_C_EN_SET c) = false ∧ (R.EIC_C_EN_SET c) ≠ R.TOP_CTL) ∧ (0x100000 ≤ (R.EIC_C_EN_SET c) ∧ (R.EIC_C_EN_SET c) < 0x200000) := by decide +kernel

theorem State.write_EIC_C_EN_SET (s : State) (c : Fin 11) (v : Word) (by' : Origin) :
    s.regWrite (R.EIC_C_EN_SET c) v by' =
      ((s.written (R.EIC_C_EN_SET c) v).eicSettle).journalled s (R.EIC_C_EN_SET c) by' := by
  obtain ⟨⟨hk, hm, ht⟩, hr⟩ := kind_EIC_C_EN_SET c
  rw [State.regWrite_config _ _ hk hm rfl rfl ht (by decide), State.effect_eic hr]
  rfl

theorem kind_EIC_EN_CLR : ∀ w : Fin 13, (Reg.kindOf (R.EIC_EN_CLR w) = some ("EIC_EN_CLR", [w.val], true) ∧ inMail (R.EIC_EN_CLR w) = false ∧ (R.EIC_EN_CLR w) ≠ R.TOP_CTL) ∧ (0x100000 ≤ (R.EIC_EN_CLR w) ∧ (R.EIC_EN_CLR w) < 0x200000) := by decide +kernel

theorem State.write_EIC_EN_CLR (s : State) (w : Fin 13) (v : Word) (by' : Origin) :
    s.regWrite (R.EIC_EN_CLR w) v by' =
      ((s.written (R.EIC_EN_CLR w) v).eicSettle).journalled s (R.EIC_EN_CLR w) by' := by
  obtain ⟨⟨hk, hm, ht⟩, hr⟩ := kind_EIC_EN_CLR w
  rw [State.regWrite_config _ _ hk hm rfl rfl ht (by decide), State.effect_eic hr]
  rfl

theorem kind_EIC_C_EN_CLR : ∀ c : Fin 11, (Reg.kindOf (R.EIC_C_EN_CLR c) = some ("EIC_C_EN_CLR", [c.val], true) ∧ inMail (R.EIC_C_EN_CLR c) = false ∧ (R.EIC_C_EN_CLR c) ≠ R.TOP_CTL) ∧ (0x100000 ≤ (R.EIC_C_EN_CLR c) ∧ (R.EIC_C_EN_CLR c) < 0x200000) := by decide +kernel

theorem State.write_EIC_C_EN_CLR (s : State) (c : Fin 11) (v : Word) (by' : Origin) :
    s.regWrite (R.EIC_C_EN_CLR c) v by' =
      ((s.written (R.EIC_C_EN_CLR c) v).eicSettle).journalled s (R.EIC_C_EN_CLR c) by' := by
  obtain ⟨⟨hk, hm, ht⟩, hr⟩ := kind_EIC_C_EN_CLR c
  rw [State.regWrite_config _ _ hk hm rfl rfl ht (by decide), State.effect_eic hr]
  rfl

theorem kind_EIC_C_EOI : ∀ c : Fin 11, (Reg.kindOf (R.EIC_C_EOI c) = some ("EIC_C_EOI", [c.val], false) ∧ inMail (R.EIC_C_EOI c) = false ∧ (R.EIC_C_EOI c) ≠ R.TOP_CTL) ∧ (0x100000 ≤ (R.EIC_C_EOI c) ∧ (R.EIC_C_EOI c) < 0x200000) := by decide +kernel

theorem State.write_EIC_C_EOI (s : State) (c : Fin 11) (v : Word) (by' : Origin) :
    s.regWrite (R.EIC_C_EOI c) v by' =
      ((s.written (R.EIC_C_EOI c) v).eoi c v) := by
  obtain ⟨⟨hk, hm, ht⟩, hr⟩ := kind_EIC_C_EOI c
  rw [State.regWrite_plain _ _ hk hm rfl rfl ht (by decide), State.effect_eic hr]
  rfl

theorem kind_EIC_C_MASK_SET : ∀ c : Fin 11, (Reg.kindOf (R.EIC_C_MASK_SET c) = some ("EIC_C_MASK_SET", [c.val], false) ∧ inMail (R.EIC_C_MASK_SET c) = false ∧ (R.EIC_C_MASK_SET c) ≠ R.TOP_CTL) ∧ (0x100000 ≤ (R.EIC_C_MASK_SET c) ∧ (R.EIC_C_MASK_SET c) < 0x200000) := by decide +kernel

theorem State.write_EIC_C_MASK_SET (s : State) (c : Fin 11) (v : Word) (by' : Origin) :
    s.regWrite (R.EIC_C_MASK_SET c) v by' =
      (s.written (R.EIC_C_MASK_SET c) v) := by
  obtain ⟨⟨hk, hm, ht⟩, hr⟩ := kind_EIC_C_MASK_SET c
  rw [State.regWrite_plain _ _ hk hm rfl rfl ht (by decide), State.effect_eic hr]
  rfl

theorem kind_EIC_C_MASK_CLR : ∀ c : Fin 11, (Reg.kindOf (R.EIC_C_MASK_CLR c) = some ("EIC_C_MASK_CLR", [c.val], false) ∧ inMail (R.EIC_C_MASK_CLR c) = false ∧ (R.EIC_C_MASK_CLR c) ≠ R.TOP_CTL) ∧ (0x100000 ≤ (R.EIC_C_MASK_CLR c) ∧ (R.EIC_C_MASK_CLR c) < 0x200000) := by decide +kernel

theorem State.write_EIC_C_MASK_CLR (s : State) (c : Fin 11) (v : Word) (by' : Origin) :
    s.regWrite (R.EIC_C_MASK_CLR c) v by' =
      (s.written (R.EIC_C_MASK_CLR c) v) := by
  obtain ⟨⟨hk, hm, ht⟩, hr⟩ := kind_EIC_C_MASK_CLR c
  rw [State.regWrite_plain _ _ hk hm rfl rfl ht (by decide), State.effect_eic hr]
  rfl

theorem kind_EIC_HV_TRIG : (Reg.kindOf R.EIC_HV_TRIG = some ("EIC_HV_TRIG", [], false) ∧ inMail R.EIC_HV_TRIG = false ∧ R.EIC_HV_TRIG ≠ R.TOP_CTL) ∧ (0x100000 ≤ R.EIC_HV_TRIG ∧ R.EIC_HV_TRIG < 0x200000) := by decide +kernel

theorem State.write_EIC_HV_TRIG (s : State) (v : Word) (by' : Origin) :
    s.regWrite R.EIC_HV_TRIG v by' =
      ((s.written R.EIC_HV_TRIG v).hvTrigger (F.EIC_HV_TRIG_VECTOR.of v)) := by
  obtain ⟨⟨hk, hm, ht⟩, hr⟩ := kind_EIC_HV_TRIG
  rw [State.regWrite_plain _ _ hk hm rfl rfl ht (by decide), State.effect_eic hr]
  rfl

theorem kind_EIC_CTL : (Reg.kindOf R.EIC_CTL = some ("EIC_CTL", [], false) ∧ inMail R.EIC_CTL = false ∧ R.EIC_CTL ≠ R.TOP_CTL) ∧ (0x100000 ≤ R.EIC_CTL ∧ R.EIC_CTL < 0x200000) := by decide +kernel

theorem State.write_EIC_CTL (s : State) (v : Word) (by' : Origin) :
    s.regWrite R.EIC_CTL v by' =
      ((s.written R.EIC_CTL v).eicCntClr v) := by
  obtain ⟨⟨hk, hm, ht⟩, hr⟩ := kind_EIC_CTL
  rw [State.regWrite_plain _ _ hk hm rfl rfl ht (by decide), State.effect_eic hr]
  rfl

theorem kind_MBX_CTL : ∀ i : Fin 17, (Reg.kindOf (R.MBX_CTL i) = some ("MBX_CTL", [i.val], false) ∧ inMail (R.MBX_CTL i) = false ∧ (R.MBX_CTL i) ≠ R.TOP_CTL) ∧ ((R.MBX_CTL i) < 0x100000 ∨ 0x200000 ≤ (R.MBX_CTL i) ∧ (R.MBX_CTL i) < 0xA00000) := by decide +kernel

theorem State.write_MBX_CTL (s : State) (i : Fin 17) (v : Word) (by' : Origin) :
    s.regWrite (R.MBX_CTL i) v by' =
      ((s.written (R.MBX_CTL i) v).mbCtl i v) := by
  obtain ⟨⟨hk, hm, ht⟩, hr⟩ := kind_MBX_CTL i
  rw [State.regWrite_plain _ _ hk hm rfl rfl ht (by decide), State.effect_package hr]
  rfl

theorem kind_PWR_EMERG : (Reg.kindOf R.PWR_EMERG = some ("PWR_EMERG", [], false) ∧ inMail R.PWR_EMERG = false ∧ R.PWR_EMERG ≠ R.TOP_CTL) ∧ (R.PWR_EMERG < 0x100000 ∨ 0x200000 ≤ R.PWR_EMERG ∧ R.PWR_EMERG < 0xA00000) := by decide +kernel

theorem State.write_PWR_EMERG (s : State) (v : Word) (by' : Origin) :
    s.regWrite R.PWR_EMERG v by' =
      ((s.written R.PWR_EMERG v).emergencyClear v) := by
  obtain ⟨⟨hk, hm, ht⟩, hr⟩ := kind_PWR_EMERG
  rw [State.regWrite_plain _ _ hk hm rfl rfl ht (by decide), State.effect_package hr]
  rfl

theorem kind_SNP_ARM : (Reg.kindOf R.SNP_ARM = some ("SNP_ARM", [], true) ∧ inMail R.SNP_ARM = false ∧ R.SNP_ARM ≠ R.TOP_CTL) ∧ (R.SNP_ARM < 0x100000 ∨ 0x200000 ≤ R.SNP_ARM ∧ R.SNP_ARM < 0xA00000) := by decide +kernel

theorem State.write_SNP_ARM (s : State) (v : Word) (by' : Origin) :
    s.regWrite R.SNP_ARM v by' =
      ((s.written R.SNP_ARM v).snapArmed v).journalled s R.SNP_ARM by' := by
  obtain ⟨⟨hk, hm, ht⟩, hr⟩ := kind_SNP_ARM
  rw [State.regWrite_config _ _ hk hm rfl rfl ht (by decide), State.effect_package hr]
  rfl

theorem kind_SNP_TRIG : (Reg.kindOf R.SNP_TRIG = some ("SNP_TRIG", [], false) ∧ inMail R.SNP_TRIG = false ∧ R.SNP_TRIG ≠ R.TOP_CTL) ∧ (R.SNP_TRIG < 0x100000 ∨ 0x200000 ≤ R.SNP_TRIG ∧ R.SNP_TRIG < 0xA00000) := by decide +kernel

theorem State.write_SNP_TRIG (s : State) (v : Word) (by' : Origin) :
    s.regWrite R.SNP_TRIG v by' =
      ((s.written R.SNP_TRIG v).snapTrig v) := by
  obtain ⟨⟨hk, hm, ht⟩, hr⟩ := kind_SNP_TRIG
  rw [State.regWrite_plain _ _ hk hm rfl rfl ht (by decide), State.effect_package hr]
  rfl

theorem kind_SNP_CTL : (Reg.kindOf R.SNP_CTL = some ("SNP_CTL", [], true) ∧ inMail R.SNP_CTL = false ∧ R.SNP_CTL ≠ R.TOP_CTL) ∧ (R.SNP_CTL < 0x100000 ∨ 0x200000 ≤ R.SNP_CTL ∧ R.SNP_CTL < 0xA00000) := by decide +kernel

theorem State.write_SNP_CTL (s : State) (v : Word) (by' : Origin) :
    s.regWrite R.SNP_CTL v by' =
      ((s.written R.SNP_CTL v).snapRelease v).journalled s R.SNP_CTL by' := by
  obtain ⟨⟨hk, hm, ht⟩, hr⟩ := kind_SNP_CTL
  rw [State.regWrite_config _ _ hk hm rfl rfl ht (by decide), State.effect_package hr]
  rfl

theorem kind_SNP_DUMP_CTL : (Reg.kindOf R.SNP_DUMP_CTL = some ("SNP_DUMP_CTL", [], false) ∧ inMail R.SNP_DUMP_CTL = false ∧ R.SNP_DUMP_CTL ≠ R.TOP_CTL) ∧ (R.SNP_DUMP_CTL < 0x100000 ∨ 0x200000 ≤ R.SNP_DUMP_CTL ∧ R.SNP_DUMP_CTL < 0xA00000) := by decide +kernel

theorem State.write_SNP_DUMP_CTL (s : State) (v : Word) (by' : Origin) :
    s.regWrite R.SNP_DUMP_CTL v by' =
      ((s.written R.SNP_DUMP_CTL v).snapDump v) := by
  obtain ⟨⟨hk, hm, ht⟩, hr⟩ := kind_SNP_DUMP_CTL
  rw [State.regWrite_plain _ _ hk hm rfl rfl ht (by decide), State.effect_package hr]
  rfl

theorem kind_JRN_DUMP_CTL : (Reg.kindOf R.JRN_DUMP_CTL = some ("JRN_DUMP_CTL", [], false) ∧ inMail R.JRN_DUMP_CTL = false ∧ R.JRN_DUMP_CTL ≠ R.TOP_CTL) ∧ (R.JRN_DUMP_CTL < 0x100000 ∨ 0x200000 ≤ R.JRN_DUMP_CTL ∧ R.JRN_DUMP_CTL < 0xA00000) := by decide +kernel

theorem State.write_JRN_DUMP_CTL (s : State) (v : Word) (by' : Origin) :
    s.regWrite R.JRN_DUMP_CTL v by' =
      ((s.written R.JRN_DUMP_CTL v).journalDump v) := by
  obtain ⟨⟨hk, hm, ht⟩, hr⟩ := kind_JRN_DUMP_CTL
  rw [State.regWrite_plain _ _ hk hm rfl rfl ht (by decide), State.effect_package hr]
  rfl

/-- A write of TOP_CTL is journalled before what it does (R545). -/
theorem State.write_TOP_CTL (s : State) (v : Word) (by' : Origin) :
    s.regWrite R.TOP_CTL v by' = ((s.written R.TOP_CTL v).journalled s R.TOP_CTL by').topCtl v := by
  have hk : Reg.kindOf R.TOP_CTL = some ("TOP_CTL", [], true) ∧ inMail R.TOP_CTL = false := by decide +kernel
  obtain ⟨hk, hm⟩ := hk
  simp only [Reg.kindOf, Option.map_eq_some_iff, Prod.mk.injEq] at hk
  obtain ⟨⟨d, ix⟩, hl, hn, hi, hc⟩ := hk
  dsimp only at hn hi hc
  have hs : storeOf R.TOP_CTL = R.TOP_CTL - d.shows := by simp [storeOf, hl]
  have hst := State.storeReg_written (s := s) (v := v) hl (by rw [hn]; decide)
  have hd : s.discards d.name ix = false := by rw [hn]; rfl
  have hj : injectElsewhere d.name ix v = false := by rw [hn]; rfl
  rw [← hs] at hst
  have hx : ∀ u : State, ∀ o : Word, u.effect R.TOP_CTL d.name ix v o = u.topCtl v := by
    intro u o; rw [State.effect_package (by decide), hn]; rfl
  simp only [State.regWrite, hl, hm, hd, hj, hst, State.journalWrite, hc, State.journalled, ← hs, hx,
    Bool.false_eq_true, if_false, Bool.or_self, if_true]

end Sys2Proof.Machine
end

