-- ==== Sys2Proof/WellFormed.lean ====
section
/-!
DEFINITION. The commands that the outside can send as spec/ shapes them: how many bytes, symbols and values a command
carries. What a command carries beyond a unit's number has no bound in `Instr`; a meaning is defined for ill-formed
commands too.
-/
namespace Sys2Proof

/-- The most bytes that one request carries (R379). -/
def maxRequest := 16384

/-- A run of 1 to 16,384 bytes. -/
def runWf (n : Nat) : Bool := decide (1 ≤ n ∧ n ≤ maxRequest)

/-- The copies of an ordered set: one to eight lanes, each with so many symbols (R36, R369). -/
def copiesWf (n : Nat) (l : List (List Byte)) : Bool := decide (1 ≤ l.length ∧ l.length ≤ 8) && l.all fun c => c.length == n

/-- The eyes of at most eight lanes (R367). -/
def eyesWf (l : List Byte) : Bool := decide (l.length ≤ 8)

/-- What a husk carries fits the LEN field (R379). -/
def payloadWf (l : List Byte) : Bool := decide (l.length ≤ maxRequest + 16)

/-- The size of an atomic operand (R132). -/
def sizeWf (n : Nat) : Bool := n == 4 || n == 8

/-- A run within one 128-byte line (R177). -/
def lineWf (a : BitVec 41) (n : Nat) : Bool := decide (1 ≤ n ∧ a.toNat % 128 + n ≤ 128)

/-- The watts on the wires of at most eight sites (R423). -/
def sitesWf (e : EdgeSites) : Bool := decide (e.wanted.length ≤ 8)

/-- HOPS fits its field (R379). -/
def headWf (h : CtlHead) : Bool := decide (h.hops < 64)

/-- Rows of a table with one row for each of 64 modules (R400). -/
def tableWf (n : Nat) : Bool := decide (n ≤ 64)

/-- A command is well-formed. -/
def Instr.wf : Instr → Bool
  | .registerWrite _ bytes _ => runWf bytes.length
  | .fillDone times => decide (times.length ≤ 24)
  | .masterEdge sites => sitesWf sites
  | .beatInMissed sites => sitesWf sites
  | .beatSetRx _ copies sites => copiesWf 7 copies && sitesWf sites
  | .missedBeat sites => sitesWf sites
  | .freeRunEdge sites => sitesWf sites
  | .stackTrainingDone _ r => decide (r.words.length ≤ 8)
  | .probeRx _ copies => copiesWf 7 copies
  | .echoRx _ copies _ => copiesWf 7 copies
  | .sbfRead _ len _ _ => runWf len
  | .sbfWrite _ data _ _ => runWf data.length
  | .sbfAtomic _ _ size _ _ _ _ _ => sizeWf size
  | .stkRead _ len _ _ _ => runWf len
  | .stkWrite a data _ _ _ => runWf data.length && a.toNat % 64 == 0 && data.length % 64 == 0
  | .stkPartialWrite _ data _ _ _ => runWf data.length
  | .mscRead a len _ _ _ _ _ _ _ => lineWf a len
  | .mscWrite a data _ _ _ _ _ => lineWf a data.length
  | .eqFastEnd _ eyes _ => eyesWf eyes
  | .eqSearchStep _ eyes => eyesWf eyes
  | .eyeMeasure _ eyes => eyesWf eyes
  | .trainSetRx _ copies _ => copiesWf 15 (copies.map Prod.snd)
  | .rd _ _ payload _ => payloadWf payload
  | .wr _ _ payload _ => payloadWf payload
  | .atPost _ _ payload _ => payloadWf payload
  | .atr _ _ payload _ => payloadWf payload
  | .mcw _ _ payload _ => payloadWf payload
  | .bar _ _ payload _ => payloadWf payload
  | .mbar _ _ payload _ => payloadWf payload
  | .rsp _ _ payload _ => payloadWf payload
  | .crd _ _ payload _ => payloadWf payload
  | .snap _ _ payload _ => payloadWf payload
  | .hello _ b => decide (b.id ≤ 64)
  | .join _ h _ => headWf h
  | .assign _ h _ => headWf h
  | .members _ h _ rows => headWf h && tableWf rows.length
  | .routes _ h _ rows => headWf h && tableWf rows.length
  | .groups _ h _ rows => headWf h && decide (rows.length ≤ 256)
  | .portDown _ h _ _ => headWf h
  | .portUp _ h _ _ => headWf h
  | .leave _ h _ => headWf h
  | .stretch _ h _ => headWf h
  | .beatQuery _ h => headWf h
  | .beatReply _ h _ => headWf h
  | .ack _ h _ _ => headWf h
  | .claim _ _ size => runWf size
  | _ => true

end Sys2Proof
end

