-- ==== Sys2Proof/Tests/Slice0.lean ====
section
/-!
SUPPORT. Tests: worked values of the spec, the checks of well-formedness, and for every statement of the certificates a
state and operands that meet its hypotheses (`witness_<statement>`).
-/
set_option Elab.async false

namespace Sys2Proof.Tests
open Sys2Proof Sys2Proof.Machine

/-- A state with some fields set. -/
def set (s : State) (l : List (Nat × Fld × Nat)) : State := l.foldl (fun s e => s.setFld e.1 e.2.1 e.2.2) s

/-- The module in a state of R14, otherwise as at reset. -/
def at' (st : Nat) : State := State.reset.setFld R.TOP_STATE F.TOP_STATE_STATE st

/-- The same, with port p a pod port in UP. -/
def up (p : Nat) (s : State) : State :=
  set s [(R.LNK_STATUS p, F.LNK_STATUS_STATE, lkUP), (R.TGL_PORT_STATUS p, F.TGL_PORT_STATUS_KIND, 0)]

/-- A pod master with ID 5, and a member with ID 6 of master 5, in READY. -/
def master : State :=
  set (at' stREADY) [(R.TGL_POD_STATUS, F.TGL_POD_STATUS_STATE, psMASTER), (R.TGL_POD_STATUS, F.TGL_POD_STATUS_IS_MASTER, 1),
    (R.TGL_POD_STATUS, F.TGL_POD_STATUS_ID_VALID, 1), (R.TGL_POD_STATUS, F.TGL_POD_STATUS_ID, 5),
    (R.TGL_POD_STATUS, F.TGL_POD_STATUS_MASTER_ID, 5), (R.TGL_BEAT_STATUS, F.TGL_BEAT_STATUS_STATE, bsMASTER)]
def member : State :=
  set (at' stREADY) [(R.TGL_POD_STATUS, F.TGL_POD_STATUS_STATE, psMEMBER), (R.TGL_POD_STATUS, F.TGL_POD_STATUS_ID_VALID, 1),
    (R.TGL_POD_STATUS, F.TGL_POD_STATUS_ID, 6), (R.TGL_POD_STATUS, F.TGL_POD_STATUS_MASTER_ID, 5),
    (R.TGL_BEAT_STATUS, F.TGL_BEAT_STATUS_STATE, bsTRACKING)]

/-- The module with queue or ring k in a state, SIZE 2, EN as given, and its rings at the start of the buffer. -/
def queue (k st en : Nat) : State :=
  State.setFld ((((at' stREADY).setReg (qRING k) (BitVec.ofNat 64 (bufferBase + 2 * 2 ^ 60))).setReg (qCPL k)
    (BitVec.ofNat 64 bufferBase)).setReg (qCTL k) (BitVec.ofNat 64 en)) (qSTATUS k) F.DMV_Q_STATUS_STATE st

/-- Engine 15 holds a job of ring 31 of die 7 in a phase. -/
def withJob (ph : JobPhase) (saved : Option EngineState) : State :=
  let s := queue (jobKey 7 31) qsRUNNING 1
  let s := s.setEngine 15 { EngineState.idle with job := some (jobKey 7 31, 3) }
  (s.setJobs (jobKey 7 31) [{ startedJob 3 [] 15 0 ph with saved := saved }]).setEngineState 15 neRUNNING

/-- Engine 15 runs a job of ring 31 of die 7 whose program is one word, with values in scalar registers. -/
def runs (w : Nat) (x : List (Nat × Word)) : State :=
  let s := withJob .running none
  s.setEngine 15 { s.engine 15 with live := true, code := [w], x := x }

/-! One ill-formed command for each check of `Instr.wf`, which the check refuses, beside a well-formed one. -/

/-- Who writes, where it does not matter. -/
def host : Origin := ⟨0, 0, false, false⟩

/-- A sender of control messages. -/
def sender (hops : Nat) : CtlHead := ⟨0, 1, 0, hops, false⟩

theorem test_wf_run :
    (Instr.sbfRead 0 0 0 ⟨[], []⟩).wf = false ∧ (Instr.sbfRead 0 16385 0 ⟨[], []⟩).wf = false ∧
      (Instr.sbfRead 0 16384 0 ⟨[], []⟩).wf = true ∧ (Instr.registerWrite 0 [] host).wf = false ∧
      (Instr.sbfWrite 0 [] 0 ⟨[], []⟩).wf = false ∧ (Instr.stkRead 0 0 0 0 ⟨[], [], 0⟩).wf = false ∧
      (Instr.stkPartialWrite 0 [] 0 0 ⟨[], [], 0⟩).wf = false ∧ (Instr.claim 0 0 0).wf = false := by decide
theorem test_wf_whole_blocks :
    (Instr.stkWrite 32 (List.replicate 64 0) 0 0 ⟨[], [], 0⟩).wf = false ∧
      (Instr.stkWrite 64 (List.replicate 32 0) 0 0 ⟨[], [], 0⟩).wf = false ∧
      (Instr.stkWrite 64 (List.replicate 64 0) 0 0 ⟨[], [], 0⟩).wf = true := by decide
theorem test_wf_atomic_size :
    (Instr.sbfAtomic 0 1 2 0 0 true 0 ⟨[], []⟩).wf = false ∧ (Instr.sbfAtomic 0 1 8 0 0 true 0 ⟨[], []⟩).wf = true := by
  decide
theorem test_wf_line :
    lineWf 100 29 = false ∧ lineWf 100 28 = true ∧ lineWf 100 0 = false := by decide
theorem test_wf_copies :
    (Instr.probeRx 0 []).wf = false ∧ (Instr.probeRx 0 [List.replicate 6 0]).wf = false ∧
      (Instr.probeRx 0 (List.replicate 9 (List.replicate 7 0))).wf = false ∧
      (Instr.probeRx 0 (List.replicate 8 (List.replicate 7 0))).wf = true ∧
      (Instr.trainSetRx 0 [(0, List.replicate 14 0)] 0).wf = false ∧
      (Instr.trainSetRx 0 [(0, List.replicate 15 0)] 0).wf = true := by decide
theorem test_wf_eyes :
    (Instr.eyeMeasure 0 (List.replicate 9 0)).wf = false ∧ (Instr.eyeMeasure 0 (List.replicate 8 0)).wf = true ∧
      (Instr.eqFastEnd 0 (List.replicate 9 0) 0).wf = false ∧ (Instr.eqSearchStep 0 (List.replicate 9 0)).wf = false := by
  decide
theorem test_wf_payload : ∀ l : List Byte, l.length = 16401 → payloadWf l = false ∧ payloadWf (l.drop 1) = true := by
  intro l h
  simp [payloadWf, maxRequest, h]
theorem test_wf_sites : (Instr.missedBeat ⟨0, List.replicate 9 0⟩).wf = false ∧ (Instr.missedBeat ⟨0, []⟩).wf = true := by
  decide
theorem test_wf_fill : (Instr.fillDone (List.replicate 25 0)).wf = false ∧ (Instr.fillDone [28]).wf = true := by decide
theorem test_wf_training :
    (Instr.stackTrainingDone 0 ⟨List.replicate 9 0, 0, true, 0⟩).wf = false ∧
      (Instr.stackTrainingDone 0 ⟨List.replicate 8 0, 0, true, 0⟩).wf = true := by decide
theorem test_wf_messages :
    (Instr.beatQuery 0 (sender 64)).wf = false ∧ (Instr.beatQuery 0 (sender 63)).wf = true ∧
      (Instr.members 0 (sender 0) 0 (List.replicate 65 ⟨0, 0, false⟩)).wf = false ∧
      (Instr.routes 0 (sender 0) 0 (List.replicate 65 ⟨0, none, none⟩)).wf = false ∧
      (Instr.groups 0 (sender 64) 0 []).wf = false ∧
      (Instr.hello 0 ⟨0, 0, 0, 0, false, false, 65⟩).wf = false := by decide

/-! Worked examples of spec/, with the values that it gives. -/

/-- 03_addressing_contexts, placing a die-local byte: offset 0x5A10 of frame 94 lies in M5, slot 4; of frames 124 and 154
in M3 and M4. -/
theorem test_die_local_byte :
    let s := [94, 124, 154].foldl (fun s f => s.setFld (R.ADT_OWN_FRAME f) F.ADT_OWN_FRAME_INTERLEAVE 1) State.reset
    s.stackOf 0x2F00005A10 = 5 ∧ s.stackOf (124 * 0x80000000 + 0x5A10) = 3 ∧ s.stackOf (154 * 0x80000000 + 0x5A10) = 4 := by
  decide +kernel

/-- 06_stack_controllers, from frame offset to DRAM row: that byte lies in PC32, bank 34, row 2,184, block 8. -/
theorem test_dram_row :
    let s := (State.reset.setFld (R.ADT_OWN_FRAME 94) F.ADT_OWN_FRAME_INTERLEAVE 1).setReg (R.STK_PC_MASK 5) 0xFFFFFFFFFFFFFFFF
    s.blockPlace (s.stackKey 0x2F00005A10) = ⟨5, 8947872, 8, 32, 34, 2184⟩ := by decide +kernel

/-- 05_shared_buffer, locating a buffer address: logical bank 3,719 of B1. -/
theorem test_buffer_bank : sbDie 0x1C03A456780 = 1 ∧ sbBank 0x1C03A456780 = 3719 := by decide

/-- 06_stack_controllers, capacity of a hot stack with one lost pseudo-channel: 1,673,432 MB/s, and 1,821,088 when cool. -/
theorem test_hot_capacity :
    let s := ((State.reset.setFld (R.STK_STATUS 17) F.STK_STATUS_PLACED 64).setFld (R.STK_STATUS 17) F.STK_STATUS_FENCED 1).setFld
      (R.STK_SCRUB_CTL 17) F.STK_SCRUB_CTL_PERIOD 6
    (s.setFld (R.STK_STATUS 17) F.STK_STATUS_REFRESH 1).stkCap 17 = 1673432 ∧ s.stkCap 17 = 1821088 := by decide +kernel

/-- 11_nme_instruction_set, encoding a VMA: the fields of 0x3360_1876_1701_0080. -/
theorem test_vma_word :
    let w := 0x3360187617010080
    opcode w = 0x33 ∧ tD w = 6 ∧ tDS w = 1 ∧ tA w = 0 ∧ tAS w = 2 ∧ tB w = 1 ∧ tBK w = 3 ∧ tBM w = false ∧ tFMT w = 0xC ∧
      tOP w 0 = true ∧ tOP w 1 = false ∧ tOP w 2 = false ∧ tLG w = 7 ∧ tN w = 32 ∧ tK w = 128 ∧ hasReserved w = false := by decide

/-- 10_nme_arithmetic: FP32 sums of the nearest value, 1 + 2⁻²⁴ ties to even. -/
theorem test_add32 : Fp.add32 0x3F800000 0x33800000 = 0x3F800000 ∧ Fp.add32 0x3F800001 0x33800000 = 0x3F800002 := by decide

/-! What meets the hypotheses of `IdleStep`. -/
namespace IdleStep
theorem witness_IdleStep : State.reset.pending = [] ∧ State.reset.power.on = true ∧
    ({ State.reset with power := { State.reset.power with on := false } } : State).power.on = false := by decide
end IdleStep

/-! What meets the hypotheses of `SettleCalm`. -/
namespace SettleCalm
theorem witness_SettleCalm : (at' stREADY).calm := ⟨rfl, rfl, by decide, by decide⟩
end SettleCalm

/-! What meets the hypotheses of `FieldAccess`. -/
namespace FieldAccess
theorem witness_FieldAccess : ((Reg.lookup R.TOP_CTL).map fun x => (x.1.name, x.1.fields.length)) = some ("TOP_CTL", 4) := by
  decide +kernel
end FieldAccess

/-! What meets the hypotheses of `RegisterWrites`. -/
namespace RegisterWrites
theorem witness_RegisterWrites :
    (R.TOP_REQ_LINKS % 8 = 0 ∧ R.TOP_REQ_LINKS < 2 ^ 28 ∧ inMail R.TOP_REQ_LINKS = false ∧ R.TOP_REQ_LINKS ≠ R.TOP_CTL ∧
      ((Reg.lookup R.TOP_REQ_LINKS).map fun x => (x.1.name, x.1.cfg,
        (State.reset.discards x.1.name x.2 || injectElsewhere x.1.name x.2 0))) = some ("TOP_REQ_LINKS", true, false)) ∧
    (inMail R.TGL_POD_CTL = false ∧ ((Reg.lookup R.TGL_POD_CTL).map fun x => x.1.cfg) = some false) ∧
    (Reg.lookup 0xFF8 = none ∧ inMail 0xFF8 = false) ∧
    (((Reg.lookup (qRING 0)).map fun x =>
      (queue 0 qsRUNNING 1).discards x.1.name x.2 || injectElsewhere x.1.name x.2 0) = some true) ∧
    (inMail (mailBase + 8) = true ∧ inMail (mailBase + 0x4000 - 8) = true ∧ 8 < mbResponse ∧ mbResponse ≤ 0x4000 - 8 ∧
      State.reset.mbState 0 ≠ mbBUSY) := by decide +kernel
end RegisterWrites

/-! What meets the hypotheses of `StartupCommands`. -/
namespace StartupCommands
theorem witness_StartupCommands :
    (let s : State := { State.reset with power := { State.reset.power with closed := false, locked := true } }
     s.power.closed = false ∧ s.power.lost = false ∧ (s.power.locked = true → true = true)) ∧
    State.reset.power.closed = true ∧
    F.TOP_CTL_WARM_RESET.isSet 0x800000000000D824 = true ∧ F.TOP_CTL_KEY.of 0x800000000000D824 = 0xD824 ∧
    ((at' stGERM).topState ∈ [stGERM, stSPROUT, stTRAINING, stFILLING, stSELFTEST] ∧ (at' stGERM).emergency = false ∧
      (at' stGERM).pins.bscan = false) ∧
    (let s := { at' stTRAINING with boot := { State.reset.boot with training := 2 ^ 23 } }
     s.topState = stTRAINING ∧ bit s.boot.training (23 : Fin 24) = true) ∧
    ((at' stTRAINING).topState = stTRAINING ∧ (at' stTRAINING).boot.training = 0) ∧
    (at' stFILLING).topState = stFILLING ∧
    (at' stSELFTEST).topState = stSELFTEST ∧ (⟨[], [], [], [], 0⟩ : UnitTests).ring = 0 := by decide +kernel
end StartupCommands

/-! What meets the hypotheses of `ConfigurationCommands`. -/
namespace ConfigurationCommands
theorem witness_ConfigurationCommands :
    (at' stSPROUT).topState = stSPROUT ∧
    (let s := State.reset.setFld R.PWR_STATUS F.PWR_STATUS_FLASH_WR_OK 1
     (∀ op ∈ [foREAD, foPROGRAM, foERASE],
       let v : Word := BitVec.ofNat 64 (Reg.place F.TOP_FLASH_CTL_OP.hi F.TOP_FLASH_CTL_OP.lo op).toNat
       let u := s.written R.TOP_FLASH_CTL v
       s.flag R.TOP_FLASH_STATUS F.TOP_FLASH_STATUS_BUSY = false ∧ F.TOP_FLASH_CTL_OP.of v = op ∧
       u.flashOk = true ∧
       flashProtected (u.fld R.TOP_FLASH_ADDR F.TOP_FLASH_ADDR_ADDR) (u.fld R.TOP_FLASH_CTL F.TOP_FLASH_CTL_LEN) = false ∧
       flashProtected (u.fld R.TOP_FLASH_ADDR F.TOP_FLASH_ADDR_ADDR) flashSector = false ∧
       u.fld R.TOP_FLASH_ADDR F.TOP_FLASH_ADDR_ADDR % flashSector = 0)) ∧
    (∀ op ∈ [foREAD, foPROGRAM, foERASE],
      ({ State.reset with boot := { State.reset.boot with flash := some (op, 0, 1, frOK) } } : State).boot.flash =
        some (op, 0, 1, frOK)) ∧
    (let s := (State.reset.setFld R.PWR_STATUS F.PWR_STATUS_FLASH_WR_OK 1).setCoreState 2 csRUNNING
     s.flashOk = true ∧ (s.core (s.coreFor 2)).state = csRUNNING) := by decide +kernel
end ConfigurationCommands

/-! What meets the hypotheses of `OwnerCheck`. -/
namespace OwnerCheck
theorem witness_OwnerCheck :
    State.reset.adt.stale = [] ∧ F.ADT_OWN_PART_MODE.of (State.reset.reg (ownerReg bufferBase)) = 0 ∧
    (∃ w : Word, F.ADT_OWN_PART_MODE.of w = 1) ∧ (∃ w : Word, F.ADT_OWN_PART_MODE.of w = 2) ∧
    State.reset.sbAbsent bufferBase = false ∧ State.reset.admits bufferBase 4095 false = false ∧
    State.reset.admits bufferBase 0 true = false := by
  refine ⟨rfl, by decide, ⟨BitVec.ofNat 64 (2 ^ F.ADT_OWN_PART_MODE.lo), by decide⟩,
    ⟨BitVec.ofNat 64 (2 * 2 ^ F.ADT_OWN_PART_MODE.lo), by decide⟩, by decide +kernel, by decide +kernel, by decide +kernel⟩
end OwnerCheck

/-! What meets the hypotheses of `TokenPosts`. -/
namespace TokenPosts
/-- Token 4095 of die 7 with a generation, present or not. -/
def entry (g p : Nat) : State := (at' stREADY).setTok 7 4095 g p
theorem witness_TokenPosts :
    ((entry 0 0).fld (R.DSP_TOK 7 4095) F.DSP_TOK_GEN = 0 ∧ (entry 0 0).flag (R.DSP_TOK 7 4095) F.DSP_TOK_PRESENT = false) ∧
    (entry 0 1).flag (R.DSP_TOK 7 4095) F.DSP_TOK_PRESENT = true ∧
    (entry 15 1).fld (R.DSP_TOK 7 4095) F.DSP_TOK_GEN = (0 + 15) % 16 ∧
    ((entry 1 1).fld (R.DSP_TOK 7 4095) F.DSP_TOK_GEN ≠ 0 ∧ (entry 1 1).fld (R.DSP_TOK 7 4095) F.DSP_TOK_GEN ≠ (0 + 15) % 16) ∧
    (F.DSP_TOK_CMD_CMD.of (BitVec.ofNat 64 (2 ^ F.DSP_TOK_CMD_CMD.lo)) = 1 ∧
      F.DSP_TOK_CMD_CMD.of (BitVec.ofNat 64 (2 * 2 ^ F.DSP_TOK_CMD_CMD.lo)) = 2) := by decide +kernel
end TokenPosts

/-! What meets the hypotheses of `Crc8`. -/
namespace Crc8
theorem witness_Crc8 :
    trainGood ([0x11#8, 7#8, 0xFF#8, 3#8, 0#8, 0#8, 0#8, 0#8, 0#8, 0#8, 0#8, 0#8, 0#8, 0#8] ++
      [crc8 [0x11#8, 7#8, 0xFF#8, 3#8, 0#8, 0#8, 0#8, 0#8, 0#8, 0#8, 0#8, 0#8, 0#8, 0#8]]) = true := by decide +kernel
end Crc8

/-! What meets the hypotheses of `SecDed`. -/
namespace SecDed
theorem witness_SecDed : State.reset.sbSyndrome bufferBase = 0 ∧ (63 : Fin 72) ≠ 71 := by decide
end SecDed

/-! What meets the hypotheses of `BufferBanks`. -/
namespace BufferBanks
theorem witness_BufferBanks : (bufferBase + 262143 - bufferBase) / 2 ^ 18 = (bufferBase - bufferBase) / 2 ^ 18 ∧
    sbBank (bufferBase + 262144) = 16 ∧ sbBank (bufferBase + 64) = 1 := by decide
end BufferBanks

/-! What meets the hypotheses of `BufferBytes`. -/
namespace BufferBytes
theorem witness_BufferBytes :
    let s := (at' stREADY).setReg (R.ADT_OWN_PART 0) 0x10007
    s.calm ∧ s.sbClean ∧ s.clearing (sbDie bufferBase) = false ∧ s.sbAbsent bufferBase = false ∧
      bufferRun (bufferBase + 60) 130 = true ∧ s.admits (bufferBase + 60) 7 true = true ∧ s.admits (bufferBase + 60) 7 false = true ∧
      (∀ b ∈ unitsOf 64 (bufferBase + 60) 130, s.sbFenced b = false) ∧
      (∀ b ∈ unitsOf 16 (bufferBase + 60) 130, s.sbFenced b = false) :=
  ⟨⟨rfl, rfl, by decide, by decide⟩, ⟨rfl, by decide +kernel⟩, by decide +kernel⟩
end BufferBytes

/-! What meets the hypotheses of `StackBytes`. -/
namespace StackBytes
theorem witness_StackBytes :
    let s := ((at' stREADY).setReg (R.ADT_OWN_FRAME 0) 0x10007).setReg (R.STK_PC_MASK 0) 0xFFFFFFFFFFFFFFFF
    let p := s.blockPlace (s.stackKey 0x5C)
    s.calm ∧ s.stkClean ∧ s.frameAbsent 0x5C = false ∧ p.m < 24 ∧ s.pcFenced p.m p.pc = false ∧
      (stackRun 0x5C 36 = true ∧ 0x5C % 64 + 36 ≤ 64 ∧ s.admits 0x5C 7 true = true ∧ s.admits 0x5C 7 false = true) ∧
      (List.replicate 36 (some (0x5A : Byte))).any Option.isSome = true :=
  ⟨⟨rfl, rfl, by decide, by decide⟩, ⟨rfl, rfl, (fun _ _ h => by cases h), by decide +kernel⟩, by decide +kernel⟩
end StackBytes

/-! What meets the hypotheses of `BeatCommands`. -/
namespace BeatCommands
theorem witness_BeatCommands :
    (master.isMaster = true ∧ master.beatState = bsMASTER ∧ (master.beat.source = 0 ∨ master.beat.edgeDue = true)) ∧
    (let s : State := { master with beat := { master.beat with source := 1 } }
     s.isMaster = true ∧ s.beat.source = 1 ∧ s.beatState = bsMASTER ∧ s.beat.edgeDue = false ∧ 40 ≤ 40 ∧ 39 < 40) ∧
    F.TGL_BEAT_CTL_CNT_CLR.isSet 0x100 = true ∧
    (let s := set (up 3 member) [(R.TGL_BEAT_STATUS, F.TGL_BEAT_STATUS_UP_VALID, 1),
       (R.TGL_BEAT_STATUS, F.TGL_BEAT_STATUS_UPSTREAM, 3), (R.TGL_BEAT_NOW, F.TGL_BEAT_NOW_NUMBER, 65535)]
     let l := orderedSet (beatSet 65536 1280 0)
     s.portCarries (3 : Fin 32) = true ∧ setGood 0x01 [l] = some l ∧ s.isMaster = false ∧ s.hasId = true ∧
     s.beat.rejoin = false ∧ s.flag R.TGL_BEAT_STATUS F.TGL_BEAT_STATUS_UP_VALID = true ∧
     s.fld R.TGL_BEAT_STATUS F.TGL_BEAT_STATUS_UPSTREAM = (3 : Fin 32) ∧
     rebuild s.beatNow ((l.getD 1 0).toNat + 256 * (l.getD 2 0).toNat) = s.beatNow + 1) ∧
    (member.beatState = bsTRACKING ∧ member.isMaster = false) ∧
    (let s := set master [(R.TGL_BEAT_STATUS, F.TGL_BEAT_STATUS_STATE, bsFREE_RUN)]
     s.beatState = bsFREE_RUN ∧ s.isMaster = true) ∧
    (let s := set member [(R.TGL_BEAT_STATUS, F.TGL_BEAT_STATUS_STATE, bsFREE_RUN)]
     s.beatState = bsFREE_RUN ∧ s.isMaster = false) ∧
    (let s := set (up 7 member) [(R.TGL_BEAT_STATUS, F.TGL_BEAT_STATUS_UP_VALID, 1),
       (R.TGL_ROUTE 5, F.TGL_ROUTE_PRIMARY, 7), (R.TGL_ROUTE 5, F.TGL_ROUTE_P_VALID, 1)]
     s.podState = psMEMBER ∧ s.route s.masterId = some 7 ∧ s.flag R.TGL_BEAT_STATUS F.TGL_BEAT_STATUS_UP_VALID = true ∧
     s.fld R.TGL_BEAT_STATUS F.TGL_BEAT_STATUS_UPSTREAM ≠ 7) ∧
    (let l := orderedSet [0x02, 0x34, 0x12, 0, 0, 0]
     (up 31 member).portCarries (31 : Fin 32) = true ∧ setGood 0x02 [l, l] = some l) ∧
    (let s := (up 0 member).setPort 0 { PortState.fresh with probe := some 0x1234 }
     let l := orderedSet [0x03, 0x34, 0x12, 0, 0, 0]
     s.portCarries (0 : Fin 32) = true ∧ setGood 0x03 [l] = some l ∧
     (s.port (0 : Fin 32)).probe = some ((l.getD 1 0).toNat + 256 * (l.getD 2 0).toNat)) := by decide +kernel
end BeatCommands

/-! What meets the hypotheses of `AdmissionWalk`. -/
namespace AdmissionWalk
/-- A set whose first segment holds pages 0 to 3, with the entry of page 3; and an admission of pages 3 to 3. -/
def segs : List (Nat × Nat × Nat) := [(2 ^ 63 + 2 ^ 62, 4, 0)]
def page3 : PageFound := ⟨3, 2 ^ 63 + 2 ^ 62, true⟩
def adm (l : List PageFound) : Admission :=
  { who := .queue 0 0, ctx := 1, cls := 0, ops := [(3, 3, true)], ident := (0, 0, 0, 0), segs := some segs, found := l,
    reading := none, late := false }

theorem witness_AdmissionWalk :
    ((adm [page3]).walk = .found ∧ (adm [page3]).ops ≠ [] ∧ (adm [page3]).ops.flatMap opPages = [] ++ (3, true) :: []) ∧
    (segFor segs 4 = none ∧ segFor segs 3 = some (0, (2 ^ 63 + 2 ^ 62, 4, 0))) ∧
    ([page3].find? fun f => f.page == 3) = some page3 ∧
    (bit page3.entry 63 = true ∧ entryMalformed page3.entry = false ∧ bit page3.entry 62 = true) ∧
    (bit 0 63 = false ∧ entryMalformed (2 ^ 63 + 1) = true ∧ bit (2 ^ 63) 62 = false) ∧
    (walkPage segs [] 3 true = some (.read 4) ∧ (adm []).walk = .read 4) := by decide +kernel
end AdmissionWalk

/-! What meets the hypotheses of `HuskRoundTrip`. -/
namespace HuskRoundTrip
/-- Husks of every kind of header with each field at its largest value. -/
def largest : List Husk :=
  [⟨7, 63, 63, 4095, 15, 15, 32767, 63, 16383, 2 ^ 41 - 1, 4095, 15, 0, false, (0, 0, 0), false, [1]⟩,
   ⟨8, 63, 63, 4095, 15, 15, 32767, 63, 0, 0, 0, 0, 255, true, (0, 0, 0), false, []⟩,
   ⟨9, 63, 63, 4095, 15, 15, 32767, 63, 0, 0, 0, 0, 0, false, (65535, 65535, 65535), false, []⟩,
   ⟨10, 63, 63, 4095, 15, 15, 32767, 63, 0, 0, 0, 0, 0, false, (0, 0, 0), true, []⟩,
   ⟨11, 63, 63, 4095, 15, 15, 32767, 63, 0, 0, 0, 0, 0, false, (0, 0, 0), false, []⟩]

theorem witness_fits : largest.all (fun h => h.fits) = true := by decide

theorem witness_read_back : largest.all (fun h => Husk.parse h.header h.payload == h) = true := by decide +kernel

theorem witness_same_header :
    ∃ h g : Husk, h.fits = true ∧ g.fits = true ∧ h.header = g.header ∧ h.payload = g.payload :=
  ⟨Husk.zero, Husk.zero, by decide, by decide, rfl, rfl⟩
end HuskRoundTrip

/-! What meets the hypotheses of `ScalarFrame`. -/
namespace ScalarFrame
theorem witness_ScalarFrame :
    let w := 0x01 * 2 ^ 56 + 31 * 2 ^ 51 + 1 * 2 ^ 46 + 2 * 2 ^ 41
    let s := runs w [(1, 5), (2, 9)]
    s.calm ∧ s.issues 15 = true ∧ (s.engine 15).code[(s.engine 15).pc]? = some w ∧ knownOpcode w = true ∧
      rowKey w = (0x01, 0) ∧ hasReserved w = false :=
  ⟨⟨rfl, rfl, by decide +kernel, by decide +kernel⟩, by decide +kernel⟩
end ScalarFrame

/-! What meets the hypotheses of `AdmissionCommands`. -/
namespace AdmissionCommands
/-- A fault outstanding, an invalidation, and an admission of context 7. -/
def faulted (w : Admission) : State := { at' stREADY with adt := { State.reset.adt with faults := [⟨9, w, []⟩] } }
def plain : Admission := ⟨.queue 3 0, 7, 0, [(5, 5, true)], (0, 0, 0, 0), none, [], none, false⟩
def inval (running : Bool) (us : List Nat) : Invalidation := ⟨7, true, 0, 0, some 1, us, running⟩
def withInval (x : Invalidation) : State := { State.reset with adt := { State.reset.adt with invals := [x] } }

theorem witness_AdmissionCommands :
    (State.reset.flag (R.ADT_OWN_FRAME 719) F.ADT_OWN_FRAME_ABSENT = false ∧
      (State.reset.setFld (R.ADT_OWN_FRAME 0) F.ADT_OWN_FRAME_ABSENT 1).flag (R.ADT_OWN_FRAME 0) F.ADT_OWN_FRAME_ABSENT =
        true) ∧
    (let v : Word := BitVec.ofNat 64 (4095 * 2 ^ 16 + 1)
     F.ADT_CTX_CMD_CMD.of v = 1 ∧ F.ADT_CTX_CMD_CTX.of v = 4095 ∧ State.reset.ctxState 4095 = cxFREE) ∧
    (let v : Word := BitVec.ofNat 64 (4095 * 2 ^ 16 + 2)
     let s := State.reset.setFld (R.ADT_CTX_STATUS 4095) F.ADT_CTX_STATUS_STATE cxACTIVE
     F.ADT_CTX_CMD_CMD.of v = 2 ∧ F.ADT_CTX_CMD_CTX.of v = 4095 ∧ s.ctxState 4095 = cxACTIVE) ∧
    (let s := State.reset.setFld (R.ADT_CTX_STATUS 4095) F.ADT_CTX_STATUS_STATE cxRETIRING
     s.ctxState 4095 = cxRETIRING ∧ (s.adt.invals.any fun x => x.seq.isNone && x.ctx == 4095) = false ∧
       s.ownedBy 4095 = [] ∧ s.flag R.ADT_OWN_STATUS F.ADT_OWN_STATUS_PENDING = false) ∧
    (let s := State.reset.setAdmissions 7 [plain]
     s.admissions 7 = [plain] ∧ plain.reading = none ∧ (s.bump R.ADT_CNT F.ADT_CNT_ADMISSIONS).ctxState 7 ≠ cxACTIVE ∧
     ((s.setFld (R.ADT_CTX_STATUS 7) F.ADT_CTX_STATUS_STATE cxACTIVE).bump R.ADT_CNT F.ADT_CNT_ADMISSIONS).ctxState 7 =
       cxACTIVE) ∧
    (let w := { plain with reading := some 0 }
     let s := set (State.reset.setAdmissions 0 [w]) [(R.ADT_CTX_TABLE, F.ADT_CTX_TABLE_BASE, bufferBase / 4096)]
     let t := s.setFld (R.SBF_STATUS 0) F.SBF_STATUS_ABSENT 1
     s.admissions 0 = [w] ∧ w.reading = some 0 ∧
     (s.memRead ⟨0, w.cls, 2, 400000⟩ (s.tableAddr w 0).1 (s.tableAddr w 0).2 false).1 = scDONE ∧
     (t.memRead ⟨0, w.cls, 2, 400000⟩ (t.tableAddr w 0).1 (t.tableAddr w 0).2 false).1 ≠ scDONE) ∧
    (let s := set (State.pushFault State.reset 6 ⟨9, plain, []⟩) [(R.ADT_FAULT_RING, F.ADT_FAULT_RING_SIZE, 4)]
     s.adt.writing = none ∧ s.faultSpace = true ∧ s.schRestarts = false ∧ s.nextFaultDie = some 6) ∧
    ((faulted plain).written R.ADT_RESUME 9).adt.faults.find? (fun e => e.id == F.ADT_RESUME_FAULT_ID.of 9) =
      some ⟨9, plain, []⟩ ∧
    (F.ADT_RESUME_ABORT.isSet 9 = false ∧ F.ADT_RESUME_ABORT.isSet 0x8000000000000009 = true) ∧
    (State.reset.written R.ADT_INV_ARG1 0).fld R.ADT_INV_STATUS F.ADT_INV_STATUS_QUEUED < 16 ∧
    16 ≤ ((State.reset.setFld R.ADT_INV_STATUS F.ADT_INV_STATUS_QUEUED 16).written R.ADT_INV_ARG1 0).fld R.ADT_INV_STATUS
      F.ADT_INV_STATUS_QUEUED ∧
    (let s := (withInval (inval true [255, 271]))
     s.invalHead = some (inval true [255, 271]) ∧ (inval true [255, 271]).waiting.contains 255 = true ∧
     (inval true [255, 271]).waiting.contains (256 + 15) = true ∧ s.engineAdmitting (inval true [255, 271]) 15 = false ∧
     s.jobAt 15 = none ∧ (s.inProgress 255) = [] ∧ s.adt.work = []) ∧
    (let x := inval false []
     let s := State.setAdmissions (withInval x) 0 [{ plain with reading := some 6 }]
     s.adt.invals = [x] ∧ (s.moverHolders x ++ s.engineHolders x).isEmpty = false) ∧
    State.reset.topState ≠ stFAULT ∧
    (let s : State := { State.reset with nme := { State.reset.nme with
       ring := { State.reset.nme.ring with errors := [(31, 16)] } } }
     16 ≤ Tab.get (fun _ => 0) s.nme.ring.errors (2 * 15 + 1)) := by decide +kernel
end AdmissionCommands

/-! What meets the hypotheses of `BufferCommands`. -/
namespace BufferCommands
theorem witness_BufferCommands :
    (let s := State.reset.setFld (R.SBF_PART_CLR 7) F.SBF_PART_CLR_BUSY 1
     regionOf 0x1C17FFFFFF8 = .buffer ∧ s.clearing (sbDie 0x1C17FFFFFF8) = true ∧ s.clearing (7 : Fin 8) = true ∧
       s.buffer.held = []) ∧
    (let s := (State.reset.setReg (R.ADT_OWN_PART 0) 0x10007)
     s.clearing (sbDie bufferBase) = false ∧ s.sbAbsent bufferBase = false ∧ bufferRun bufferBase 16384 = true ∧
       s.admits bufferBase 7 false = true ∧ s.admits bufferBase 7 true = true ∧ s.admits bufferBase 4095 false = false ∧
       s.admits bufferBase 4095 true = false ∧ atomicValid bufferBase 11 8 = true ∧ s.sbFenced bufferBase = false) ∧
    (bufferRun 0 64 = false ∧ regionOf 0 ≠ .buffer) ∧
    (State.reset.setFld (R.SBF_SCRUB_CTL 0) F.SBF_SCRUB_CTL_EN 1).flag (R.SBF_SCRUB_CTL (sbDie bufferBase))
      F.SBF_SCRUB_CTL_EN = true ∧
    (F.SBF_PART_CLR_MASK.of 1 ≠ 0 ∧ F.SBF_PART_CLR_MASK.of 0 = 0 ∧ F.SBF_ERR_POP_POP.isSet 1 = true ∧
      F.SBF_ERR_POP_POP.isSet 0 = false ∧ F.SBF_ERR_CTL_CNT_CLR.isSet (2 ^ 63) = true) ∧
    (let v : Word := BitVec.ofNat 64 bufferBase
     regionOf (8 * F.SBF_INJECT_ADDR.of v) = .buffer ∧ sbDie (8 * F.SBF_INJECT_ADDR.of v) = (0 : Fin 8)) := by decide +kernel
end BufferCommands

/-! What meets the hypotheses of `StackCommands`. -/
namespace StackCommands
theorem witness_StackCommands :
    (let s := State.reset.setReg (R.ADT_OWN_FRAME 719) 0x10007
     let a := 0x16800000000 - 64
     stackRun a 64 = true ∧ s.frameAbsent a = false ∧ s.admits a 7 false = true ∧ s.admits a 7 true = true ∧
       s.admits a 4095 false = false ∧ s.admits a 4095 true = false ∧ inStack a = true ∧
       (let p := s.blockPlace (s.stackKey a); s.pcFenced p.m p.pc = false)) ∧
    (stackRun 0x16800000000 64 = false ∧
     (State.reset.setFld (R.ADT_OWN_FRAME 0) F.ADT_OWN_FRAME_ABSENT 1).frameAbsent 0 = true) ∧
    State.reset.pcFenced (23 : Fin 24) (63 : Fin 64) = false ∧
    (State.reset.setFld (R.STK_STATUS 23) F.STK_STATUS_TEMP 86).flag (R.STK_STATUS 23) F.STK_STATUS_REFRESH = false ∧
    (let s := State.reset.setFld (R.STK_STATUS 23) F.STK_STATUS_REFRESH 1
     (s.setFld (R.STK_STATUS 23) F.STK_STATUS_TEMP 82).flag (R.STK_STATUS 23) F.STK_STATUS_REFRESH = true ∧
     Tab.get (fun _ => 0) s.stackState.cool 23 + 1 < 10 ∧
     10 ≤ Tab.get (fun _ => 0) [(23, 9)] 23 + 1) ∧
    (State.reset.setFld (R.STK_SCRUB_CTL 0) F.STK_SCRUB_CTL_EN 1).flag (R.STK_SCRUB_CTL 0) F.STK_SCRUB_CTL_EN = true ∧
    (F.STK_ERR_POP_POP.isSet 1 = true ∧ F.STK_ERR_POP_POP.isSet 0 = false ∧
      F.STK_ERR_CTL_CNT_CLR.isSet (2 ^ 63) = true) := by decide +kernel
end StackCommands

/-! What meets the hypotheses of `CacheCommands`. -/
namespace CacheCommands
/-- A slice that is enabled, over a frame that context 7 owns. -/
def slice (x : SliceState) : State :=
  State.setSlice (set (State.reset.setReg (R.ADT_OWN_FRAME 0) 0x10007) [(R.MSC_CTL 0, F.MSC_CTL_EN, 1)]) 0 x
def miss (issued : Bool) : MissRegister := ⟨5, some 3, false, issued, true, 640, 0, [], List.replicate 128 none⟩
def entry (isOpen : Bool) : MergeEntry := ⟨5, 0, List.replicate 128 none, isOpen⟩

theorem witness_CacheCommands :
    (let s := slice SliceState.empty
     let q : MscRead := ⟨64, 64, 7, 0, 0, 1, 2⟩
     stackRun 64 64 = true ∧ 64 / 128 = (64 + 64 - 1) / 128 ∧ s.stackOf 64 = 0 ∧ (s.slice 0).blocked = false ∧
     (s.slice 0).heldBefore (lineOf 64) 1 = false ∧ s.frameAbsent 64 = false ∧ s.admits 64 7 false = true ∧
     s.admits 64 7 true = true ∧ s.admits 64 8 true = false ∧ s.mscOn 0 = true ∧ s.lineFenced 0 (lineOf 64) 64 128 = false ∧
     (s.mscLookup 0 (lineOf 64) q 0 false).1 = none ∧
     ((s.mscLookup 0 (lineOf 64) q 0 false).2.mscMiss 0 (lineOf 64) q).isSome = true ∧
     s.flag (R.MSC_CTL 0) F.MSC_CTL_EN = true ∧ (s.slice 0).ownReadPending (lineOf 64) 1 = false ∧
     (s.slice 0).merging.length < 64) ∧
    stackRun 0x16800000000 64 = false ∧
    (let s := slice { SliceState.empty with lines := [(16 * setOf 0, some ⟨tagOf 0, List.replicate 128 7, false⟩)] }
     (s.mscLookup 0 (lineOf 64) ⟨64, 64, 7, 0, 0, 1, 2⟩ 0 false).1.isSome = true) ∧
    (slice { SliceState.empty with merging := [entry true], disabling := true }).mbMayHand 0 0 true = true ∧
    ((slice { SliceState.empty with merging := [entry false] }).slice 0).merging[0]? = some (entry false) ∧
    (((slice { SliceState.empty with misses := [miss false] }).slice 0).misses[0]? = some (miss false) ∧
      ((slice { SliceState.empty with misses := [miss true] }).slice 0).misses[0]? = some (miss true)) ∧
    (let s := slice SliceState.empty
     let u := (s.written (R.MSC_CTL 0) 0).setFld (R.MSC_CTL 0) F.MSC_CTL_EN (F.MSC_CTL_EN.of (s.reg (storeOf (R.MSC_CTL 0))))
     F.MSC_CTL_CNT_CLR.isSet 0 = false ∧ u.flag (R.MSC_STATUS 0) F.MSC_STATUS_FAULTY = false ∧
     F.MSC_CTL_EN.isSet 0 = false ∧ u.flag (R.MSC_CTL 0) F.MSC_CTL_EN = true ∧ (u.slice 0).disabling = false) ∧
    (let s := State.reset
     let u := (s.written (R.MSC_CTL 23) 1).setFld (R.MSC_CTL 23) F.MSC_CTL_EN
       (F.MSC_CTL_EN.of (s.reg (storeOf (R.MSC_CTL 23))))
     F.MSC_CTL_EN.isSet 1 = true ∧ (u.slice 23).disabling = false ∧ u.flag (R.MSC_CTL 23) F.MSC_CTL_EN = false ∧
     u.flag (R.MSC_STATUS 23) F.MSC_STATUS_FAULTY = false) ∧
    (let s := slice { SliceState.empty with disabling := true }
     (s.slice 0).disabling = true ∧ (s.slice 0).merging = [] ∧ (s.slice 0).misses = [] ∧ (s.slice 0).enableAfter = false) ∧
    ((slice { SliceState.empty with disabling := true, enableAfter := true }).slice 0).enableAfter = true ∧
    (F.MSC_CTL_CNT_CLR.isSet (2 ^ 63) = true ∧ F.MSC_INV_ALL_GO.isSet 1 = true ∧
      (State.reset.written (R.MSC_INV_ALL 0) 1).flag (R.MSC_STATUS 0) F.MSC_STATUS_INV_BUSY = false) ∧
    ((slice { SliceState.empty with sweep := some 4096 }).slice 0).sweep = some 4096 := by decide +kernel
end CacheCommands

/-! What meets the hypotheses of `QueueCommands`. -/
namespace QueueCommands
theorem witness_QueueCommands :
    (let back := fun (s : State) (k : Nat) (v : Word) =>
       (s.written (qTAIL k) v).setReg (qTAIL k) (s.reg (storeOf (qTAIL k)))
     F.DMV_Q_TAIL_TAIL.of 4 = 4 ∧ F.DMV_Q_TAIL_TAIL.of 5 = 5 ∧
     (∀ k ∈ [queueKey 255 15, jobKey 7 31],
       (back (queue k qsRUNNING 0) k 0).qTail k = 0 ∧ (back (queue k qsRUNNING 0) k 4).qState k = qsRUNNING ∧
       (back (queue k qsRUNNING 0) k 4).qTail k = 0 ∧
       (back (queue k qsRUNNING 0) k 4).qBacklog k 4 ≤ 2 ^ (back (queue k qsRUNNING 0) k 4).qSize k ∧
       ((back (queue k qsRUNNING 0) k 4).setFld (qTAIL k) F.DMV_Q_TAIL_TAIL 4).schRestarts = false ∧
       2 ^ (back (queue k qsRUNNING 0) k 4).qSize k < (back (queue k qsRUNNING 0) k 5).qBacklog k 5 ∧
       (back (queue k qsDISABLED 0) k 4).qState k = qsDISABLED)) ∧
    (let back := fun (s : State) (k : Nat) (v : Word) =>
       (s.written (qCTL k) v).setReg (qCTL k) (s.reg (storeOf (qCTL k)))
     F.DMV_Q_CTL_RESET.isSet 1 = false ∧ F.DMV_Q_CTL_EN.isSet 1 = true ∧ F.DMV_Q_CTL_EN.isSet 0 = false ∧
     F.DMV_Q_CTL_RESET.isSet 2 = true ∧
     (∀ k ∈ [queueKey 255 15, jobKey 7 31],
       let u := back (queue k qsDISABLED 0) k 1
       u.flag (qCTL k) F.DMV_Q_CTL_EN = false ∧ u.qState k = qsDISABLED ∧ u.qSize k ≠ 0 ∧ (u.ring k).resetting = false ∧
       (u.setFld (qCTL k) F.DMV_Q_CTL_EN 1).ringsAllowed k = true ∧
       ((u.setReg (qRING k) (BitVec.ofNat 64 (2 * 2 ^ 60))).setFld (qCTL k) F.DMV_Q_CTL_EN 1).ringsAllowed k = false ∧
       (back (queue k qsRUNNING 1) k 0).qState k = qsRUNNING ∧
       F.DMV_Q_CTL_RESET.isSet ((queue k qsRUNNING 1).reg (storeOf (qCTL k))) = false)) ∧
    (let k := queueKey 0 0
     let s := (at' stREADY).setRing k { RingState.idle with resetting := true }
     (s.ring k).resetting = true ∧ (s.transfers k).all Transfer.drained = true) ∧
    (let k := jobKey 0 0
     let s := (at' stREADY).setRing k { RingState.idle with resetting := true }
     (s.ring k).resetting = true ∧ ((s.jobs k).all fun j => s.jobDrained k j) = true) := by decide +kernel
end QueueCommands

/-! What meets the hypotheses of `MoverCommands`. -/
namespace MoverCommands
/-- A linear descriptor of n bytes in context 0. -/
def linear (n : Nat) : List Nat := [2 ^ 60, n, bufferBase, bufferBase + 4096, 0, 0, 0, 0]
def ready (ws : List Nat) : State :=
  let s := queue (queueKey 0 0) qsRUNNING 1
  (s.setRing (queueKey 0 0) { RingState.idle with fetched := some ws, known := 1 }).setFld (qSTATUS (queueKey 0 0))
    F.DMV_Q_STATUS_RUNS_ON 0
def done : Transfer :=
  ⟨0, linear 64, scDONE, 0, 0, 64, 0, false, [], [], none, 0, [], true, false, false, 0⟩

theorem witness_MoverCommands :
    (let s := (queue 0 qsRUNNING 1).setRing 0 { RingState.idle with known := 1 }
     let w : State := { s with movers := { s.movers with last := Tab.set (fun _ => 4095) s.movers.last 0 0 } }
     s.pickQueue 0 = some 0 ∧ isJob 0 = false ∧
     (w.countRead (w.runsOn 0) 64).inHouse (w.itemAddr 0 (w.qStarted 0)) = true) ∧
    (∀ ws ∈ [linear 64, linear 0, 0 :: (linear 64).tail],
      ((ready ws).ring (queueKey 0 0)).fetched = some ws ∧ (ready ws).mayStart (queueKey 0 0) ws = true) ∧
    (let u := fun ws => ((ready ws).setRing 0 { (ready ws).ring 0 with fetched := none }).startNext 0
     (u (linear 64)).descCheck ((u (linear 64)).qCtx 0) (linear 64) = none ∧
     (u (0 :: (linear 64).tail)).descCheck ((u (linear 64)).qCtx 0) (0 :: (linear 64).tail) = some drRESERVED_VALUE) ∧
    (let s := (ready []).setTransfers 0 [done]
     (s.transfers 0).find? Transfer.ended = some done ∧ (s.ring 0).resetting = false ∧
     s.fld (R.DMV_STATUS done.unit) F.DMV_STATUS_STATE ≠ 1) ∧
    State.reset.fld (R.DMV_STATUS 255) F.DMV_STATUS_STATE = 0 ∧
    (let s := (ready []).setFld (R.DMV_STATUS 0) F.DMV_STATUS_STATE 1
     s.fld (R.DMV_STATUS 0) F.DMV_STATUS_STATE = 1 ∧ (s.inProgress 0).all Transfer.drained = true ∧
     (s.queuesOf 0).isEmpty = false) ∧
    F.DMV_CTL_CNT_CLR.isSet 1 = true ∧
    (let h := { Husk.zero with typ := Husk.BAR, opx := 1, addr := bufferBase, payload := List.replicate 16 0 }
     let s := (at' stREADY).setPort 31 { (at' stREADY).port 31 with barriers := [h] }
     let u := s.setPort 31 { s.port 31 with barriers := [] }
     (s.port 31).barriers = [h] ∧ h.opx = 1 ∧ u.badTarget { h with typ := Husk.BAR } = false ∧ u.topState = stREADY) := by
  decide +kernel
end MoverCommands

/-! What meets the hypotheses of `JobCommands`. -/
namespace JobCommands
/-- Ring 0 of die 0 has fetched a job. -/
def headOf (ws : List Nat) : State :=
  (queue (jobKey 0 0) qsRUNNING 1).setRing (jobKey 0 0) { RingState.idle with fetched := some ws, known := 1 }

def run0 : List Nat := [2 ^ 60, bufferBase, 0, 0, 0, 0, 0, 0, 0, 0, 0, 0, 0, 0, 0, 0]

def shown (s : State) : State :=
  let u := (s.jobRings 0).foldl (fun u r => u.showWaits (jobKey 0 r)) s
  { u with nme := { u.nme with last := Tab.set (fun _ => 31) u.nme.last 0 0 } }

/-- The header of a program of one instruction, whose image the engine holds. -/
def header : List Byte :=
  let h := Word.bytes 4 0x31454D4E ++ Word.bytes 2 1 ++ List.replicate 2 0 ++ Word.bytes 4 1 ++ List.replicate 16 0
  h ++ Word.bytes 4 (crc32c h).toNat
def imaged : State :=
  let s := (withJob .loading none).setReg (R.ADT_OWN_PART 0) 0x10000
  let s := s.setEngine 15 { s.engine 15 with image := some (bufferBase, 0) }
  { s with sram := writeCells ramDefault s.sram bufferBase header, buffer := { s.buffer with valid := [(bufferBase, true)] } }

theorem witness_JobCommands :
    (imaged.loadCode 15 run0).1 = none ∧
    (let s := (queue (jobKey 0 0) qsRUNNING 1).setRing (jobKey 0 0) { RingState.idle with known := 1 }
     s.mayFetch (jobKey 0 0) = true ∧ s.inHouse (s.itemAddr (jobKey 0 0) (s.qStarted (jobKey 0 0))) = true) ∧
    (∀ ws ∈ [run0, 0 :: run0.tail, 2 ^ 61 :: run0.tail],
      (let s := headOf ws
       let u := (s.jobRings 0).foldl (fun u r => u.showWaits (jobKey 0 r)) s
       u.releaseRing 0 (s.jobRings 0) = some 0) ∧ (shown (headOf ws)).headJob (jobKey 0 0) = some (0, ws)) ∧
    (shown (headOf run0)).checkHead 0 run0 = .run 0 ∧
    (shown (headOf (0 :: run0.tail))).checkHead 0 (0 :: run0.tail) = .malformed jrRESERVED_VALUE ∧
    (shown (headOf (2 ^ 61 :: run0.tail))).checkHead 0 (2 ^ 61 :: run0.tail) = .join ∧
    ((shown ((headOf run0).setEngineState 0 neLOST)).checkHead 0 run0 = .lost) ∧
    (let s := withJob .loading none
     s.jobAt 15 = some (jobKey 7 31, startedJob 3 [] 15 0 .loading) ∧ (s.loadRing 15 []).1 = none ∧
     (s.loadArgs 15 []).1 = none ∧ ((s.loadCode 15 []).1).isSome = true ∧
     ((s.loadRing 15 (List.replicate 8 0 ++ [1, 0])).1).isSome = true ∧
     ((s.loadArgs 15 [0, 0, 0, 1]).1).isSome = true) ∧
    (let s := (withJob .finished none).setRing (jobKey 7 31) RingState.idle
     (s.jobs (jobKey 7 31)).find? (fun j => decide (j.phase = .finished) && s.jobDrained (jobKey 7 31) j) =
       some (startedJob 3 [] 15 0 .finished) ∧ (s.ring (jobKey 7 31)).resetting = false) ∧
    (let v : Word := BitVec.ofNat 64 (2 ^ 62 + 4095 * 16)
     F.DSP_TOK_CMD_CMD.of v = 1 ∧ F.DSP_TOK_CMD_CMD.of (v + v) = 2) ∧
    ((withJob (.spilling 1) none).jobAt 15 = some (jobKey 7 31, startedJob 3 [] 15 0 (.spilling 1))) ∧
    (let s := withJob (.waiting 1) (some EngineState.idle)
     s.jobAt 15 = some (jobKey 7 31, { startedJob 3 [] 15 0 (.waiting 1) with saved := some EngineState.idle })) ∧
    (withJob .running none).takesPackets 15 = true ∧ F.NME_CTL_CNT_CLR.isSet 1 = true := by decide +kernel
end JobCommands

/-! What meets the hypotheses of `RingCommands`. -/
namespace RingCommands
/-- One packet on the way to the W port of engine 0, for an engine. -/
def onWire (dest : Nat) : State := (at' stREADY).setWire 1 [RingPacket.make rkTOKEN dest 1 2 []]

/-- Engine 15 with a table of one slot for stream 2 at both ports. -/
def slots (e : Word) : State :=
  (((at' stREADY).setFld (R.NME_RING_CFG 15) F.NME_RING_CFG_SLOTS 1).setReg (R.NME_RING_ACTV_E 15 0) e)

theorem witness_RingCommands :
    (∀ d ∈ [0, 5], (onWire d).wire (2 * (0 : Fin 16).val + true.toNat) = [RingPacket.make rkTOKEN d 1 2 []] ∧
      (RingPacket.make rkTOKEN d 1 2 []).sound = true) ∧
    ((RingPacket.make rkTOKEN 0 1 2 []).dest = 0 ∧ (RingPacket.make rkTOKEN 5 1 2 []).dest ≠ 0 ∧
      (⟨(RingPacket.make rkTOKEN 0 1 2 []).header ^^^ 6 * 2 ^ 60, []⟩ : RingPacket).sound = false ∧
      (bitsOf 64 (6 * 2 ^ 60)).length % 2 ≠ 1) ∧
    ((onWire 0).takesPackets 0 = true ∧ ((onWire 0).setEngineState 0 neLOST).takesPackets 0 = false) ∧
    (let s := slots 0x82
     0 < s.slotCount 15 ∧ s.inHold = false ∧ bit (s.slotEntry 15 0 0) 7 = true ∧
     s.nextPacket 30 (s.slotEntry 15 0 0 % 16) = none ∧
     ((s.setOwnPackets (ringQueue 30 2) [RingPacket.make rkTOKEN 3 15 2 []]).nextPacket 30 2).isSome = true ∧
     bit ((slots 0).slotEntry 15 0 0) 7 = false) ∧
    (F.NME_RING_ACT_ARM.isSet (2 ^ 62) = true ∧ F.NME_RING_ACT_ARM.isSet 0 = false) ∧
    (let s := (withJob .running none).setOwnPackets (ringQueue 30 2) [RingPacket.make rkTOKEN 3 15 2 []]
     s.ringWaits 15 = true ∧ (s.jobAt 15).isSome = true) := by decide +kernel
end RingCommands

/-! What meets the hypotheses of `ScalarCommands`. -/
namespace ScalarCommands
theorem witness_ScalarCommands :
    ∀ op ∈ [0x01, 0x02, 0x03, 0x04, 0x05, 0x06, 0x07, 0x08, 0x09, 0x0A, 0x0B, 0x0C, 0x0D, 0x0E],
      (runs (op * 2 ^ 56 + 31 * 2 ^ 51 + 1 * 2 ^ 46 + 2 * 2 ^ 41 + 0xFFFFFFFF) [(1, 5), (2, 9)]).issues 15 = true ∧
      ((runs (op * 2 ^ 56 + 31 * 2 ^ 51 + 1 * 2 ^ 46 + 2 * 2 ^ 41 + 0xFFFFFFFF) []).engine 15).code[0]? =
        some (op * 2 ^ 56 + 31 * 2 ^ 51 + 1 * 2 ^ 46 + 2 * 2 ^ 41 + 0xFFFFFFFF) ∧
      knownOpcode (op * 2 ^ 56 + 31 * 2 ^ 51 + 1 * 2 ^ 46 + 2 * 2 ^ 41 + 0xFFFFFFFF) = true ∧
      rowKey (op * 2 ^ 56 + 31 * 2 ^ 51 + 1 * 2 ^ 46 + 2 * 2 ^ 41 + 0xFFFFFFFF) = (op, 0) ∧
      hasReserved (op * 2 ^ 56 + 31 * 2 ^ 51 + 1 * 2 ^ 46 + 2 * 2 ^ 41 + 0xFFFFFFFF) = false := by decide +kernel
end ScalarCommands

/-! What meets the hypotheses of `ControlCommands`. -/
namespace ControlCommands
/-- The word is the one that engine 15 issues next, with its reserved bits 0. -/
def issued (s : State) (w : Nat) (key : Nat × Nat) : Bool :=
  s.issues 15 && (s.engine 15).code[(s.engine 15).pc]? == some w && knownOpcode w && rowKey w == key && !hasReserved w

/-- Engine 15 at the last instruction of a loop body of two, before its last pass. -/
def inBody (w : Nat) : State :=
  let s := runs w []
  s.setEngine 15 { s.engine 15 with pc := 2, code := [0x1000000000000000, w, w], loops := [⟨1, 3, 4, 5⟩] }

theorem witness_ControlCommands :
    (issued (runs (0x11 * 2 ^ 56) []) (0x11 * 2 ^ 56) (0x11, 0) = true ∧
      ((runs (0x11 * 2 ^ 56) []).jobAt 15).isSome = true ∧ ((runs (0x11 * 2 ^ 56) []).engine 15).admitted = true) ∧
    (∀ c ∈ List.range 7, ∀ off ∈ [0xFFFFFF, 1],
      issued (inBody (0x12 * 2 ^ 56 + c * 2 ^ 52 + off)) (0x12 * 2 ^ 56 + c * 2 ^ 52 + off) (0x12, 0) = true) ∧
    (signedField (0x12 * 2 ^ 56 + 0xFFFFFF) 23 0 = -1 ∧ signedField (0x12 * 2 ^ 56 + 1) 23 0 = 1) ∧
    (∀ r ∈ [0, 1], issued (runs (0x13 * 2 ^ 56 + r * 2 ^ 47 + 4095) [(1, 9)]) (0x13 * 2 ^ 56 + r * 2 ^ 47 + 4095) (0x13, 0) = true) ∧
    (∀ v ∈ [0, 1], issued (runs (0x14 * 2 ^ 56 + v * 2 ^ 46 + 63 * 2 ^ 40) []) (0x14 * 2 ^ 56 + v * 2 ^ 46 + 63 * 2 ^ 40) (0x14, 0) =
      true) ∧
    issued (runs (0x15 * 2 ^ 56 + 65535) []) (0x15 * 2 ^ 56 + 65535) (0x15, 0) = true ∧
    issued (runs (0x15 * 2 ^ 56 + 2 ^ 55) []) (0x15 * 2 ^ 56 + 2 ^ 55) (0x15, 1) = true ∧
    issued (runs (0x16 * 2 ^ 56 + 7 * 2 ^ 52) []) (0x16 * 2 ^ 56 + 7 * 2 ^ 52) (0x16, 0) = true ∧
    issued (runs (0x16 * 2 ^ 56 + 2 ^ 55) []) (0x16 * 2 ^ 56 + 2 ^ 55) (0x16, 1) = true ∧
    (∀ k ∈ [1, 2, 3, 4], issued (runs (0x60 * 2 ^ 56 + k * 2 ^ 53) []) (0x60 * 2 ^ 56 + k * 2 ^ 53) (0x60, 0) = true ∧
      fieldOf (0x60 * 2 ^ 56 + k * 2 ^ 53) 55 53 = k) := by decide +kernel
end ControlCommands

/-! What meets the hypotheses of `StreamCommands`. -/
namespace StreamCommands
/-- Engine 15 before a word, with generator 15 bound to 4 KiB of scratch, generator 14 unbound. -/
def bound (w : Nat) (x : List (Nat × Word)) : State :=
  let s := runs w x
  s.setEngine 15 ((s.engine 15).setGen 15 (Generator.open' 0 4096 false 0 true))

def issued (s : State) (w : Nat) (key : Nat × Nat) : Bool :=
  s.issues 15 && (s.engine 15).code[(s.engine 15).pc]? == some w && knownOpcode w && rowKey w == key && !hasReserved w

theorem witness_StreamCommands :
    (∀ k ∈ List.range 12, issued (runs (0x17 * 2 ^ 56 + k) []) (0x17 * 2 ^ 56 + k) (0x17, 0) = true) ∧
    (∀ k ∈ [0, 1, 4, 5, 6], issued (runs (0x18 * 2 ^ 56 + k) []) (0x18 * 2 ^ 56 + k) (0x18, 0) = true) ∧
    (∀ k ∈ [(0x19, 0), (0x1A, 0)], issued (runs (k.1 * 2 ^ 56 + 2 ^ 46 + 0xFFFFF8) [(1, 0x1800000)])
      (k.1 * 2 ^ 56 + 2 ^ 46 + 0xFFFFF8) k = true ∧
      ((0x1800000#64 : Word) + BitVec.ofInt 64 (signedField (k.1 * 2 ^ 56 + 2 ^ 46 + 0xFFFFF8) 23 0)).toNat = 0x17FFFF8) ∧
    (∀ k ∈ [0, 4, 5, 6],
      let w := 0x20 * 2 ^ 56 + 15 * 2 ^ 52 + k * 2 ^ 48 + 2 ^ 43 + 2 ^ 38
      issued (bound w [(1, 65536)]) w (0x20, k) = true ∧ ((bound w [(1, 65536)]).engine 15).get 1 = 65536 ∧
        (((bound w []).engine 15).gen 15).bound = true) ∧
    (let w := 0x20 * 2 ^ 56 + 14 * 2 ^ 52 + 7 * 2 ^ 48 + 2 ^ 31 + 2 ^ 5 + 15
     let s := bound w []
     let s := s.setEngine 15 { (s.engine 15).setGen 14 (Generator.open' 0 64 false 0 true) with rowCount := 1 }
     let e := s.engine 15
     issued s w (0x20, 7) = true ∧ bitOf w 31 = true ∧ bitOf w 5 = true ∧ (e.gen 15).bound = true ∧ (e.gen 15).wr = false ∧
      (e.gen 15).indirect ≠ 1 ∧ (e.gen 15).admitted = true ∧ (e.gen 14).bound = true ∧
      (let l := e.rows.map fun r => shiftRuns ((e.gen 15).rowTerm r) ((e.gen 15).runs (fun _ => 0) 4 (e.gen 15).cursor 4)
       (e.gen 15).outside l.flatten = false ∧ (s.dataOf 15 ⟨[], []⟩ 15 l).isSome = true)) ∧
    (∀ scr ∈ [0, 1],
      let w := 0x21 * 2 ^ 56 + 13 * 2 ^ 52 + 2 ^ 43 + 2 * 2 ^ 38 + scr * 2 ^ 34
      let s := runs w [(1, 0), (2, 0x1800000)]
      issued s w (0x21, 0) = true ∧ fieldOf w 36 35 ≠ 3 ∧ ((s.engine 15).gen 13).bound = false ∧
        ((s.engine 15).get 1).toNat + ((s.engine 15).get 2).toNat ≤ 0x1800000 ∧
        tooManyPages (streamOperand 0 0x1800000 false) = false) ∧
    (∀ g ∈ [14, 15],
      let w := 0x22 * 2 ^ 56 + g * 2 ^ 52
      issued (bound w []) w (0x22, 0) = true ∧ (((bound w []).engine 15).gen g).bound = decide (g = 15) ∧
        (((bound w []).engine 15).gen g).admitted = true) := by decide +kernel
end StreamCommands

/-! What meets the hypotheses of `LaneCommands`. -/
namespace LaneCommands
/-- The checks of a word of engine 15, all passed. -/
def passed (s : State) (w op : Nat) (checks : EngineState → Nat → List (Nat × Bool)) : Bool :=
  s.issues 15 && (s.engine 15).code[(s.engine 15).pc]? == some w && knownOpcode w && rowKey w == (op, 0) &&
    (tileChecks (s.engine 15) w ++ checks (s.engine 15) w).all fun c => !c.2

/-- A word of format T. -/
def wordT (op d ds a as ak b bk fmt o lg n k : Nat) : Nat :=
  op * 2 ^ 56 + d * 2 ^ 52 + ds * 2 ^ 50 + a * 2 ^ 46 + as * 2 ^ 44 + ak * 2 ^ 43 + b * 2 ^ 38 + bk * 2 ^ 36 + fmt * 2 ^ 31 +
    o * 2 ^ 28 + lg * 2 ^ 24 + n * 2 ^ 11 + k

theorem witness_LaneCommands :
    (∀ op ∈ List.range 13, ∀ o ∈ [0, 4], passed (runs (wordT (0x34 + op) 0 2 0 2 0 0 0 0 o 0 1024 0) [])
      (wordT (0x34 + op) 0 2 0 2 0 0 0 0 o 0 1024 0) (0x34 + op) (ewChecks ⟨true, true, false⟩) = true) ∧
    passed (runs (wordT 0x41 7 0 0 2 0 6 0 0 0 5 1024 0) []) (wordT 0x41 7 0 0 2 0 6 0 0 0 5 1024 0) 0x41 rmaxChecks = true ∧
    (∀ op ∈ [0x42, 0x43, 0x44],
      passed (runs (wordT op 7 0 0 2 0 0 0 0 1 5 1024 0) []) (wordT op 7 0 0 2 0 0 0 0 1 5 1024 0) op redChecks = true) ∧
    (let w := wordT 0x42 7 0 0 0 0 15 3 0 1 0 2 3
     let s := runs w []
     let s := s.setEngine 15 { (s.engine 15).setGen 15 (Generator.open' 0 64 false 0 true) with rowCount := 2 }
     let r := s.runsOf 15 ⟨[], []⟩ 15 (s.engine 15).rows false 0 24
     passed s w 0x42 redChecks = true ∧ tBK w = 3 ∧
      (r.bind fun x => x.2.dataOf 15 ⟨[], []⟩ 15 x.1).isSome = true) ∧
    (∀ x ∈ [(0, 4, 2), (0, 0, Nf.fmINT32), (1, 0, 0)],
      passed (runs (wordT 0x48 0 0 0 0 x.1 0 0 x.2.2 x.2.1 0 256 0) []) (wordT 0x48 0 0 0 0 x.1 0 0 x.2.2 x.2.1 0 256 0) 0x48
        cvtChecks = true) ∧
    (∀ f ∈ [Nf.fmINT8R, Nf.fmDS4],
      passed (runs (wordT 0x49 15 0 7 0 0 0 0 f 1 0 256 0) []) (wordT 0x49 15 0 7 0 0 0 0 f 1 0 256 0) 0x49 packChecks = true ∧
      (let w := wordT 0x4A 0 0 15 0 1 0 0 f 0 0 256 0
       let s := runs w []
       passed (s.setEngine 15 ((s.engine 15).setTags 15 1 f)) w 0x4A unpackChecks = true)) ∧
    passed (runs (wordT 0x50 1 0 0 2 0 2 0 0 0 0 1024 256) []) (wordT 0x50 1 0 0 2 0 2 0 0 0 0 1024 256) 0x50 topkChecks =
      true := by decide +kernel
end LaneCommands

/-! What meets the hypotheses of `TileCommands`. -/
namespace TileCommands
/-- Engine 15 before a word, one row in force, with read generator 15, index generator 14 and write generator 13 bound to
scratch; generator 15 reads 64 bytes from its start, or its elements through generator 14. -/
def streams (w rows ind : Nat) : State :=
  let s := runs w []
  let e := s.engine 15
  let e := (e.setGen 14 (Generator.open' 0 64 false 0 true)).setGen 13 (Generator.open' 0 8192 true 0 true)
  s.setEngine 15 { e.setGen 15 { Generator.open' 0 8192 false 0 true with indirect := ind, index := 14, run := 16 } with rowCount := rows }

def wordT (op d ds a as ak b bk fmt o lg n k : Nat) : Nat :=
  op * 2 ^ 56 + d * 2 ^ 52 + ds * 2 ^ 50 + a * 2 ^ 46 + as * 2 ^ 44 + ak * 2 ^ 43 + b * 2 ^ 38 + bk * 2 ^ 36 + fmt * 2 ^ 31 +
    o * 2 ^ 28 + lg * 2 ^ 24 + n * 2 ^ 11 + k

def passed (s : State) (w op : Nat) (checks : EngineState → Nat → List (Nat × Bool)) : Bool :=
  s.issues 15 && (s.engine 15).code[(s.engine 15).pc]? == some w && knownOpcode w && rowKey w == (op, 0) &&
    (tileChecks (s.engine 15) w ++ checks (s.engine 15) w).all fun c => !c.2

def hasData (s : State) (gen : Nat) (shared : Bool) (skip len : Nat) : Bool :=
  ((s.runsOf 15 ⟨[], []⟩ gen (s.engine 15).rows shared skip len).bind fun x => x.2.dataOf 15 ⟨[], []⟩ gen x.1).isSome

theorem witness_TileCommands :
    (∀ ind ∈ [0, 1], passed (streams (wordT 0x30 15 0 0 0 0 15 3 0 0 0 32 0) 2 ind) (wordT 0x30 15 0 0 0 0 15 3 0 0 0 32 0) 0x30
      ldtChecks = true ∧ hasData (streams (wordT 0x30 15 0 0 0 0 15 3 0 0 0 32 0) 2 ind) 15 false 0 32 = true) ∧
    (let w := wordT 0x30 15 0 0 0 0 15 3 Nf.fmINT8R 0 0 32 15
     passed (streams w 2 0) w 0x30 ldtChecks = true ∧ hasData (streams w 2 0) 15 false 0 32 = true ∧
      hasData (streams w 2 0) (scaleGen w) false 32 4 = true) ∧
    (∀ f ∈ [0, Nf.fmINT8R],
      let w := wordT 0x31 0 0 15 0 1 13 3 f 0 0 32 13
      passed (streams w 2 0) w 0x31 sttChecks = true ∧
        ((streams w 2 0).runsOf 15 ⟨[], []⟩ 13 [0, 1] false 0 32).isSome = true ∧
        ((streams w 2 0).runsOf 15 ⟨[], []⟩ 13 [0, 1] false 32 4).isSome = true) ∧
    (let w := wordT 0x32 7 0 0 0 0 15 3 0 0 0 4 3
     passed (streams w 2 0) w 0x32 mmaChecks = true ∧ hasData (streams w 2 0) 15 true 0 48 = true) ∧
    (∀ o ∈ [0, 3],
      let w := wordT 0x33 7 0 0 0 0 15 3 0 o 1 4 3
      passed (streams w 2 0) w 0x33 vmaChecks = true ∧ hasData (streams w 2 0) 15 false 0 48 = true) ∧
    (let w := wordT 0x51 0 0 0 0 0 15 3 0 0 0 2 0
     let s := streams w 2 1
     let e := s.engine 15
     let x := e.gen 15
     let l := e.rows.map fun r => (e.lanes (tA w) r (tN w)).map fun (i : Nat) =>
       ((x.offset : Int) + (r : Int) * x.rowStride + (i : Int) * x.scale, x.run)
     passed s w 0x51 gathChecks = true ∧ x.admitted = true ∧ x.outside l.flatten = false ∧
      (s.dataOf 15 ⟨[], []⟩ 15 l).isSome = true) := by decide +kernel
end TileCommands

/-! What meets the hypotheses of `RingInstructions`. -/
namespace RingInstructions
def wordP (op reg span kind port stream dest rop n cnt : Nat) : Nat :=
  op * 2 ^ 56 + reg * 2 ^ 52 + span * 2 ^ 50 + kind * 2 ^ 49 + port * 2 ^ 47 + stream * 2 ^ 43 + dest * 2 ^ 39 + rop * 2 ^ 37 +
    n * 2 ^ 24 + cnt * 2 ^ 20

def passed (s : State) (w op : Nat) : Bool :=
  s.issues 15 && (s.engine 15).code[(s.engine 15).pc]? == some w && knownOpcode w && rowKey w == (op, 0) &&
    (ringChecks (s.engine 15) w).all fun c => !c.2

/-- One row in force, and a DATA packet of 8 bytes, or a TOKEN packet, at the head of stream 2 of port E. -/
def came (w kind : Nat) : State :=
  let s := runs w []
  let s := s.setEngine 15 { s.engine 15 with rowCount := 1 }
  s.setReceived (ringQueue 30 2) [(0, RingPacket.make kind 15 14 2 [0, 0, 128, 63, 0, 0, 0, 64])]

theorem witness_RingInstructions :
    (∀ k ∈ [0, 1], passed (runs (wordP 0x58 7 0 k 1 2 0 0 1024 0) []) (wordP 0x58 7 0 k 1 2 0 0 1024 0) 0x58 = true ∧
      pDEST (wordP 0x58 7 0 k 1 2 0 0 1024 0) ≠ 15) ∧
    (∀ k ∈ [0, 1], ∀ n ∈ [8, 12],
      let w := wordP 0x59 7 0 k 0 2 0 0 n 0
      let s := came w rkDATA
      let u := State.recvGo 15 w n 1 s
      passed s w 0x59 = true ∧ (((u.engine 15).taken.map Prod.fst).getD 0 = n ↔ n = 8) ∧
        ((came w rkTOKEN).engine 15).taken = none ∧ passed (came w rkTOKEN) w 0x59 = true ∧
        ((came w rkTOKEN).received (ringQueue 30 2)).all (fun x => x.2.kind == rkTOKEN) = true ∧
        (runs w []).received (ringQueue 30 2) = []) ∧
    (∀ n ∈ [8, 12],
      let w := wordP 0x5A 7 0 0 2 2 0 0 n 1
      let s := came w rkDATA
      let u := State.rredGo 15 w n 1 s
      passed s w 0x5A = true ∧ (((u.engine 15).taken.map Prod.fst).getD 0 = n ↔ n = 8)) ∧
    (let s := runs 0 []
     let e := s.engine 15
     let s := s.setEngine 15 ((e.setGen 1 { Generator.open' (32 * 2 ^ 41) 64 false 0 false with admitted := true }).setGen 0
       (Generator.open' 0 64 false 0 false))
     let g := (s.engine 15).gen 1
     ((s.engine 15).gen 0).admitted = false ∧ g.admitted = true ∧ g.indirect ≠ 1 ∧
      g.outside (g.spans [0] false 0 65 fun _ _ => 0).flatten = true ∧
      ((s.farPieces g [(0, 64)]).eraseDups.filter fun u => ((s.engine 15).access 1 u).isNone) ≠ []) := by decide +kernel
end RingInstructions

/-! What meets the hypotheses of `IssueStops`. -/
namespace IssueStops
theorem witness_IssueStops :
    (runs 0 []).issues 15 = true ∧ (runs 0 []).issues 14 = false ∧ ((runs 0 []).jobAt 15).isSome = true ∧
    (let s := (runs 0 []).setEngine 15 { (runs 0 []).engine 15 with pc := 1 }
     s.issues 15 = true ∧ (s.engine 15).code.length ≤ (s.engine 15).pc) ∧
    (∀ op ∈ [0, 0xF, 0x1B, 0x23, 0x45, 0x5B, 0x61, 255],
      ((runs (op * 2 ^ 56) []).engine 15).code[0]? = some (op * 2 ^ 56) ∧ knownOpcode (op * 2 ^ 56) = false) ∧
    (let w := 0x35 * 2 ^ 56 + 5 * 2 ^ 52 + 97 * 2 ^ 11
     let s := runs w []
     let z := s.setEngine 15 { s.engine 15 with rowCount := 0 }
     s.issues 15 = true ∧ (s.engine 15).code[0]? = some w ∧ knownOpcode w = true ∧ rowKey w = (0x35, 0) ∧
      failing (tileChecks (z.engine 15) w ++ ewChecks formAB (z.engine 15) w) = some jrZERO_DIM ∧
      (let z := s.setEngine 15 { s.engine 15 with rowBase := 1 }
       failing (tileChecks (z.engine 15) w ++ ewChecks formAB (z.engine 15) w) = some jrINSTRUCTION)) := by decide +kernel
end IssueStops

/-! What meets the hypotheses of `RegulationCommands`. -/
namespace RegulationCommands
/-- Stack 17 of the example after R348: classes 1, 2 and 3, with class 3 active in position 3 alone. -/
def hotStack : State :=
  set State.reset [(R.RGL_TDF_ACTV 1, ⟨63, 0⟩, 15), (R.RGL_TDF_ACTV 2, ⟨63, 0⟩, 15), (R.RGL_TDF_ACTV 3, ⟨63, 0⟩, 8),
    (R.RGL_MIN 17 1, F.RGL_MIN_MIN, 1200000), (R.RGL_MIN 17 2, F.RGL_MIN_MIN, 300000), (R.RGL_MIN 17 3, F.RGL_MIN_MIN, 250000),
    (R.RGL_STK_CFG 17, F.RGL_STK_CFG_HPRES, 50000), (R.STK_CAP 17, F.STK_CAP_CAP, 1673432)]

/-- The values of that example. -/
theorem test_scaled_minimums : hotStack.rglAvail 17 = 1623432 ∧
    (List.range 4).map (hotStack.rglSum 17) = [1500000, 1500000, 1500000, 1750000] ∧
    (hotStack.rglLive 17 = true → [1, 2, 3].map (fun c => hotStack.rglNew 17 c 3) = [1113210, 278302, 231918]) ∧
    (hotStack.rglLive 17 = true → [1, 2, 3].map (fun c => hotStack.rglNew 17 c 0) = [1200000, 300000, 0]) := by decide +kernel

theorem witness_RegulationCommands :
    (∀ q ∈ [0, 4000, 8191],
      let u := ((set State.reset [(R.RGL_QFB_CTL, F.RGL_QFB_CTL_HIGH, 4001), (R.RGL_QFB_CTL, F.RGL_QFB_CTL_LOW, 3999)]).setFld
        (R.RGL_STK_STATUS 23) F.RGL_STK_STATUS_Q q).countThrottled 23
      (q = 8191 → u.fld R.RGL_QFB_CTL F.RGL_QFB_CTL_HIGH ≤ q) ∧ (q = 0 → q ≤ u.fld R.RGL_QFB_CTL F.RGL_QFB_CTL_LOW) ∧
      (q = 4000 → u.fld R.RGL_QFB_CTL F.RGL_QFB_CTL_LOW < q ∧ q < u.fld R.RGL_QFB_CTL F.RGL_QFB_CTL_HIGH)) ∧
    Tab.get (fun _ => 0) (State.reset.sendFeedback 23 1).rgl.sent 23 = 1 ∧
    Tab.get (fun _ => 0) (State.reset.sendFeedback 23 32769).rgl.sent 23 = 32769 ∧
    hotStack.rglLive 17 = true ∧ hotStack.rglAvail 17 < hotStack.rglSum 17 3 ∧ hotStack.rglSum 17 0 ≤ hotStack.rglAvail 17 ∧
    (hotStack.setFld (R.STK_STATUS 17) F.STK_STATUS_STATE 3).rglLive 17 = false ∧
    F.RGL_CTL_CNT_CLR.isSet 0 = false ∧ F.RGL_CTL_CNT_CLR.isSet (BitVec.ofNat 64 (2 ^ 63)) = true ∧
    F.RGL_TDF_CTL_ARM.isSet (BitVec.ofNat 64 (2 ^ 64 - 1)) = true := by decide +kernel
end RegulationCommands

/-! What meets the hypotheses of `LinkCommands`. -/
namespace LinkCommands
/-- Port 31 in a state, with its lanes' training. -/
def port (st : Nat) (x : LaneState) : State := (State.reset.setFld (R.LNK_STATUS 31) F.LNK_STATUS_STATE st).setLane 31 x

/-- A TRAIN set: identifier, lane, NEAR_GOOD, width, group, flags. -/
def train (ident lane near w g flags : Nat) : List Byte :=
  let l := ([ident, lane, near, w, g, flags, 0, 0, 0, 0, 0, 0, 0, 0] : List Nat).map (BitVec.ofNat 8)
  l ++ [crc8 l]

theorem witness_LinkCommands :
    (∀ st ∈ List.range 11, ((port st LaneState.idle).written (R.LNK_CTL 31) (BitVec.ofNat 64 1)).linkState 31 = st) ∧
    (∀ x ∈ [(1, true, false, false), (0, false, false, false)],
      F.LNK_CTL_EN.isSet (BitVec.ofNat 64 x.1) = x.2.1 ∧ F.LNK_CTL_RETRAIN.isSet (BitVec.ofNat 64 x.1) = x.2.2.1 ∧
        F.LNK_CTL_CNT_CLR.isSet (BitVec.ofNat 64 x.1) = x.2.2.2) ∧
    (F.LNK_CTL_RETRAIN.isSet (BitVec.ofNat 64 5) = true ∧ F.LNK_CTL_EN.isSet (BitVec.ofNat 64 5) = true ∧
      F.LNK_CTL_CNT_CLR.isSet (BitVec.ofNat 64 5) = false ∧ F.LNK_CTL_CNT_CLR.isSet (BitVec.ofNat 64 257) = true ∧
      F.LNK_CTL_EN.isSet (BitVec.ofNat 64 257) = true ∧ F.LNK_CTL_RETRAIN.isSet (BitVec.ofNat 64 257) = false ∧
      (((port lkUP LaneState.idle).written (R.LNK_CTL 31) (BitVec.ofNat 64 257)).linkClear 31).linkState 31 = lkUP) ∧
    2 ≤ (bitsOf 8 (0x88#8).toNat).length ∧
    (port lkALIGN LaneState.idle).fastLanes 31 = 0 ∧
    ((set (port lkALIGN { LaneState.idle with locked := 128 }) [(R.LNK_SAVED 31, ⟨61, 60⟩, 2)]).fastLanes 31 ≠ 0 ∨
      (port lkALIGN { LaneState.idle with locked := 128 }).fastLanes 31 = 0) ∧
    (let s := port lkEQ_FAST { LaneState.idle with search := 255 }
     ((laneList.filter fun i => !bit (s.lane 31).search i).foldl (fun u i => u.judgeFast 31 i 9) s).lane 31 ≠ LaneState.idle) ∧
    (port lkEQ_SEARCH { LaneState.idle with step := 15 }).lane 31 = { LaneState.idle with step := 15 } ∧
    (trainGood (train 0x11 7 255 3 0 0) = true ∧ trainGood (train 0x10 7 0 0 0 1) = true ∧
      bit (trainSym (train 0x10 7 0 0 0 1) 6) 0 = true ∧ trainSym (train 0x10 7 0 0 0 0) 1 ≠ 0x11) ∧
    (let s := (set (port lkLANE_CHECK LaneState.idle) [(R.LNK_LANES 31, F.LNK_LANES_NEAR_GOOD, 0xF0),
       (R.LNK_LANES 31, F.LNK_LANES_FAR_GOOD, 0xF3), (R.LNK_CTL 31, F.LNK_CTL_WIDTH_MASK, 7)])
     widthChoice (s.fld (R.LNK_CTL 31) F.LNK_CTL_WIDTH_MASK) (s.usableLanes 31) = some (2, 4)) ∧
    widthChoice 4 0x7F = none ∧
    ({ LaneState.idle with width := 1, group := 6, matched := 7 } : LaneState).matches
      [(6, train 0x11 6 0 1 6 0), (7, train 0x11 7 0 1 6 0)] = true ∧
    (let s := (port lkUP LaneState.idle).setFld (R.LNK_STATUS 31) F.LNK_STATUS_LANES 0x80
     s.linkState 31 = lkUP ∧ bit (s.fld (R.LNK_STATUS 31) F.LNK_STATUS_LANES) 7 = true) := by decide +kernel
end LinkCommands

/-! What meets the hypotheses of `HuskCommands`. -/
namespace HuskCommands
/-- The module with ID 5 and port 31 up. -/
def pod : State := up 31 master

/-- The same, the port being a host port. -/
def host : State := pod.setFld (R.TGL_PORT_STATUS 31) F.TGL_PORT_STATUS_KIND pkHOST

/-- A request of module 63. -/
def req (t dest addr len opx : Nat) (payload : List Byte) : Husk :=
  { Husk.zero with
    typ := t, dest := dest, src := 63, tag := 4095, epoch := 15, cls := 7, len := len, hops := 1,
    rid := 2048 * 7 + 2047, addr := addr, ctx := 4095, opx := opx, payload := payload }

/-- n bytes of one value. -/
def bytes (n v : Nat) : List Byte := List.replicate n (BitVec.ofNat 8 v)

/-- A response of module 63 to tag 4095. -/
def answer (epoch : Nat) : Husk :=
  { Husk.zero with
    typ := Husk.RSP, dest := 5, src := 63, tag := 4095, epoch := epoch, len := 2, payload := bytes 2 9 }

/-- The tag is busy. -/
def asked : State := pod.setTag 63 4095 ⟨15, some ⟨31, .relay 1 2 3 4, 0, 0, 0, 0⟩⟩

/-- The husk is what its header and payload spell, and the checks pass; it is for this module. -/
def takes (s : State) (h : Husk) : Bool := decide (s.rxTakes 31 h.typ h.header h.payload (huskCrc h.header h.payload) h)
def here (s : State) (h : Husk) : Bool :=
  takes s h && decide ((s.huskIn 31 h.header h.payload).portKind 31 = pkPOD ∧ h.dest = (s.huskIn 31 h.header h.payload).ownId ∧
    (s.huskIn 31 h.header h.payload).tagReused 31 h = false)

/-- The module with a route to module 6. -/
def onward : State := set pod [(R.TGL_ROUTE 6, F.TGL_ROUTE_PRIMARY, 31), (R.TGL_ROUTE 6, F.TGL_ROUTE_P_VALID, 1)]

/-- The module in QUIESCED, and as host bridge. -/
def quiet : State := pod.setFld R.TOP_STATE F.TOP_STATE_STATE stQUIESCED
def bridged : State := set pod [(R.TGL_MEMBER 5, F.TGL_MEMBER_VALID, 1), (R.TGL_MEMBER 5, F.TGL_MEMBER_HOST_BRIDGE, 1)]

/-- A barrier's notification, a credit return and a snapshot trigger. -/
def barrier : Husk := req Husk.BAR 5 (bufferBase + 8) 16 1 (bytes 8 7 ++ bytes 8 0)
def credit : Husk := { Husk.zero with typ := Husk.CRD, freed := (65535, 1, 0) }
def snapped : Husk :=
  { Husk.zero with typ := Husk.SNAP, len := 16, payload := bytes 2 63 ++ [63#8] ++ bytes 5 0 ++ bytes 6 7 ++ bytes 2 0 }

/-- What arrives after the husk's count. -/
def got (s : State) (h : Husk) : State := s.huskIn 31 h.header h.payload

/-- A multicast write for modules 5 and 9 by group 255. -/
def multi (t : Nat) (body : List Byte) : Husk :=
  let l := Word.bytes 8 (2 ^ 5 + 2 ^ 9) ++ [255#8] ++ bytes 7 0 ++ body
  req t 0 bufferBase l.length 0 l

theorem witness_HuskCommands_checks :
    State.reset.linkState 31 ≠ lkUP ∧ pod.linkState 31 = lkUP ∧
    (let h := req Husk.RD 5 bufferBase 8 0 []
     Husk.parse h.header [] = h ∧ huskCrc h.header [] ≠ 0#32) ∧
    (let h := req Husk.RD 5 bufferBase 16385 0 []
     Husk.parse h.header [] = h ∧ lenGood h = false) ∧
    (let h := req Husk.RD 5 bufferBase 16384 3 []
     Husk.parse h.header [] = h ∧ lenGood h = true ∧ fieldsGood h.header h false = false) := by decide +kernel

theorem witness_HuskCommands_memory :
    (∀ h ∈ [req Husk.RD 5 bufferBase 64 2 [], req Husk.WR 5 bufferBase 2 0 (bytes 2 7),
        req Husk.AT 5 bufferBase 8 0xB (bytes 8 7), req Husk.ATR 5 bufferBase 16 2 (bytes 16 7)],
      here pod h ∧ (got pod h).badTarget h = false ∧ regionOf h.addr ≠ .host ∧ regionOf h.addr ≠ .register ∧
        (got pod h).topState = stREADY ∧
        here quiet h ∧ (got quiet h).badTarget h = false ∧ (got quiet h).topState ≠ stREADY) ∧
    (∀ h ∈ [req Husk.RD 5 (regBase + 8) 8 0 [], req Husk.WR 5 (regBase + 8) 8 0 (bytes 8 7)],
      here pod h ∧ (got pod h).badTarget h = false ∧ regionOf h.addr = .register) ∧
    (∀ h ∈ [req Husk.RD 5 hostBase 8 0 [], req Husk.WR 5 hostBase 8 0 (bytes 8 7)],
       here bridged h ∧ (got bridged h).badTarget h = false ∧ regionOf h.addr = .host) ∧
    (∀ h ∈ [req Husk.RD 5 (hostBase - 8) 8 0 [], req Husk.WR 5 (bufferBase - 8) 8 0 (bytes 8 7),
        req Husk.AT 5 (bufferBase - 8) 8 1 (bytes 8 7), req Husk.ATR 5 (bufferBase - 8) 4 1 (bytes 4 7),
        req Husk.BAR 5 (bufferBase + 1) 16 1 (bytes 8 7 ++ bytes 8 0)],
      here pod h ∧ (got pod h).badTarget h = true) ∧
    here pod barrier ∧ (got pod barrier).badTarget barrier = false := by decide +kernel

theorem witness_HuskCommands_forward :
    (∀ h ∈ [req Husk.RD 6 bufferBase 64 2 [], req Husk.WR 6 bufferBase 2 0 (bytes 2 7),
        req Husk.AT 6 bufferBase 8 0xB (bytes 8 7), req Husk.ATR 6 bufferBase 16 2 (bytes 16 7),
        req Husk.BAR 6 bufferBase 16 1 (bytes 8 7 ++ bytes 8 0), { answer 15 with dest := 6, hops := 62 }],
      takes onward h ∧ (got onward h).portKind 31 = pkPOD ∧ h.dest ≠ (got onward h).ownId ∧ h.hops + 1 ≤ 63 ∧
        (got onward h).route 6 = some 31 ∧ takes onward { h with hops := 63 }) ∧
    (∀ h ∈ [multi Husk.MCW (bytes 1 7), multi Husk.MBAR (bytes 2 7 ++ bytes 14 0)],
      takes pod h ∧ (got pod h).portKind 31 = pkPOD ∧ h.hops + 1 ≤ 63) ∧
    (here asked (answer 15) ∧ here asked (answer 14) ∧ here pod (answer 15) ∧ ((got asked (answer 15)).tag 63 4095).epoch = 15 ∧
      (got asked (answer 15)).tag 63 4095 = asked.tag 63 4095 ∧ (got asked (answer 14)).tag 63 4095 = asked.tag 63 4095 ∧
      ((got pod (answer 15)).tag 63 4095).busy = none) ∧
    takes pod credit ∧ takes pod snapped ∧ (got pod snapped).portKind 31 = pkPOD ∧
    (∀ h ∈ [req Husk.RD 6 bufferBase 64 2 [], req Husk.WR 6 bufferBase 2 0 (bytes 2 7),
        req Husk.AT 6 bufferBase 8 0xB (bytes 8 7), req Husk.ATR 6 bufferBase 16 2 (bytes 16 7)],
      takes host h ∧ (got host h).portKind 31 = pkHOST ∧ h.dest ≠ (got host h).ownId ∧ regionOf h.addr ≠ .reserved ∧
        runInside h.addr (huskRun h) = true) := by decide +kernel

theorem witness_HuskCommands_sending :
    (let i := TxItem.husk (req Husk.RD 6 bufferBase 64 2 [])
     let s := pod.setPort 31 { pod.port 31 with txq := [i], fork := [answer 15] }
     (s.port 31).txq = [i] ∧ (s.port 31).free i.cost.1 < i.cost.2 ∧ (s.port 31).fork[0]? = some (answer 15) ∧
       (let t := pod.setPort 31 { pod.port 31 with txq := [i], granted := (768, 224, 32) }
        t.linkState 31 = lkUP ∧ (t.port 31).txq = [i] ∧ i.cost.2 ≤ (t.port 31).free i.cost.1)) ∧
    ((pod.port 31).opened = false ∧ 0 < ({ pod.port 31 with sinceCrd := 1 } : PortState).sinceCrd) ∧
    (asked.tag 63 4095).busy = some ⟨31, .relay 1 2 3 4, 0, 0, 0, 0⟩ ∧
    (let s := pod.setFld (R.TGL_ROUTE 63) F.TGL_ROUTE_IN_USE 3
     s.routeIsHeld 63 = true ∧ s.sentTo 63 = false) := by decide +kernel
end HuskCommands

/-! What meets the hypotheses of `PodCommands`. -/
namespace PodCommands
/-- The master with port 31 up, a member with port 31 up, a candidate, and a module with port 31 foreign. -/
def chief : State := (up 31 master).setFld (R.TGL_MEMBER 6) F.TGL_MEMBER_VALID 1
def other : State := up 31 member
def candidate : State := up 31 ((at' stSPROUT).setFld R.TGL_POD_STATUS F.TGL_POD_STATUS_STATE psELECTING)
def foreign : State := chief.setFld (R.TGL_PORT_STATUS 31) F.TGL_PORT_STATUS_KIND pkFOREIGN

/-- A message to the far end of the link, and one to a module. -/
def near : CtlHead := ⟨0, 6, 1, 0, true⟩
def toward (dest : BitVec 6) (hops : Nat) : CtlHead := ⟨dest, 6, 1, hops, false⟩

/-- HELLO of a module that knows the master with a serial number. -/
def hail (serial : BitVec 48) (role : BitVec 2) (elected ready : Bool) : HelloBody := ⟨7, 0, serial, role, elected, ready, 64⟩
/-- JOIN of a module, and its ASSIGN. -/
def joins : JoinBody := ⟨7, 0, some 9, true, 3⟩
def assigns (serial : BitVec 48) : AssignBody := ⟨serial, 9, 5, 0⟩

/-- The messages of the table. -/
def bodies : List CtlBody := [.join joins, .assign (assigns 7), .members 3 [⟨6, 7, false⟩], .routes 3 [], .groups 3 [],
  .portDown 31 63, .portUp 0 63, .leave 6, .stretch 15, .beatQuery, .beatReply 5, .ack 4 3]

/-- The states below. -/
def routed : State := set chief [(R.TGL_ROUTE 7, F.TGL_ROUTE_PRIMARY, 31), (R.TGL_ROUTE 7, F.TGL_ROUTE_P_VALID, 1)]
def sprouted : State :=
  set chief [(R.TOP_STATE, F.TOP_STATE_STATE, stSPROUT), (R.TGL_MASTER_SERIAL, F.TGL_MASTER_SERIAL_SERIAL, 10)]
def joiner : State := candidate.setFld R.TGL_POD_STATUS F.TGL_POD_STATUS_STATE psJOINING
def sponsor : State := { other with pod := { other.pod with sponsored := [(7, 31)] } }
def ahead : State :=
  set other [(R.TGL_POD_STATUS, F.TGL_POD_STATUS_VERSION, 4), (R.TGL_POD_STATUS, F.TGL_POD_STATUS_MASTER_ID, 6)]

/-- What a state is once a message has come in by port 31 without audit mode: it is counted and frees its pips. -/
def inn (s : State) (b : CtlBody) : State :=
  (s.bump (R.TGL_PORT_CNT 31) F.TGL_PORT_CNT_HUSKS_RX).freePips 31 2 (ctlPips b)

theorem ctlIn_inn {s : State} {h : CtlHead} {b : CtlBody}
    (hs : (s.bump (R.TGL_PORT_CNT 31) F.TGL_PORT_CNT_HUSKS_RX).flag (R.TGL_PORT_CTL 31) F.TGL_PORT_CTL_AUDIT = false) :
    s.ctlIn 31 h b = inn s b := by
  have hs' : (inn s b).flag (R.TGL_PORT_CTL 31) F.TGL_PORT_CTL_AUDIT = false := hs
  have e : ∀ x, (inn s b).auditHusk 31 5 x = inn s b := fun x => by
    unfold State.auditHusk State.audit; rw [hs']; rfl
  unfold State.ctlIn
  dsimp only
  rw [show ((s.bump (R.TGL_PORT_CNT 31) F.TGL_PORT_CNT_HUSKS_RX).freePips 31 2 (ctlPips b)) = inn s b from rfl, e, ite_self]

theorem unaudited : ∀ s ∈ [chief, other, candidate, foreign, routed, sprouted, joiner, sponsor, ahead],
    (s.bump (R.TGL_PORT_CNT 31) F.TGL_PORT_CNT_HUSKS_RX).flag (R.TGL_PORT_CTL 31) F.TGL_PORT_CTL_AUDIT = false := by
  decide +kernel

theorem witness_PodCommands_in : ∀ s ∈ [chief, other, candidate, foreign, routed, sprouted, joiner, sponsor, ahead],
    ∀ h b, s.ctlIn 31 h b = inn s b := fun s hs _ _ => ctlIn_inn (unaudited s hs)

/-- The core that serves control messages runs. -/
def serves (s : State) : Bool := (s.core s.ctlCore).state == csRUNNING

/-- The message is for this module or for the link, on a pod port in UP, and is served at once. -/
def takes (s : State) (h : CtlHead) (b : CtlBody) : Bool :=
  serves s && s.linkState 31 == lkUP && s.portKind 31 == pkPOD && (inn s b).portKind 31 == pkPOD &&
    (h.link || h.dest.toNat == (inn s b).ownId)

/-- The module's port after a HELLO. -/
def told (s : State) (b : HelloBody) : State :=
  let w := inn s (.hello b)
  w.setPort 31 { w.port 31 with far := some (farEnd b) }

theorem witness_PodCommands_ports :
    State.reset.linkState 31 ≠ lkUP ∧
    (foreign.linkState 31 = lkUP ∧ foreign.portKind 31 = pkFOREIGN ∧
      ∀ b ∈ bodies, (inn foreign b).portKind 31 = pkFOREIGN) ∧
    (∀ h ∈ [near, toward 5 63], ∀ b ∈ bodies, takes chief h b = true) ∧
    (∀ b ∈ bodies, ((inn chief b).portKind 31 = pkPOD ∧ (toward 7 63).link = false ∧
      (toward 7 63).dest.toNat ≠ chief.ownId ∧ (toward 7 63).dest.toNat ≠ (inn chief b).ownId ∧ 63 < (toward 7 63).hops + 1)) ∧
    ((inn routed .beatQuery).route 7 = some 31 ∧ (toward 7 62).hops + 1 ≤ 63) ∧
    (let s := chief.setCoreState chief.ctlCore csRESTARTING
     serves s = false ∧ s.linkState 31 = lkUP ∧ s.portKind 31 = pkPOD ∧ near.link = true ∧ s.ownId = 5) ∧
    (∀ s ∈ [chief, other, sprouted, candidate], serves s = true ∧ s.linkState 31 = lkUP ∧ s.portKind 31 = pkPOD) := by decide +kernel

/-- A better pod absorbs the module outside READY; a candidate asks to join. -/
def absorbs (w : State) : Bool :=
  let mine := w.bestKnown.getD (2, w.fld R.TGL_MASTER_SERIAL F.TGL_MASTER_SERIAL_SERIAL, true)
  w.topState != stREADY && better (1, 9) (mine.1, mine.2.1) && 9 != w.fld R.TGL_MASTER_SERIAL F.TGL_MASTER_SERIAL_SERIAL
def seeks (w : State) : Bool := w.podState != psMEMBER && w.podState != psMASTER && !w.hasId && w.podState != psJOINING

theorem witness_PodCommands_hello :
    (told chief (hail 9 0 false false)).podState = psMASTER ∧
    (told other (hail 0 0 true false)).fld R.TGL_MASTER_SERIAL F.TGL_MASTER_SERIAL_SERIAL = 0 ∧
    (told chief (hail 9 0 true false)).topState = stREADY ∧
    absorbs (told sprouted (hail 9 1 true false)) = true ∧ seeks (told candidate (hail 9 1 true false)) = true ∧
    ((told candidate (hail 9 1 false false)).bestKnown =
        some (candidate.role, candidate.serial, false) ∧ better (1, 9) (candidate.role, candidate.serial) = true ∧
        better (2, 9) (candidate.role, candidate.serial) = false) ∧
    (candidate.role ≠ 2 ∧ candidate.podState = psELECTING ∧ candidate.pod.best = none) ∧
    (member.podState ≠ psELECTING ∧ member.podState ≠ psALONE) := by decide +kernel

theorem witness_PodCommands_tables :
    (inn chief (.join joins)).isMaster = true ∧
    (takes other near (.join joins) = true ∧ (inn other (.join joins)).isMaster = false ∧
      (inn other (.join joins)).podState = psMEMBER) ∧
    (let s := joiner
     let b := assigns (BitVec.ofNat 48 candidate.serial)
     takes s near (.assign b) = true ∧ b.serial.toNat = (inn s (.assign b)).serial ∧
       (inn s (.assign b)).podState = psJOINING) ∧
    (let s := sponsor
     takes s (toward 6 0) (.assign (assigns 7)) = true ∧
       ((inn s (.assign (assigns 7))).pod.sponsored.find? fun e => e.1 == 7) = some (7, 31)) ∧
    (∀ b ∈ bodies, ((inn other b).isMaster = false ∧ (inn other b).hasId = true ∧
      (inn chief b).isMaster = true ∧ (inn other b).podFld F.TGL_POD_STATUS_VERSION ≤ 3 ∧
      near.src.toNat ≠ (inn other b).masterId)) ∧
    (let s := ahead
     ∀ b ∈ bodies, 3 < (inn s b).podFld F.TGL_POD_STATUS_VERSION ∧
       near.src.toNat = (inn s b).masterId) := by decide +kernel

theorem witness_PodCommands_pods :
    ((inn chief (.leave 6)).members.contains 6 = true ∧ 6 ≠ (inn chief (.leave 6)).ownId ∧
      (inn chief (.stretch 15)).members.contains near.src.toNat = true) ∧
    ((inn other (.leave 5)).podState = psMEMBER ∧ 5 = (inn other (.leave 5)).masterId) ∧
    (chief.isMaster = true ∧ other.isMaster = false) ∧
    (let s := { chief with pod := { chief.pod with unacked := [(6, 4, 3)] } }
     (s.pod.unacked.any fun e => e.1 == 6) = true ∧ s.members.contains 6 = true ∧ s.isMaster = true ∧
       (s.pod.unacked.any fun e => e.1 == 63) = false) ∧
    (F.TGL_POD_CTL_LEAVE.isSet 1#64 = true ∧ (candidate.written R.TGL_POD_CTL 1#64).topState ≠ stREADY ∧
      (chief.written R.TGL_POD_CTL 1#64).topState = stREADY) ∧
    (F.TGL_PORT_CTL_CNT_CLR.isSet 4#64 = true ∧ F.TGL_PORT_CTL_LOG_CLR.isSet 4#64 = false ∧
      F.TGL_PORT_CTL_CNT_CLR.isSet 8#64 = false ∧ F.TGL_PORT_CTL_LOG_CLR.isSet 8#64 = true) := by decide +kernel
end PodCommands

/-! What meets the hypotheses of `SiteRequests`. -/
namespace SiteRequests
/-- Command words of R414 with their CHK: reads of the shared buffer, a register and another module, a fence, a write, an
atomic, a compare and swap that returns, and a token wait. -/
def rdWord : BitVec 128 := 0x1100000000000bc0000000000000ffc1#128
def regWord : BitVec 128 := 0xbe00000000000000041#128
def farWord : BitVec 128 := 0x1000000000000dc00000000000000041#128
def fenceWord : BitVec 128 := 0x3000000000000000000000001000045#128
def wrWord : BitVec 128 := 0x1000000000000bc00000000000000042#128
def atWord : BitVec 128 := 0x1100000000000bc00000000006c00043#128
def casWord : BitVec 128 := 0x1200000000000bc00000000000800044#128
def waitWord : BitVec 128 := 0x9000000000000000007ffff00000046#128

/-- Module 5 with a top die out of reset at site 7, its port 63 enabled. -/
def site : State :=
  set master [(R.TDI_SITE_STATUS 7, F.TDI_SITE_STATUS_KIND, 1), (R.TDI_SITE_STATUS 7, F.TDI_SITE_STATUS_RESET, 0),
    (tdCfg (64 * 7 + 63), F.TDI_PORT_CFG_EN, 1)]

/-- The same, the port not enabled. -/
def shut : State := site.setFld (tdCfg (64 * 7 + 63)) F.TDI_PORT_CFG_EN 0

/-- The port takes a word; the port with a command in it. -/
def accepts (s : State) (w : BitVec 128) : Bool :=
  s.siteOpen 7 && !s.siteFenced 511 && decide (s.sitePort 511 = ⟨[], []⟩) && Word.slice w.toNat 127 120 == tdChk w
def along (s : State) (c : SiteCommand) : State := s.setSitePort 511 ⟨[c], []⟩
def check (s : State) (c : SiteCommand) : Nat := (along s c).tdCheck 511 c
def bare (w : BitVec 128) : SiteCommand := ⟨w, [], false, false⟩

/-- Addresses of this module and of module 6. -/
def inBuffer : Nat := 5 * 2 ^ 41 + bufferBase
def inRegs : Nat := 5 * 2 ^ 41 + regBase
def away : Nat := 6 * 2 ^ 41 + bufferBase

theorem witness_SiteRequests_accepts :
    ([rdWord, regWord, farWord, fenceWord, wrWord, atWord, casWord, waitWord].all fun w =>
      accepts site w && check site (bare w) == scDONE && accepts shut w && check shut (bare w) != scDONE) = true ∧
    [rdWord, regWord, farWord, fenceWord, wrWord, atWord, casWord, waitWord].map tdOp =
      [tdRD, tdRD, tdRD, tdFENCE, tdWR, tdAT, tdATR, tdWAITTOK] ∧
    (tdAddr rdWord / 2 ^ 41 = (along site (bare 0)).ownId ∧ regionOf (tdAddr rdWord % 2 ^ 41) = .buffer ∧
      tdAddr regWord / 2 ^ 41 = (along site (bare 0)).ownId ∧ regionOf (tdAddr regWord % 2 ^ 41) = .register ∧
      tdAddr farWord / 2 ^ 41 ≠ (along site (bare 0)).ownId) := by decide +kernel

theorem witness_SiteRequests_waits :
    ((along site (bare fenceWord)).siteFenceKept 511 (tdAop fenceWord) = true ∧
      (let r : SiteRequest := ⟨0, tdWR, false, 1, scDONE, []⟩
       (site.setSitePort 511 ⟨[bare fenceWord], [r]⟩).siteFenceKept 511 (tdAop fenceWord) = false)) ∧
    (let u := along site ⟨waitWord, [], false, true⟩
     u.siteToken waitWord = false ∧ (u.setTok 7 4095 15 1).siteToken waitWord = true) := by decide +kernel

theorem witness_SiteRequests_flits :
    ([wrWord, atWord, casWord].all fun w =>
      let f : List (Option Byte) := List.replicate 64 (some 0#8)
      (along site (bare w)).sitePort 511 == ⟨[bare w], []⟩ && !(along site (bare w)).siteFenced 511 &&
        (along site (bare w)).siteOpen 7 && tdFlits w == 1 && (bare w).held == 0 && flitParity 0 == 0#8 &&
        check site ⟨w, [f], false, false⟩ == scDONE && check shut ⟨w, [f], false, false⟩ != scDONE) = true ∧
    (tdAddr wrWord / 2 ^ 41 = (along site (bare 0)).ownId ∧ regionOf (tdAddr wrWord % 2 ^ 41) = .buffer) := by
  decide +kernel
end SiteRequests

/-! What meets the hypotheses of `SiteCommands`. -/
namespace SiteCommands
/-- A command word of R414 with its CHK. -/
def word (op tag : Nat) : BitVec 128 :=
  let w := BitVec.ofNat 128 (op + tag * 2 ^ 6)
  BitVec.ofNat 128 (w.toNat + tdChk w * 2 ^ 120)

/-- Site 7 holds a top die out of reset. -/
def site : State :=
  set (at' stREADY) [(R.TDI_SITE_STATUS 7, F.TDI_SITE_STATUS_KIND, 1), (R.TDI_SITE_STATUS 7, F.TDI_SITE_STATUS_RESET, 0)]

theorem witness_SiteCommands :
    (∀ op ∈ [tdRD, tdWR, tdAT, tdATR, tdFENCE, tdWAITTOK],
      tdOp (word op 1023) = op ∧ site.siteOpen (7 : Fin 8) = true ∧ site.siteFenced (64 * 7 + 63) = false ∧
      (site.sitePort (64 * 7 + 63)).queue.length < 64 ∧ Word.slice (word op 1023).toNat 127 120 = tdChk (word op 1023) ∧
      (site.sitePort (64 * 7 + 63)).tagBusy (tdTag (word op 1023)) = false ∧ (site.sitePort (64 * 7 + 63)).waits < 16) ∧
    (let s := site.setSitePort (64 * 7 + 63) ⟨[⟨word tdWR 0, [], false, false⟩], []⟩
     s.siteOpen (7 : Fin 8) = true ∧ s.siteFenced (64 * 7 + 63) = false ∧
     ((s.sitePort (64 * 7 + 63)).queue.map SiteCommand.held).sum < 256 ∧
     (s.sitePort (64 * 7 + 63)).queue.any SiteCommand.lacking = true) ∧
    (let c : SiteCommand := ⟨word tdWAITTOK 1023, [], false, true⟩
     let s := site.setSitePort (64 * 7 + 63) ⟨[c], []⟩
     ((s.sitePort (64 * 7 + 63)).queue.find? fun c => tdTag c.word == (1023 : Fin 1024).val && c.waiting) = some c) ∧
    (let s := set site [(tdStatus (64 * 7 + 63), F.TDI_PORT_STATUS_FENCED, 1)]
     (∃ v, F.TDI_PORT_CFG_UNFENCE.isSet v = true) ∧ s.siteFenced (64 * 7 + 63) = true ∧
     s.fld (tdStatus (64 * 7 + 63)) F.TDI_PORT_STATUS_OUTSTANDING = 0) ∧
    (F.TDI_CTL_CNT_CLR.isSet 1 = true) ∧
    (F.TDI_PWR_GRANT_ARM.isSet 0x4000000000000000 = true ∧ site.siteKind (7 : Fin 8) ≠ 2 ∧
      F.TDI_PWR_GRANT_NEXT_W.of 0x4000000000000000 ≤ site.fld (R.TDI_PWR_LIMIT 7) F.TDI_PWR_LIMIT_MAX_W) := by
  refine ⟨?_, ?_, ?_, ⟨⟨0x2, ?_⟩, ?_⟩, ?_⟩ <;> decide +kernel
end SiteCommands

/-! What meets the hypotheses of `InterruptCommands`. -/
namespace InterruptCommands
theorem witness_InterruptCommands :
    (32 ≤ F.EIC_DOORBELL_SRC.of 831 ∧ F.EIC_DOORBELL_SRC.of 831 < 832 ∧ F.EIC_DOORBELL_DEASSERT.isSet 831 = false) ∧
    (let v : Word := BitVec.ofNat 64 (2 ^ F.EIC_DOORBELL_DEASSERT.lo + 743)
     32 ≤ F.EIC_DOORBELL_SRC.of v ∧ F.EIC_DOORBELL_SRC.of v < 832 ∧ F.EIC_DOORBELL_DEASSERT.isSet v = true ∧
     State.sourceIsLevel (F.EIC_DOORBELL_SRC.of v) = true) ∧
    (F.EIC_C_DOORBELL_SRC.of 31 < 32 ∧ F.EIC_C_DOORBELL_DEASSERT.isSet 31 = false) ∧
    (let s := State.reset.setOwnActive 10 (2 ^ 31)
     (s.written (R.EIC_C_EOI 10) 31).activeAt (10 : Fin 11) (F.EIC_C_EOI_SRC.of 31) = true) ∧
    (State.reset.core (0 : Fin 11)).state = csRUNNING ∧
    (set State.reset [(R.EIC_HV_STATUS 4095, F.EIC_HV_STATUS_COUNT, 1)]).fld (R.EIC_HV_STATUS (4095 : Fin 4096))
      F.EIC_HV_STATUS_COUNT ≠ 0 ∧
    ((State.reset.setVec 4095 { VectorState.idle with failed := true }).vec (4095 : Fin 4096)).failed = true ∧
    F.EIC_CTL_CNT_CLR.isSet (BitVec.ofNat 64 (2 ^ F.EIC_CTL_CNT_CLR.lo)) = true := by decide +kernel
end InterruptCommands

/-! What meets the hypotheses of `MailboxCommands`. -/
namespace MailboxCommands
/-- A full image runs, and mailbox i is BUSY with a request whose payload starts with these bytes. -/
def asked (i op st : Nat) (payload : List Byte) : State :=
  let s := set (at' st) [(R.MBX_STATUS i, F.MBX_STATUS_STATE, mbBUSY)]
  let s : State := { s with fw := { s.fw with running := some ⟨1, 1, 0, 9, 0, []⟩, unified := true, staged := some ⟨2, 1, 0, 9, 0, []⟩ } }
  (s.mailStore i 0 (Word.bytes 8 (op * 2 ^ 32) ++ Word.bytes 8 (payload.length * 2 ^ 32))).mailStore i mbPayload payload

/-- What the clauses of MailboxCommands ask of a served request. -/
def isServed (s : State) (i op : Nat) : Bool :=
  decide (s.mbState i = mbBUSY) && decide (s.mbOpcode i = op) && decide ((s.core (s.serves op)).state = csRUNNING) &&
    decide (s.mbRefusal i = none)

theorem witness_MailboxCommands :
    (let v : Word := BitVec.ofNat 64 (2 ^ F.MBX_CTL_GO.lo)
     let s := set (asked 16 opFW_LOAD stREADY []) [(R.MBX_STATUS 16, F.MBX_STATUS_STATE, mbIDLE)]
     let u := s.written (R.MBX_CTL 16) v
     F.MBX_CTL_GO.isSet v = true ∧ F.MBX_CTL_ACK.isSet v = false ∧ u.mbState 16 ≠ mbBUSY ∧
     u.flag (R.MBX_STATUS 16) F.MBX_STATUS_LAST_VALID = false ∧
     ((u.setMbState 16 mbBUSY).raise (800 + 16)).mbRefusal 16 = none) ∧
    (let v : Word := BitVec.ofNat 64 (2 ^ F.MBX_CTL_ACK.lo)
     let s := set State.reset [(R.MBX_STATUS 16, F.MBX_STATUS_STATE, mbDONE)]
     F.MBX_CTL_GO.isSet v = false ∧ F.MBX_CTL_ACK.isSet v = true ∧ (s.written (R.MBX_CTL 16) v).mbState 16 = mbDONE ∧
     s.fw.quiesce = none) ∧
    (∀ op ∈ [opVERSION, opATTEST, opID_KEY, opFW_STATUS, opDEFECTS],
      isServed (asked 15 op stREADY []) 15 op = true ∧ fieldAt ((asked 15 op stREADY []).mbBytes 15 72) 64 1 = 0) ∧
    (let s := asked 15 opHELLO stAWAIT_FULL []
     isServed s 15 opHELLO = true ∧ s.fw.session = none ∧ s.fw.running.isSome = true ∧
     s.supports (s.mbMajor 15) = true) ∧
    (let s := asked 15 opHELLO stAWAIT_FULL []
     let s : State := { s with fw := { s.fw with running := none } }
     isServed s 15 opHELLO = true ∧ s.fw.session = none ∧ s.fw.running = none) ∧
    (let s := asked 15 opFW_ACTIVATE stREADY []
     isServed s 15 opFW_ACTIVATE = true ∧ s.fw.act ≠ acACTIVATING ∧ s.fw.staged.isSome = true ∧
     bit (fieldAt (s.mbBytes 15 8) 0 8) 63 = false) ∧
    (let s := asked 15 opQUIESCE stREADY (Word.bytes 8 (60000 * 2 ^ 32))
     isServed s 15 opQUIESCE = true ∧ s.fw.quiesce = none ∧ fieldAt (s.mbBytes 15 8) 0 8 / 2 ^ 32 = 60000) := by
  decide +kernel

theorem witness_MailboxCommands_fwLoad :
    (let s := (asked 16 opFW_LOAD stREADY []).mailStore 16 16 (Word.bytes 8 bufferBase)
     isServed s 16 opFW_LOAD = true ∧ s.fw.bulk = none ∧ s.fw.act = acNONE ∧ s.bulkAllowed (s.mbBulk 16) = true ∧
     s.inHouse (s.mbBulk 16) = true) ∧
    (let s := (asked 16 opFW_LOAD stREADY []).mailStore 16 8 (Word.bytes 8 (2 ^ 32) ++ Word.bytes 8 (2 ^ 41 + bufferBase))
     isServed s 16 opFW_LOAD = true ∧ s.fw.bulk = none ∧ s.fw.act = acNONE ∧ s.bulkAllowed (s.mbBulk 16) = true ∧
     s.inHouse (s.mbBulk 16) = false ∧ 0 < s.mbLen 16) := by decide +kernel

theorem witness_MailboxCommands_cores :
    (let s : State := { State.reset with fw := { State.reset.fw with quiesce := some (3, 0, false) } }
     s.fw.quiesce = some (3, 0, false) ∧ s.liveQueues.all s.quietQueue = true ∧ s.tagsFree = true) ∧
    ({ State.reset with fw := { State.reset.fw with quiesce := some (3, 0, true) } } : State).fw.quiesce = some (3, 0, true) ∧
    (let s : State := { State.reset with fw := { State.reset.fw with act := acARMED } }
     s.fw.act = acARMED ∧ s.fw.actAt ≤ s.beatNow ∧ s.emergency = false ∧
     (set s [(R.PWR_STATUS, F.PWR_STATUS_EMERGENCY, 1)]).emergency = true) ∧
    ({ State.reset with fw := { State.reset.fw with act := acPENDING } } : State).fw.act = acPENDING ∧
    ((State.reset.core (0 : Fin 11)).state = csRUNNING ∧ State.reset.emergency = false) ∧
    (((State.reset.setCoreState 10 csRESTARTING).core (10 : Fin 11)).state = csRESTARTING ∧
      (State.reset.setCoreState 10 csRESTARTING).fw.act ≠ acACTIVATING) := by decide +kernel
end MailboxCommands

/-! What meets the hypotheses of `SupplyCommands`. -/
namespace SupplyCommands
theorem witness_SupplyCommands :
    (let s := State.reset.setFld R.PWR_STATUS F.PWR_STATUS_STAGES_OK 255
     bit (s.fld R.PWR_STATUS F.PWR_STATUS_STAGES_OK) (7 : Fin 8) = true) ∧
    (at' stTRAINING).topState ∈ [stGERM, stSPROUT, stTRAINING] ∧
    (State.reset.flag (R.HKP_CH_CFG 7 0) F.HKP_CH_CFG_EN = true ∧
      State.reset.fld (R.HKP_CH_CFG 7 0) F.HKP_CH_CFG_KIND ≠ 0 ∧ State.reset.fld (R.HKP_CH_CFG 7 0) F.HKP_CH_CFG_KIND ≠ 3) ∧
    (let s := State.reset.setCoreState 1 csRUNNING
     s.budget.flag R.PWR_BUDGET F.PWR_BUDGET_MANUAL = false ∧ (s.budget.core s.budget.pwrCore).state = csRUNNING) ∧
    State.reset.limitPresent lcUV = false ∧ State.reset.limitPresent lcOC = false ∧
    (let s := (State.reset.setFld (R.HKP_CH_VAL 7 47) F.HKP_CH_VAL_OVER_THR 1).setFld (R.HKP_CH_CFG 7 47)
       F.HKP_CH_CFG_THR 80
     s.flag (R.HKP_CH_VAL 7 47) F.HKP_CH_VAL_OVER_THR = true ∧
     asSigned 16 (s.fld (R.HKP_CH_VAL 7 47) F.HKP_CH_VAL_VALUE) ≤
       asSigned 16 (s.fld (R.HKP_CH_CFG 7 47) F.HKP_CH_CFG_THR) - 80) ∧
    (let s := State.reset.setFld R.PWR_STATUS F.PWR_STATUS_ACTING 1
     s.acting = true ∧ s.fld R.PWR_LIM_STATUS F.PWR_LIM_STATUS_PRESENT = 0) ∧
    (let s := State.reset.setFld R.PWR_STATUS F.PWR_STATUS_EMERGENCY 1
     F.PWR_EMERG_CLEAR.isSet 0x8000000000000000 = true ∧ s.emergency = true ∧ s.acting = false) ∧
    (State.reset.power.lost = false ∧ State.reset.power.on = true ∧ State.reset.power.locked = false) ∧
    (let s : State := { State.reset with power := { State.reset.power with lost := true } }
     s.power.locked = false ∧ s.power.on = true ∧ s.power.lost = true) ∧
    (let s : State := { State.reset with power := { State.reset.power with on := false } }
     s.power.locked = false ∧ s.power.on = false) ∧
    State.reset.flag R.PWR_STATUS F.PWR_STATUS_HOLDUP_READY ≠ true := by decide +kernel
end SupplyCommands

/-! What meets the hypotheses of `ArchiveCommands`. -/
namespace ArchiveCommands
theorem witness_ArchiveCommands :
    (F.SNP_ARM_ARM.isSet (BitVec.ofNat 64 (2 ^ F.SNP_ARM_ARM.lo)) = true ∧
      F.SNP_ARM_CANCEL.isSet (BitVec.ofNat 64 (2 ^ F.SNP_ARM_ARM.lo)) = false) ∧
    (F.SNP_ARM_CANCEL.isSet (BitVec.ofNat 64 (2 ^ F.SNP_ARM_CANCEL.lo)) = true ∧
      F.SNP_ARM_ARM.isSet (BitVec.ofNat 64 (2 ^ F.SNP_ARM_CANCEL.lo)) = false) ∧
    F.SNP_TRIG_GO.isSet (BitVec.ofNat 64 (2 ^ F.SNP_TRIG_GO.lo)) = true ∧
    (set State.reset [(R.SNP_CTL, F.SNP_CTL_PIN_EN, 1)]).flag R.SNP_CTL F.SNP_CTL_PIN_EN = true ∧
    (F.SNP_CTL_RELEASE.isSet (BitVec.ofNat 64 (2 ^ F.SNP_CTL_RELEASE.lo)) = true ∧
      (set State.reset [(R.SNP_STATUS, F.SNP_STATUS_STATE, snHELD)]).snapState = snHELD ∧
      (set State.reset [(R.SNP_STATUS, F.SNP_STATUS_STATE, snDUMPING)]).snapState = snDUMPING ∧
      F.SNP_DUMP_CTL_GO.isSet (BitVec.ofNat 64 (2 ^ F.SNP_DUMP_CTL_GO.lo)) = true) ∧
    ({ State.reset with snap := { State.reset.snap with dump := some (9, 8, scDONE, 0) } } : State).snap.dump =
      some (9, 8, scDONE, 0) ∧
    (set State.reset [(R.PWR_STATUS, F.PWR_STATUS_FLASH_WR_OK, 1)]).flashOk = true ∧
    (F.JRN_DUMP_CTL_GO.isSet (BitVec.ofNat 64 (2 ^ F.JRN_DUMP_CTL_GO.lo)) = true ∧
      State.reset.flag R.JRN_DUMP_CNT F.JRN_DUMP_CNT_BUSY = false) ∧
    ({ State.reset with snap := { State.reset.snap with journalDump := some (9, scDONE, 0) } } : State).snap.journalDump =
      some (9, scDONE, 0) ∧
    (State.reset.setCoreState 1 csRUNNING).pwrRestarts = false := by decide +kernel
end ArchiveCommands

/-! What meets the hypotheses of `SidebandCommands`. -/
namespace SidebandCommands
theorem witness_SidebandCommands :
    (let s : State := { State.reset with pins := { State.reset.pins with refclk := false } }
     s.pins.refclk = false ∧ s.power.on = true ∧ s.topState = stGERM) ∧ (at' stREADY).topState ≠ stGERM ∧
    State.reset.power.on = true ∧
    (let l : List Byte := [2, 8, 0, 0, 0, 1, 2, 3, 4, 5, 6, 7, 8]
     l.length = 13 ∧ fieldAt l 0 1 = 2 ∧ i3cOffset l = some 8) ∧
    (let l : List Byte := [1, 0xF8, 0xFF, 0xFF, 0x0F]
     l.length = 5 ∧ fieldAt l 0 1 = 1 ∧ i3cOffset l = some 0xFFFFFF8) ∧
    (let s : State := { State.reset with pins := { State.reset.pins with reply := some (scDONE, 5) } }
     s.power.on = true ∧ s.pins.reply = some (scDONE, 5)) ∧
    State.reset.pins.dynamic = none ∧ (0x28#7).toNat = 0x28 + State.reset.pins.straps.toNat ∧
    State.reset.pins.bscan = false ∧
    ({ State.reset with pins := { State.reset.pins with bscan := true } } : State).pins.bscan = true := by decide +kernel
end SidebandCommands

end Sys2Proof.Tests
end

section
/-!
What a register write stores. A write stores field by field; one field's store settles the bits of that field and leaves
every other bit alone, and no two fields of a register of the maps share a bit, so the fields do not disturb each other.
-/
namespace Sys2Proof

/-- The field lies in the word. -/
def FieldDef.inWord (f : FieldDef) : Bool := Nat.ble f.lo f.hi && Nat.blt f.hi 64

/-- Two fields share no bit. -/
def FieldDef.apart (f g : FieldDef) : Bool := Nat.blt g.hi f.lo || Nat.blt f.hi g.lo

/-- Bit `i` is none of the field's. -/
def FieldDef.misses (f : FieldDef) (i : Nat) : Prop := i < f.lo ∨ f.hi < i

/-- The value of a field that holds `o` after `n` is written to it (R7, R10). -/
def FieldDef.stores (f : FieldDef) (o n : Nat) : Nat :=
  match f.acc with
  | .rw => if Reg.reservedValue f.rsv n then o else n
  | .ro | .wo => o
  | .w1s => o ||| n
  | .w1c => o &&& (o ^^^ n)

theorem FieldDef.inWord_iff (f : FieldDef) : f.inWord = true ↔ f.lo ≤ f.hi ∧ f.hi < 64 := by
  simp [FieldDef.inWord]

theorem FieldDef.apart_iff (f g : FieldDef) : f.apart g = true ↔ g.hi < f.lo ∨ f.hi < g.lo := by
  simp [FieldDef.apart]

theorem FieldDef.apart_comm (f g : FieldDef) : f.apart g = g.apart f := Bool.or_comm _ _

theorem FieldDef.apart.misses {f g : FieldDef} (h : f.apart g = true) {i : Nat} (hl : g.lo ≤ i) (hh : i ≤ g.hi) :
    f.misses i := by
  rw [FieldDef.apart_iff] at h
  unfold FieldDef.misses
  omega

namespace Reg

/-! The register maps: no two fields of a register share a bit. -/

/-- Every field lies in the word, and no two share a bit. -/
def fieldsApart : List FieldDef → Bool
  | [] => true
  | f :: fs => f.inWord && fs.all f.apart && fieldsApart fs

theorem inWord_of_mem {fs : List FieldDef} (hfs : fieldsApart fs = true) {f : FieldDef} (hf : f ∈ fs) :
    f.inWord = true := by
  induction fs with
  | nil => simp at hf
  | cons g fs ih =>
    simp only [fieldsApart, Bool.and_eq_true] at hfs
    obtain ⟨⟨hg, -⟩, htl⟩ := hfs
    rcases List.mem_cons.mp hf with rfl | hf
    · exact hg
    · exact ih htl hf

/-- The register maps of all blocks. -/
def maps : List (List RegDef) :=
  [RegMap.top, RegMap.eic, RegMap.mbx, RegMap.jrn, RegMap.snp, RegMap.wear, RegMap.pwr, RegMap.thm, RegMap.rgl,
   RegMap.adt, RegMap.tgl, RegMap.lnk, RegMap.sbf, RegMap.stk, RegMap.msc, RegMap.dmv, RegMap.nme, RegMap.dsp,
   RegMap.tdi, RegMap.hkp]

/-- The register that a search finds is one of the list. -/
theorem mem_of_search {ds : List RegDef} {off : Nat} {d : RegDef} {ix : List Nat} (h : search ds off = some (d, ix)) :
    d ∈ ds := by
  induction ds with
  | nil => simp [search] at h
  | cons e ds ih =>
    simp only [search] at h
    split at h
    · exact List.mem_cons_of_mem _ (ih h)
    · split at h
      · cases h; exact List.mem_cons_self
      · exact List.mem_cons_of_mem _ (ih h)

/-- A block has one of the maps, or no register. -/
theorem block_mem_maps (off : Nat) : block off ∈ [] :: maps := by
  unfold block
  split <;> split <;> simp [maps]

theorem fieldsApart_maps : (maps.all fun ds => ds.all fun d => fieldsApart d.fields) = true := by decide +kernel

/-- No two fields of a register in register space share a bit. -/
theorem fieldsApart_of_lookup {off : Nat} {d : RegDef} {ix : List Nat} (h : lookup off = some (d, ix)) :
    fieldsApart d.fields = true := by
  have hd : d ∈ block off := mem_of_search h
  rcases List.mem_cons.mp (block_mem_maps off) with hb | hb
  · simp [hb] at hd
  · exact List.all_eq_true.mp (List.all_eq_true.mp fieldsApart_maps _ hb) d hd

/-! One field's store. -/

/-- The word `w` after the field `f` of the value `v` is written to it: the step of `writeFields`. -/
def storeField (f : FieldDef) (v w : Word) : Word :=
  match f.acc with
  | .rw => if reservedValue f.rsv (bits v f.hi f.lo) then w else withBits w f.hi f.lo (bits v f.hi f.lo)
  | .w1s => w ||| (v &&& fieldMask f.hi f.lo)
  | .w1c => w &&& ~~~ (v &&& fieldMask f.hi f.lo)
  | .ro | .wo => w

theorem writeFields_cons (f : FieldDef) (fs : List FieldDef) (old v : Word) :
    writeFields (f :: fs) old v = storeField f v (writeFields fs old v) := rfl

/-- Words that agree on a field's bits agree on its value. -/
theorem bits_congr {a b : Word} {hi lo : Nat} (h : lo ≤ hi)
    (hab : ∀ i, lo ≤ i → i ≤ hi → a.getLsbD i = b.getLsbD i) : bits a hi lo = bits b hi lo := by
  apply Nat.eq_of_testBit_eq; intro i
  rw [testBit_bits, testBit_bits]
  by_cases hi' : i < hi - lo + 1
  · rw [hab (lo + i) (by omega) (by omega)]
  · simp [hi']

/-- A field's store leaves every other bit. -/
theorem getLsbD_storeField_of_misses {f : FieldDef} (hf : f.inWord = true) (v w : Word) {i : Nat} (hi : i < 64)
    (hm : f.misses i) : (storeField f v w).getLsbD i = w.getLsbD i := by
  obtain ⟨hle, -⟩ := f.inWord_iff.mp hf
  have hno : ¬ (f.lo ≤ i ∧ i ≤ f.hi) := by unfold FieldDef.misses at hm; omega
  have hmask : (fieldMask f.hi f.lo).getLsbD i = false := by
    rw [getLsbD_fieldMask hle i hi, ← Bool.decide_and, decide_eq_false hno]
  unfold storeField
  cases f.acc with
  | rw =>
    simp only
    split
    · rfl
    · rw [getLsbD_withBits w hle i hi, if_neg hno]
  | ro => rfl
  | wo => rfl
  | w1s => simp only [BitVec.getLsbD_or, BitVec.getLsbD_and, hmask, Bool.and_false, Bool.or_false]
  | w1c =>
    simp only [BitVec.getLsbD_and, BitVec.getLsbD_not, hmask, hi, decide_true, Bool.and_false, Bool.not_false,
      Bool.and_true]

/-- A field's store leaves in the field what its access code gives. -/
theorem bits_storeField {f : FieldDef} (hf : f.inWord = true) (v w : Word) :
    bits (storeField f v w) f.hi f.lo = f.stores (bits w f.hi f.lo) (bits v f.hi f.lo) := by
  obtain ⟨hle, hlt⟩ := f.inWord_iff.mp hf
  have hmask : ∀ i < f.hi - f.lo + 1, (fieldMask f.hi f.lo).getLsbD (f.lo + i) = true := fun i h => by
    rw [getLsbD_fieldMask hle _ (by omega), Bool.and_eq_true, decide_eq_true_eq, decide_eq_true_eq]
    omega
  unfold storeField FieldDef.stores
  cases f.acc with
  | rw =>
    simp only
    split
    · rfl
    · rw [bits_withBits_self w hle hlt, bits, Nat.mod_mod]
  | ro => rfl
  | wo => rfl
  | w1s =>
    apply Nat.eq_of_testBit_eq; intro i
    by_cases h : i < f.hi - f.lo + 1
    · simp [testBit_bits, h, hmask i h]
    · simp [testBit_bits, h]
  | w1c =>
    apply Nat.eq_of_testBit_eq; intro i
    by_cases h : i < f.hi - f.lo + 1
    · have h64 : f.lo + i < 64 := by omega
      simp only [testBit_bits, Nat.testBit_and, Nat.testBit_xor, BitVec.getLsbD_and, BitVec.getLsbD_not, h, h64,
        hmask i h, decide_true, Bool.true_and, Bool.and_true]
      cases w.getLsbD (f.lo + i) <;> simp
    · simp [testBit_bits, h]

/-! The write of all fields. -/

/-- A bit that no field names stays as it is (R9). -/
theorem getLsbD_writeFields_of_misses {fs : List FieldDef} (hfs : fieldsApart fs = true) (old v : Word) {i : Nat}
    (hi : i < 64) (hm : ∀ f ∈ fs, f.misses i) : (writeFields fs old v).getLsbD i = old.getLsbD i := by
  induction fs with
  | nil => rfl
  | cons f fs ih =>
    simp only [fieldsApart, Bool.and_eq_true] at hfs
    obtain ⟨⟨hf, -⟩, htl⟩ := hfs
    obtain ⟨hmf, hmfs⟩ := List.forall_mem_cons.mp hm
    rw [writeFields_cons, getLsbD_storeField_of_misses hf v _ hi hmf, ih htl hmfs]

/-- Each field takes what its access code gives, whatever the others store (R7, R10). -/
theorem bits_writeFields {fs : List FieldDef} (hfs : fieldsApart fs = true) (old v : Word) {f : FieldDef} (hf : f ∈ fs) :
    bits (writeFields fs old v) f.hi f.lo = f.stores (bits old f.hi f.lo) (bits v f.hi f.lo) := by
  obtain ⟨hle, hlt⟩ := f.inWord_iff.mp (inWord_of_mem hfs hf)
  induction fs with
  | nil => simp at hf
  | cons g fs ih =>
    simp only [fieldsApart, Bool.and_eq_true, List.all_eq_true] at hfs
    obtain ⟨⟨hg, hapart⟩, htl⟩ := hfs
    rw [writeFields_cons]
    rcases List.mem_cons.mp hf with rfl | hf
    · have hrest : bits (writeFields fs old v) f.hi f.lo = bits old f.hi f.lo := bits_congr hle fun i hl hh =>
        getLsbD_writeFields_of_misses htl old v (by omega) fun k hk =>
          FieldDef.apart.misses ((k.apart_comm f).trans (hapart k hk)) hl hh
      rw [bits_storeField hg, hrest]
    · rw [← ih htl hf]
      exact bits_congr hle fun i hl hh =>
        getLsbD_storeField_of_misses hg v _ (by omega) (FieldDef.apart.misses (hapart f hf) hl hh)

end Reg

end Sys2Proof
end

section
/-!
The CRC-8 of R587. The model takes a byte into the register at once and then shifts eight times; the register shifts in
one bit of the input at a time.
-/
namespace Sys2Proof

/-- The CRC-8 register after one bit of the input (R587). -/
def crc8Shift (c : Byte) (x : Bool) : Byte := if c.getLsbD 7 ^^ x then (c <<< 1) ^^^ 0x07#8 else c <<< 1

/-- Bits of the input that stand in the register and have not reached its top are shifted, no more. -/
theorem crc8Bit_xor (c b : Byte) : crc8Bit (c ^^^ b) = crc8Shift c (b.getLsbD 7) ^^^ (b <<< 1) := by
  unfold crc8Bit crc8Shift
  rw [BitVec.getLsbD_xor, BitVec.shiftLeft_xor_distrib]
  split
  · rw [BitVec.xor_assoc, BitVec.xor_assoc, BitVec.xor_comm (b <<< 1)]
  · rfl

/-- After `k` shifts the register holds what the first `k` bits of the byte leave, and the rest of the byte. -/
theorem repeat_crc8Bit (c b : Byte) (k : Nat) (hk : k ≤ 8) :
    Nat.repeat crc8Bit k (c ^^^ b) =
      ((List.range k).map fun i => b.getLsbD (7 - i)).foldl crc8Shift c ^^^ (b <<< k) := by
  induction k with
  | zero => simp [Nat.repeat]
  | succ k ih =>
    have htop : (b <<< k).getLsbD 7 = b.getLsbD (7 - k) := by
      simp only [BitVec.getLsbD_shiftLeft, show ¬ 7 < k by omega, decide_true, decide_false, Bool.not_false,
        Bool.true_and, Nat.reduceLT]
    rw [Nat.repeat, ih (by omega), crc8Bit_xor, htop, ← BitVec.shiftLeft_add, List.range_succ, List.map_append,
      List.foldl_append]
    rfl

/-- One byte into the register, bit by bit. -/
theorem repeat_crc8Bit_byte (c b : Byte) :
    Nat.repeat crc8Bit 8 (c ^^^ b) = ((List.range 8).map fun i => b.getLsbD (7 - i)).foldl crc8Shift c := by
  rw [repeat_crc8Bit c b 8 (Nat.le_refl 8), BitVec.shiftLeft_eq_zero (Nat.le_refl 8), BitVec.xor_zero]

/-- The CRC-8 shifts in one bit of the input at a time, each byte's most significant bit first. -/
theorem crc8_eq_foldl_bits (bs : List Byte) :
    crc8 bs = (bs.flatMap fun b => (List.range 8).map fun i => b.getLsbD (7 - i)).foldl crc8Shift 0 := by
  rw [crc8, List.foldl_flatMap]
  exact congrArg (fun f => bs.foldl f 0) (funext fun c => funext fun b => repeat_crc8Bit_byte c b)

/-- The check value of R587, of the bytes "123456789". -/
theorem crc8_check : crc8 [0x31#8, 0x32#8, 0x33#8, 0x34#8, 0x35#8, 0x36#8, 0x37#8, 0x38#8, 0x39#8] = 0xF4#8 := by
  decide +kernel

/-- A good TRAIN set has 15 symbols, the last of them the CRC-8 of the others (R369). -/
theorem Machine.crc8_of_trainGood {l : List Byte} (h : Machine.trainGood l = true) :
    l.length = 15 ∧ l.getD 14 0 = crc8 (l.take 14) := by
  simp only [Machine.trainGood, Bool.and_eq_true, beq_iff_eq] at h
  obtain ⟨⟨⟨⟨⟨⟨⟨⟨hlen, hcrc⟩, -⟩, -⟩, -⟩, -⟩, -⟩, -⟩, -⟩ := h
  exact ⟨hlen, hcrc.symm⟩

end Sys2Proof
end

section
/-!
The machine after a cold reset. Its sparse tables list nothing, so every register reads its reset value (R8) and every
other table its default.
-/
namespace Sys2Proof.Machine

/-- After reset every register holds its reset value (R8). -/
theorem State.reg_reset (off : Nat) : State.reset.reg off = Reg.resetValue State.reset.fuses off := rfl

theorem State.topState_reset : State.reset.topState = stGERM := by decide +kernel

theorem State.qState_reset : ∀ k : Fin 256, State.reset.qState k.val = qsDISABLED := by decide +kernel

theorem State.engineState_reset : ∀ n : Fin 16, State.reset.engineState n.val = neIDLE := by decide +kernel

theorem State.linkState_reset : ∀ p : Fin 32, State.reset.linkState p.val = lkDISABLED := by decide +kernel

/-- After reset SITE_RST of every site is asserted (R409). -/
theorem State.siteReset_reset : ∀ d : Fin 8, State.reset.siteReset d.val = true := by decide +kernel

end Sys2Proof.Machine
end

section
/-!
The order of R13: a status's rank in the model is its place in the list of R13, and the lesser rank is returned.
-/
namespace Sys2Proof.Machine

/-- The statuses of R11 in the order of R13. -/
def statuses : List Nat :=
  [scDESCRIPTOR_ERROR, scPAGE_FAULT, scCONTEXT_REJECT, scUNIT_LOST, scLINK_DOWN, scTIMEOUT, scMULTICAST_INCOMPLETE,
   scDATA_ERROR, scABORTED, scDONE]

/-- A status's rank is its place in the order of R13. -/
theorem statusRank_statuses : ∀ i : Fin 10, statusRank (statuses.getD i 0) = i := by decide

/-- The last place is that of DONE. -/
theorem getD_statuses_eq_done : ∀ i < 10, statuses.getD i 0 = scDONE ↔ i = 9 := by decide

theorem exists_of_mem_statuses {a : Nat} (h : a ∈ statuses) : ∃ i : Fin 10, statuses.getD i 0 = a := by
  obtain ⟨i, hi, rfl⟩ := List.getElem_of_mem h
  exact ⟨⟨i, hi⟩, by simp [hi]⟩

/-- Of two statuses the one of the lesser place is returned (R13). -/
theorem worse_statuses (i j : Fin 10) :
    worse (statuses.getD i 0) (statuses.getD j 0) = statuses.getD (min i.val j.val) 0 := by
  rw [worse, statusRank_statuses, statusRank_statuses, Nat.min_def]
  split <;> rfl

/-- Which of two statuses comes first does not matter (R13). -/
theorem worse_statuses_comm (i j : Fin 10) :
    worse (statuses.getD i 0) (statuses.getD j 0) = worse (statuses.getD j 0) (statuses.getD i 0) := by
  rw [worse_statuses, worse_statuses, Nat.min_comm]

/-- DONE is returned of two that are DONE only (R13). -/
theorem worse_statuses_eq_done (i j : Fin 10) :
    worse (statuses.getD i 0) (statuses.getD j 0) = scDONE ↔
      statuses.getD i 0 = scDONE ∧ statuses.getD j 0 = scDONE := by
  rw [worse_statuses, getD_statuses_eq_done _ (by omega), getD_statuses_eq_done _ i.isLt,
    getD_statuses_eq_done _ j.isLt]
  omega

end Sys2Proof.Machine
end

section
/-!
The statements of the scope family, each settled from the lemmas above.
-/
namespace Sys2Proof.Scope
open Sys2Proof.Machine

/-- Settles O8: the fields of a register of the maps share no bit, so each takes what its own store gives. -/
theorem fieldAccess : Obligations.FieldAccess := by
  intro off d ix hd old v
  have hfs := Reg.fieldsApart_of_lookup hd
  exact ⟨fun _ hf => Reg.bits_writeFields hfs old v hf,
    fun _ hi hm => Reg.getLsbD_writeFields_of_misses hfs old v hi hm⟩

/-- Settles O14: the CRC-8 bit by bit, its check value, and the sets that carry it. -/
theorem crc8 : Obligations.Crc8 :=
  ⟨crc8_eq_foldl_bits, crc8_check, fun _ => rfl, fun _ h => crc8_of_trainGood h⟩

/-- Settles O4: what is stored lists nothing, and the registers' reset values give the rest. -/
theorem resetState : Obligations.ResetState :=
  ⟨State.reg_reset, State.topState_reset, rfl, rfl, rfl, fun _ => rfl, fun _ _ => rfl, fun _ => rfl, rfl, rfl, rfl,
    State.qState_reset, State.engineState_reset, State.linkState_reset, State.siteReset_reset⟩

/-- Settles O17: the ranks of the statuses are their places in the order. -/
theorem statusOrder : Obligations.StatusOrder := by
  refine ⟨worse_statuses, fun a ha b hb => ?_⟩
  obtain ⟨i, rfl⟩ := exists_of_mem_statuses ha
  obtain ⟨j, rfl⟩ := exists_of_mem_statuses hb
  exact ⟨worse_statuses_comm i j, worse_statuses_eq_done i j⟩

end Sys2Proof.Scope
end

section
/-!
How a control message comes in. A port takes it, holds it, sends it on or drops it (R391, R399, R400, R479); what it does
when it is taken is its own act.
-/
namespace Sys2Proof.Machine

variable {s : State} {p : Nat} {h : CtlHead} {b : CtlBody} {act : State → State}

/-- A control message is served at once: the core that serves it runs, it comes on a pod port in UP, and it is for this
module or for the link. -/
abbrev State.takesCtl (s : State) (p : Nat) (h : CtlHead) (b : CtlBody) : Prop :=
  (s.core s.ctlCore).state = csRUNNING ∧ s.linkState p = lkUP ∧ s.portKind p = pkPOD ∧ (s.ctlIn p h b).portKind p = pkPOD ∧
    (h.link = true ∨ h.dest.toNat = (s.ctlIn p h b).ownId)

/-- A pod port or a foreign one is neither host-facing nor down. -/
theorem State.carriesCtl (hl : s.linkState p = lkUP) (hk : s.portKind p = pkPOD ∨ s.portKind p = pkFOREIGN) :
    ¬ (s.linkState p ≠ lkUP ∨ s.portKind p = pkHOST ∨ s.portKind p = pkDOWN) := by
  rcases hk with hk | hk <;> simp [hl, hk, pkPOD, pkFOREIGN, pkHOST, pkDOWN]

theorem State.ctlWaits_of_running (hc : (s.core s.ctlCore).state = csRUNNING) : s.ctlWaits p h b = false := by
  simp [State.ctlWaits, hc]

theorem State.ctlWaits_of_foreign (hk : s.portKind p = pkFOREIGN) (hb : ctlCode b ≠ 1) : s.ctlWaits p h b = false := by
  simp [State.ctlWaits, hk, hb, pkPOD, pkFOREIGN]

theorem State.ctlWaits_of_other (hl : h.link = false) (hd : h.dest.toNat ≠ s.ownId) : s.ctlWaits p h b = false := by
  simp [State.ctlWaits, hl, hd]

/-- A port that is not in UP, or is host-facing or down, carries no control message. -/
theorem State.ctlRx_of_closed (hc : s.linkState p ≠ lkUP ∨ s.portKind p = pkHOST ∨ s.portKind p = pkDOWN) :
    s.ctlRx p h b act = s := if_pos hc

/-- A message for this module or for the link waits for the core that serves it (R479). -/
theorem State.ctlRx_of_stopped (hc : (s.core s.ctlCore).state ≠ csRUNNING) (hl : s.linkState p = lkUP)
    (hk : s.portKind p = pkPOD) (hd : h.link = true ∨ h.dest.toNat = s.ownId) :
    s.ctlRx p h b act = s.ctlHold p h b := by
  have hw : s.ctlWaits p h b = true := by simpa [State.ctlWaits, hc, hk] using hd
  rw [State.ctlRx, if_neg (State.carriesCtl hl (.inl hk)), if_pos hw]

/-- A foreign port counts what is no HELLO and drops it (R399). -/
theorem State.ctlRx_of_foreign (hb : ctlCode b ≠ 1) (hl : s.linkState p = lkUP) (hk : s.portKind p = pkFOREIGN)
    (hi : (s.ctlIn p h b).portKind p = pkFOREIGN) : s.ctlRx p h b act = s.ctlIn p h b := by
  rw [State.ctlRx, if_neg (State.carriesCtl hl (.inr hk)), State.ctlWaits_of_foreign hk hb, if_neg Bool.false_ne_true]
  exact if_pos ⟨hi, hb⟩

/-- A message for another module is passed on. -/
theorem State.ctlRx_of_other (hl : s.linkState p = lkUP) (hk : s.portKind p = pkPOD)
    (hi : (s.ctlIn p h b).portKind p = pkPOD) (hn : h.link = false) (hd : h.dest.toNat ≠ s.ownId)
    (hd' : h.dest.toNat ≠ (s.ctlIn p h b).ownId) : s.ctlRx p h b act = (s.ctlIn p h b).ctlPass p h b := by
  rw [State.ctlRx, if_neg (State.carriesCtl hl (.inl hk)), State.ctlWaits_of_other hn hd, if_neg Bool.false_ne_true]
  simp [hi, hn, hd', pkPOD, pkFOREIGN]

/-- A message that is served at once is counted, and acts. -/
theorem State.ctlRx_of_takes (ht : s.takesCtl p h b) : s.ctlRx p h b act = act (s.ctlIn p h b) := by
  obtain ⟨hc, hl, hk, hi, hd⟩ := ht
  rw [State.ctlRx, if_neg (State.carriesCtl hl (.inl hk)), State.ctlWaits_of_running hc, if_neg Bool.false_ne_true]
  simp [hi, hd, pkPOD, pkFOREIGN]

/-- HELLO is for the link, and every port that carries control messages carries it. -/
theorem State.ctlRx_hello {g : HelloBody} (hc : (s.core s.ctlCore).state = csRUNNING) (hl : s.linkState p = lkUP)
    (hk : s.portKind p = pkPOD) :
    s.ctlRx p linkHead (.hello g) act = act (s.ctlIn p linkHead (.hello g)) := by
  rw [State.ctlRx, if_neg (State.carriesCtl hl (.inl hk)), State.ctlWaits_of_running hc, if_neg Bool.false_ne_true]
  simp [ctlCode, linkHead]

theorem State.ctlPass_of_worn (hh : 63 < h.hops + 1) :
    s.ctlPass p h b = (s.bump R.TGL_CNT F.TGL_CNT_HOPS_DROP).auditHusk p 13 (ctlHdr h b) := if_pos hh

theorem State.ctlPass_of_route {q : Nat} (hh : h.hops + 1 ≤ 63) (hq : s.route h.dest.toNat = some q) :
    s.ctlPass p h b =
      (s.bump (R.TGL_PORT_CNT2 q) F.TGL_PORT_CNT2_FORWARDED).enqueue q (.ctl { h with hops := h.hops + 1 } b) := by
  rw [State.ctlPass, if_neg (Nat.not_lt.mpr hh), hq]

/-- The command that a control message on a port is. -/
def ctlCommand (p : Fin 32) (h : CtlHead) : CtlBody → Instr
  | .hello b => .hello p b
  | .join b => .join p h b
  | .assign b => .assign p h b
  | .members version rows => .members p h version rows
  | .routes version rows => .routes p h version rows
  | .groups version rows => .groups p h version rows
  | .portDown port far => .portDown p h port far
  | .portUp port far => .portUp p h port far
  | .leave id => .leave p h id
  | .stretch level => .stretch p h level
  | .beatQuery => .beatQuery p h
  | .beatReply number => .beatReply p h number
  | .ack code version => .ack p h code version

/-- Every message but HELLO is received alike. -/
theorem does_ctlCommand {p : Fin 32} (hb : ctlCode b ≠ 1) {t : State}
    (ht : s.ctlRx p h b (fun s => s.ctlAct p h b) = t) : Does (ctlCommand p h b) s t := by
  cases b with
  | hello b => exact absurd rfl hb
  | join b => exact does_join p h b ht
  | assign b => exact does_assign p h b ht
  | members version rows => exact does_members p h version rows ht
  | routes version rows => exact does_routes p h version rows ht
  | groups version rows => exact does_groups p h version rows ht
  | portDown port far => exact does_portDown p h port far ht
  | portUp port far => exact does_portUp p h port far ht
  | leave id => exact does_leave p h id ht
  | stretch level => exact does_stretch p h level ht
  | beatQuery => exact does_beatQuery p h ht
  | beatReply number => exact does_beatReply p h number ht
  | ack code version => exact does_ack p h code version ht

end Sys2Proof.Machine
end

section
/-!
What each control message does where it is taken: one equation per case that R397 to R403 name.
-/
namespace Sys2Proof.Machine

variable {s : State} {p : Nat} {h : CtlHead}

/-! What the pod keeps beside the registers is none of the fields of TGL_POD_STATUS. -/

theorem State.hasId_of_pod (x : PodState) : State.hasId { s with pod := x } = s.hasId := rfl

theorem State.podState_of_pod (x : PodState) : State.podState { s with pod := x } = s.podState := rfl

/-! HELLO. -/

theorem State.helloMember_of_unelected {b : HelloBody} (he : b.elected = false) : s.helloMember p b = s.sendHello p := by
  simp [State.helloMember, he]

theorem State.helloMember_of_samePod {b : HelloBody} (he : b.elected = true)
    (hm : b.bestSerial.toNat = s.fld R.TGL_MASTER_SERIAL F.TGL_MASTER_SERIAL_SERIAL) :
    s.helloMember p b = s.reportUp p := by
  simp [State.helloMember, he, hm]

/-- Two pods of which either is in READY do not merge (R399). -/
theorem State.helloMember_of_ready {b : HelloBody} (he : b.elected = true)
    (hm : b.bestSerial.toNat ≠ s.fld R.TGL_MASTER_SERIAL F.TGL_MASTER_SERIAL_SERIAL)
    (hr : b.ready = true ∨ s.topState = stREADY) : s.helloMember p b = s.holdForeign p := by
  simp [State.helloMember, he, hm, hr]

/-- A module outside READY joins the better pod (R397). -/
theorem State.helloMember_of_better {b : HelloBody} (he : b.elected = true)
    (hm : b.bestSerial.toNat ≠ s.fld R.TGL_MASTER_SERIAL F.TGL_MASTER_SERIAL_SERIAL)
    (hr : b.ready = false) (ht : s.topState ≠ stREADY)
    (hb : let mine := s.bestKnown.getD (2, s.fld R.TGL_MASTER_SERIAL F.TGL_MASTER_SERIAL_SERIAL, true)
      better (b.bestRole.toNat, b.bestSerial.toNat) (mine.1, mine.2.1) = true) :
    s.helloMember p b =
      (let x := (s.portEvent p F.TGL_EVT_POD).dropId
       State.sendJoin { x with pod := { x.pod with best := some (b.bestRole.toNat, b.bestSerial.toNat, true) } } p) := by
  dsimp only at hb
  simp [State.helloMember, he, hm, hr, ht, hb]

/-- A module without an ID asks an elected master's pod to let it join (R401). -/
theorem State.helloElecting_of_elected {b : HelloBody} (he : b.elected = true) (hi : s.hasId = false)
    (hj : s.podState ≠ psJOINING) :
    s.helloElecting p b =
      (State.sendJoin { s with pod := { s.pod with best := some (b.bestRole.toNat, b.bestSerial.toNat, true) } } p).sendHellos := by
  simp [State.helloElecting, he, State.hasId_of_pod, State.podState_of_pod, hi, hj]

/-- A candidate passes on a better one, and no other (R397). -/
theorem State.helloElecting_of_candidate {b : HelloBody} {r n : Nat} (he : b.elected = false)
    (hk : s.bestKnown = some (r, n, false)) :
    s.helloElecting p b = if better (b.bestRole.toNat, b.bestSerial.toNat) (r, n) then
      State.sendHellos { s with pod := { s.pod with best := some (b.bestRole.toNat, b.bestSerial.toNat, false) } } else s := by
  simp [State.helloElecting, he, hk]

/-! Elections. -/

theorem State.masterElected_of_first {r n : Nat} (hr : s.role ≠ 2) (hp : s.podState = psELECTING ∨ s.podState = psALONE)
    (hb : s.pod.best = none ∨ s.pod.best = some (r, n, false) ∧ better (s.role, s.serial) (r, n) = true) :
    s.masterElected = s.becomeMaster := by
  rcases hb with hb | ⟨hb, hbetter⟩
  · simp [State.masterElected, hr, hp, hb]
  · simp [State.masterElected, hr, hp, hb, hbetter]

theorem State.masterElected_of_noCandidate (hn : s.role = 2 ∨ s.podState ≠ psELECTING ∧ s.podState ≠ psALONE) :
    s.masterElected = s := by
  rcases hn with hr | ⟨he, ha⟩
  · simp [State.masterElected, hr]
  · simp [State.masterElected, he, ha]

/-! JOIN and ASSIGN. -/

theorem portOf_val (p : Fin 32) : portOf p.val = some p := dif_pos p.isLt

theorem State.joinAct_of_master {p : Fin 32} {b : JoinBody} (hm : s.isMaster = true) :
    s.joinAct p h b =
      s.assignId (if h.link then s.ownId else h.src.toNat) (if h.link then { b with port := p } else b) := by
  simp [State.joinAct, hm, portOf_val]

theorem State.joinAct_of_sponsor {p : Fin 32} {b : JoinBody} (hm : s.isMaster = false) (hl : h.link = true)
    (hp : s.podState = psMEMBER) :
    s.joinAct p h b = State.toMaster { s with pod := { s.pod with
      sponsored := (s.pod.sponsored.filter fun e => e.1 != b.serial.toNat) ++ [(b.serial.toNat, p.val)] } }
      (.join (if h.link then { b with port := p } else b)) := by
  simp [State.joinAct, hm, hl, hp, portOf_val]

theorem State.assignAct_of_joiner {b : AssignBody} (hl : h.link = true) (hs : b.serial.toNat = s.serial)
    (hp : s.podState = psJOINING) :
    s.assignAct p h b =
      (let x := (s.setPod F.TGL_POD_STATUS_ID_VALID 1).setPod F.TGL_POD_STATUS_ID b.id.toNat
       let x : State := { x with pod := { x.pod with sponsor := some p }, beat := { x.beat with rejoin := true } }
       (((x.adoptMaster b.masterId.toNat b.masterSerial.toNat).portEvent p F.TGL_EVT_POD).sendHellos).toMaster
         .beatQuery) :=
  (if_pos hl).trans (if_pos ⟨hs, hp⟩)

theorem State.assignAct_of_sponsor {b : AssignBody} {e : Nat × Nat} (hl : h.link = false)
    (he : (s.pod.sponsored.find? fun e => e.1 == b.serial.toNat) = some e) :
    s.assignAct p h b = State.sendCtl
      { s with pod := { s.pod with sponsored := s.pod.sponsored.erase e } } e.2 0 true (.assign b) := by
  simp [State.assignAct, hl, he]

/-! The tables of the master. -/

section Tables
variable {code : Nat} {version : BitVec 32} {apply : State → State}

theorem State.tableTake_of_untold (hu : s.isMaster = true ∨ s.hasId = false) :
    s.tableTake p h code version apply = s := by
  simp [State.tableTake, hu]

/-- A table of another master, or one not older than the last, is applied and acknowledged (R398, R400). -/
theorem State.tableTake_of_fresh (hm : s.isMaster = false) (hi : s.hasId = true)
    (hf : h.src.toNat ≠ s.masterId ∨ s.podFld F.TGL_POD_STATUS_VERSION ≤ version.toNat) :
    s.tableTake p h code version apply =
      (((apply (s.setPod F.TGL_POD_STATUS_MASTER_ID h.src.toNat)).setPod F.TGL_POD_STATUS_VERSION
        version.toNat).portEvent p F.TGL_EVT_POD).toMaster (.ack (BitVec.ofNat 8 code) version) := by
  simp [State.tableTake, hm, hi, hf]

/-- An older table of the same master is acknowledged only (R400). -/
theorem State.tableTake_of_older (hm : s.isMaster = false) (hi : s.hasId = true) (hs : h.src.toNat = s.masterId)
    (hv : version.toNat < s.podFld F.TGL_POD_STATUS_VERSION) :
    s.tableTake p h code version apply = s.toMaster (.ack (BitVec.ofNat 8 code) version) := by
  simp [State.tableTake, hm, hi, hs, Nat.not_le.mpr hv]

end Tables

/-! Leaving, and what the master does. -/

theorem State.leaveAct_of_master {id : BitVec 6} (hm : s.isMaster = true) (hk : s.members.contains id.toNat = true)
    (ho : id.toNat ≠ s.ownId) : s.leaveAct p id = s.removeMember id.toNat true := by
  rw [State.leaveAct, if_pos hm, if_pos (by simpa [ho] using hk)]

theorem State.leaveAct_of_orphan {id : BitVec 6} (hm : s.isMaster = false) (hp : s.podState = psMEMBER)
    (hi : id.toNat = s.masterId) : s.leaveAct p id = (s.portEvent p F.TGL_EVT_POD).elect := by
  simp [State.leaveAct, hm, hp, hi]

theorem State.stretchAct_of_master {level : BitVec 4} (hm : s.isMaster = true)
    (hk : s.members.contains h.src.toNat = true) : s.stretchAct h level = s.setLevel h.src.toNat level.toNat := by
  rw [State.stretchAct, hm, hk]; rfl

theorem State.stretchAct_of_member {level : BitVec 4} (hm : s.isMaster = false) : s.stretchAct h level = s := by
  rw [State.stretchAct, hm]; rfl

theorem State.memberRemove_of_silent {m : Nat} (hm : s.isMaster = true)
    (hu : (s.pod.unacked.any fun e => e.1 == m) = true) (hk : s.members.contains m = true) :
    s.memberRemove m = s.removeMember m false := by
  rw [State.memberRemove, hm, hu, Bool.and_self, if_pos rfl, if_pos hk]

theorem State.memberRemove_of_answered {m : Nat}
    (hn : s.isMaster = false ∨ (s.pod.unacked.any fun e => e.1 == m) = false) : s.memberRemove m = s := by
  rw [State.memberRemove, if_neg]
  rcases hn with hn | hn <;> simp [hn]

/-! The registers of the pod and of a port. -/

theorem State.podLeaveWrite_of_leave {v : Word} (hv : F.TGL_POD_CTL_LEAVE.isSet v = true) (ht : s.topState ≠ stREADY) :
    s.podLeaveWrite v = s.podEvent.dropId := by
  simp [State.podLeaveWrite, hv, ht]

theorem State.podLeaveWrite_of_ready {v : Word} (ht : s.topState = stREADY) : s.podLeaveWrite v = s := by
  simp [State.podLeaveWrite, ht]

theorem State.portCtl_cntClr {v : Word} (hc : F.TGL_PORT_CTL_CNT_CLR.isSet v = true)
    (hl : F.TGL_PORT_CTL_LOG_CLR.isSet v = false) :
    s.portCtl p v = s.clearRegs [R.TGL_PORT_CNT p, R.TGL_PORT_CNT2 p] := by
  simp [State.portCtl, hc, hl]

theorem State.portCtl_logClr {v : Word} (hc : F.TGL_PORT_CTL_CNT_CLR.isSet v = false)
    (hl : F.TGL_PORT_CTL_LOG_CLR.isSet v = true) :
    s.portCtl p v = s.resetRegs fun off => (R.TGL_AUD_STATUS p ≤ off && off < R.TGL_AUD_STATUS (p + 1)) ||
      (R.TGL_AUD_LOG p 0 0 ≤ off && off < R.TGL_AUD_LOG (p + 1) 0 0) := by
  rw [State.portCtl, hc, hl]; rfl

end Sys2Proof.Machine
end

section
/-!
The commands of the pod, settled from the equations above.
-/
namespace Sys2Proof.Beats
open Sys2Proof.Machine

/-- A message that carries a table of the master (R393, R394, R398): whom it concerns, and what its version decides. -/
theorem does_table {s : State} {p code : Nat} {h : CtlHead} {b : CtlBody} {version : BitVec 32} {apply : State → State}
    {i : Instr} (hd : ∀ {t}, s.ctlRx p h b (fun w => w.tableTake p h code version apply) = t → Does i s t)
    (ht : s.takesCtl p h b) :
    let w := s.ctlIn p h b
    let ack : CtlBody := .ack (BitVec.ofNat 8 code) version
    (w.isMaster = true ∨ w.hasId = false → Does i s w) ∧
    (w.isMaster = false → w.hasId = true →
      (h.src.toNat ≠ w.masterId ∨ w.podFld F.TGL_POD_STATUS_VERSION ≤ version.toNat → Does i s
        ((((apply (w.setPod F.TGL_POD_STATUS_MASTER_ID h.src.toNat)).setPod F.TGL_POD_STATUS_VERSION
          version.toNat).portEvent p F.TGL_EVT_POD).toMaster ack)) ∧
      (h.src.toNat = w.masterId → version.toNat < w.podFld F.TGL_POD_STATUS_VERSION → Does i s (w.toMaster ack))) := by
  intro w ack
  have taken {t} (he : w.tableTake p h code version apply = t) : Does i s t := hd ((State.ctlRx_of_takes ht).trans he)
  exact ⟨fun hu => taken (State.tableTake_of_untold hu), fun hm hi =>
    ⟨fun hf => taken (State.tableTake_of_fresh hm hi hf), fun hs hv => taken (State.tableTake_of_older hm hi hs hv)⟩⟩

/-- A HELLO that the port takes: the far end is noted, and the message acts by the state of the pod. -/
theorem does_hello_taken {s : State} {p : Fin 32} {g : HelloBody} (hc : (s.core s.ctlCore).state = csRUNNING)
    (hl : s.linkState p.val = lkUP) (hk : s.portKind p.val = pkPOD) {t : State}
    (he : (s.ctlIn p.val linkHead (.hello g)).helloAct p.val g = t) : Does (.hello p g) s t :=
  does_hello p g ((State.ctlRx_hello hc hl hk).trans he)

/-- Settles O42: a message is received by one of five ways, and one that is taken acts by the case of its rule. -/
theorem podCommands : Obligations.PodCommands := by
  intro s p port h hello join assign version members routes groups far id level number code v by' rows u serves takes
  have hrows : ∀ x ∈ rows, x.2 = ctlCommand p h x.1 ∧ ctlCode x.1 ≠ 1 := by
    simp [rows, ctlCommand, ctlCode]
  have does {x : CtlBody × Instr} (hx : x ∈ rows) {t : State}
      (ht : s.ctlRx p.val h x.1 (fun s => s.ctlAct p.val h x.1) = t) : Does x.2 s t := by
    rw [(hrows x hx).1]; exact does_ctlCommand (hrows x hx).2 ht
  refine ⟨?closed, ?foreign, ?other, ?stopped, ?hello, ?elected, ?notElected, ?join, ?assign, ?tables, ?members,
    ?portDown, ?portUp, ?leave, ?stretch, ?beatQuery, ?beatReply, ?ack, ?resend, ?remove, ?podLeave, ?portCtl⟩
  case closed =>
    intro x hx hc
    rcases List.mem_append.mp hx with hx | hx
    · exact does hx (State.ctlRx_of_closed hc)
    · rw [List.mem_singleton.mp hx]
      exact does_hello p hello (State.ctlRx_of_closed hc)
  case foreign => exact fun x hx hl hk hi => does hx (State.ctlRx_of_foreign (hrows x hx).2 hl hk hi)
  case other =>
    intro x hx hl hk hi hd hn hd'
    have hp := State.ctlRx_of_other (act := fun s => s.ctlAct p.val h x.1) hl hk hi hn hd hd'
    exact ⟨fun hh => does hx (hp.trans (State.ctlPass_of_worn hh)),
      fun q hh hq => does hx (hp.trans (State.ctlPass_of_route hh hq))⟩
  case stopped =>
    exact fun hc hl hk => ⟨fun x hx hd => does hx (State.ctlRx_of_stopped hc hl hk hd),
      does_hello p hello (State.ctlRx_of_stopped hc hl hk (.inl rfl))⟩
  case hello =>
    intro w₀ w best mine hc hl hk
    refine ⟨fun hp => ?_, fun hm hM => ?_⟩
    · have member {t} (he : w.helloMember p.val hello = t) : Does (.hello p hello) s t :=
        does_hello_taken hc hl hk ((if_pos hp).trans he)
      exact ⟨fun he => member (State.helloMember_of_unelected he),
        fun he hs => member (State.helloMember_of_samePod he hs),
        fun he hs => ⟨fun hr => member (State.helloMember_of_ready he hs hr),
          fun hr ht hb => member (State.helloMember_of_better he hs hr ht hb)⟩⟩
    · have electing {t} (he : w.helloElecting p.val hello = t) : Does (.hello p hello) s t :=
        does_hello_taken hc hl hk ((if_neg (not_or.mpr ⟨hm, hM⟩)).trans he)
      exact ⟨fun he hi hj => electing (State.helloElecting_of_elected he hi hj),
        fun r n he hb => ⟨fun hr => electing ((State.helloElecting_of_candidate he hb).trans (if_pos hr)),
          fun hr => electing ((State.helloElecting_of_candidate he hb).trans (if_neg (Bool.eq_false_iff.mp hr)))⟩⟩
  case elected => exact fun hr hp r n hb => does_masterElected (State.masterElected_of_first hr hp hb)
  case notElected => exact fun hn => does_masterElected (State.masterElected_of_noCandidate hn)
  case join =>
    exact fun ht => ⟨fun hm => does_join p h join ((State.ctlRx_of_takes ht).trans (State.joinAct_of_master hm)),
      fun hm hl hp => does_join p h join ((State.ctlRx_of_takes ht).trans (State.joinAct_of_sponsor hm hl hp))⟩
  case assign =>
    exact fun ht =>
      ⟨fun hl hs hp => does_assign p h assign ((State.ctlRx_of_takes ht).trans (State.assignAct_of_joiner hl hs hp)),
        fun e hl he => does_assign p h assign ((State.ctlRx_of_takes ht).trans (State.assignAct_of_sponsor hl he))⟩
  case tables =>
    intro x hx ht
    simp only [List.mem_cons, List.not_mem_nil, or_false] at hx
    rcases hx with rfl | rfl
    · exact does_table (does_routes p h version routes) ht
    · exact does_table (does_groups p h version groups) ht
  case members =>
    intro ht w ack hm hi
    have taken {t} (he : w.membersAct p.val h version members = t) : Does (.members p h version members) s t :=
      does_members p h version members ((State.ctlRx_of_takes ht).trans he)
    exact ⟨fun hf => taken (congrArg State.leaveDone (State.tableTake_of_fresh hm hi hf)),
      fun hs hv => taken (congrArg State.leaveDone (State.tableTake_of_older hm hi hs hv))⟩
  case portDown =>
    exact fun ht hm => does_portDown p h port far ((State.ctlRx_of_takes ht).trans (if_pos hm))
  case portUp =>
    exact fun ht hm => does_portUp p h port far ((State.ctlRx_of_takes ht).trans (if_pos hm))
  case leave =>
    exact fun ht => ⟨fun hm hk ho =>
        does_leave p h id ((State.ctlRx_of_takes ht).trans (State.leaveAct_of_master hm hk ho)),
      fun hm hp hi => does_leave p h id ((State.ctlRx_of_takes ht).trans (State.leaveAct_of_orphan hm hp hi))⟩
  case stretch =>
    exact fun ht =>
      ⟨fun hm hk => does_stretch p h level ((State.ctlRx_of_takes ht).trans (State.stretchAct_of_master hm hk)),
        fun hm => does_stretch p h level ((State.ctlRx_of_takes ht).trans (State.stretchAct_of_member hm))⟩
  case beatQuery =>
    exact fun ht => ⟨fun hm => does_beatQuery p h ((State.ctlRx_of_takes ht).trans (if_pos hm)),
      fun hm => does_beatQuery p h ((State.ctlRx_of_takes ht).trans (if_neg (Bool.eq_false_iff.mp hm)))⟩
  case beatReply => exact fun ht => does_beatReply p h number (State.ctlRx_of_takes ht)
  case ack => exact fun ht => does_ack p h code version (State.ctlRx_of_takes ht)
  case resend =>
    exact ⟨fun hm => does_ctlResend (if_pos hm), fun hm => does_ctlResend (if_neg (Bool.eq_false_iff.mp hm))⟩
  case remove =>
    exact fun m => ⟨fun hm hu hk => does_memberRemove m (State.memberRemove_of_silent hm hu hk),
      fun hn => does_memberRemove m (State.memberRemove_of_answered hn)⟩
  case podLeave =>
    have written {t} (he : (s.written R.TGL_POD_CTL v).podLeaveWrite v = t) : Does (.podLeave v) s t :=
      does_podLeave v ((State.write_TGL_POD_CTL s v _).trans he)
    exact ⟨fun hv ht => written (State.podLeaveWrite_of_leave hv ht),
      fun ht => written (State.podLeaveWrite_of_ready ht)⟩
  case portCtl =>
    have hw := State.write_TGL_PORT_CTL s p v by'
    exact ⟨fun hc hl => does_tglPortCntClr p v by' (by rw [hw, State.portCtl_cntClr hc hl]),
      fun hc hl => does_tglLogClr p v by' (by rw [hw, State.portCtl_logClr hc hl])⟩

end Sys2Proof.Beats
end

section
/-!
The walk of an admission (R74): which segment holds a page, how one page stands, and how the walk stands with the pages
of all its operands.
-/
namespace Sys2Proof.Machine

/-- The segment that a page is translated by is valid and holds the page (R69). -/
theorem segFor_holds {segs : List (Nat × Nat × Nat)} {page i : Nat} {g : Nat × Nat × Nat}
    (h : segFor segs page = some (i, g)) :
    segValid g = true ∧ g.1 % 2 ^ 57 / 2 ^ 31 ≤ page ∧ page < g.1 % 2 ^ 57 / 2 ^ 31 + g.2.1 % 2 ^ 26 := by
  obtain ⟨e, he, heq⟩ := Option.map_eq_some_iff.mp h
  obtain rfl : e.1 = g := congrArg Prod.snd heq
  simpa using List.find?_some he

/-! One page. -/

section Page
variable {segs : List (Nat × Nat × Nat)} {found : List PageFound} {page : Nat} {writes : Bool}

theorem walkPage_of_noSegment (h : segFor segs page = none) :
    walkPage segs found page writes = some (.fault frNO_SEGMENT page) := by
  simp [walkPage, h]

section Held
variable {i : Nat} {g : Nat × Nat × Nat} (hg : segFor segs page = some (i, g))
include hg

theorem walkPage_of_unread (hn : (found.find? fun f => f.page == page) = none) :
    walkPage segs found page writes = some (.read (1 + page)) := by
  simp [walkPage, hg, hn]

section Read
variable {f : PageFound} (hf : (found.find? fun f => f.page == page) = some f)
include hf

theorem walkPage_of_notPresent (hp : bit f.entry 63 = false) :
    walkPage segs found page writes = some (.fault frNOT_PRESENT page) := by
  simp [walkPage, hg, hf, hp]

theorem walkPage_of_malformed (hp : bit f.entry 63 = true) (hm : entryMalformed f.entry = true) :
    walkPage segs found page writes = some (.fault frMALFORMED page) := by
  simp [walkPage, hg, hf, hp, hm]

/-- A sound entry faults only where the operand writes and the entry or its segment forbids it (R69, R70, R73). -/
theorem walkPage_of_wellFormed (hp : bit f.entry 63 = true) (hm : entryMalformed f.entry = false) :
    walkPage segs found page writes =
      if writes = true ∧ (bit f.entry 62 = false ∨ bit g.1 62 = false) then some (.fault frWRITE_PROTECT page)
      else none := by
  simp [walkPage, hg, hf, hp, hm]

theorem walkPage_of_translated (hp : bit f.entry 63 = true) (hm : entryMalformed f.entry = false)
    (hw : writes = false ∨ bit f.entry 62 = true ∧ bit g.1 62 = true) :
    walkPage segs found page writes = none := by
  rw [walkPage_of_wellFormed hg hf hp hm, if_neg]
  rcases hw with hw | ⟨he, hs⟩
  · simp [hw]
  · simp [he, hs]

end Read
end Held

/-- A page that holds the walk up no longer is translated: its segment is there, and an entry of it that is present,
well formed and writable where the operand writes. -/
theorem walkPage_eq_none (h : walkPage segs found page writes = none) :
    ∃ i g f, segFor segs page = some (i, g) ∧ (found.find? fun f => f.page == page) = some f ∧
      bit f.entry 63 = true ∧ entryMalformed f.entry = false ∧
      (writes = true → bit f.entry 62 = true ∧ bit g.1 62 = true) := by
  cases hg : segFor segs page with
  | none => simp [walkPage_of_noSegment hg] at h
  | some e =>
  obtain ⟨i, g⟩ := e
  cases hf : found.find? fun f => f.page == page with
  | none => simp [walkPage_of_unread hg hf] at h
  | some f =>
  cases hp : bit f.entry 63 with
  | false => simp [walkPage_of_notPresent hg hf hp] at h
  | true =>
  cases hm : entryMalformed f.entry with
  | true => simp [walkPage_of_malformed hg hf hp hm] at h
  | false =>
  refine ⟨i, g, f, rfl, rfl, hp, hm, fun hw => ?_⟩
  simpa [walkPage_of_wellFormed hg hf hp hm, hw] using h

/-- One page never ends the walk as found: it waits, faults, or lets the walk go on. -/
theorem walkPage_ne_found : walkPage segs found page writes ≠ some .found := by
  unfold walkPage
  split
  · simp
  · split
    · simp
    · split
      · simp
      · split
        · simp
        · split <;> simp

end Page

/-! All pages. -/

theorem mem_opPages {op : Nat × Nat × Bool} {page : Nat} (hl : op.1 ≤ page) (hh : page ≤ op.2.1) :
    (page, op.2.2) ∈ opPages op :=
  List.mem_map.mpr ⟨page - op.1, List.mem_range.mpr (by omega), by simp [hl]⟩

namespace Admission
variable {w : Admission} {segs : List (Nat × Nat × Nat)}

theorem walk_of_segs (hs : w.segs = some segs) (ho : w.ops ≠ []) :
    w.walk = ((w.ops.flatMap opPages).findSome? fun p => walkPage segs w.found p.1 p.2).getD .found := by
  simp [Admission.walk, hs, ho]

/-- A walk that is found has nothing left to do at any page of any operand. -/
theorem walkPage_of_found (hs : w.segs = some segs) (hw : w.walk = .found) {op : Nat × Nat × Bool} (hop : op ∈ w.ops)
    {page : Nat} (hl : op.1 ≤ page) (hh : page ≤ op.2.1) : walkPage segs w.found page op.2.2 = none := by
  rw [walk_of_segs hs (List.ne_nil_of_mem hop)] at hw
  cases hx : (w.ops.flatMap opPages).findSome? fun p => walkPage segs w.found p.1 p.2 with
  | none => exact List.findSome?_eq_none_iff.mp hx _ (List.mem_flatMap_of_mem hop (mem_opPages hl hh))
  | some x =>
    obtain rfl : x = .found := by simpa [hx] using hw
    obtain ⟨p, -, hp⟩ := List.exists_of_findSome?_eq_some hx
    exact absurd hp walkPage_ne_found

/-- The first page that is not translated decides the walk. -/
theorem walk_of_firstPage (hs : w.segs = some segs) (ho : w.ops ≠ []) {l r : List (Nat × Bool)} {page : Nat}
    {writes : Bool} {x : Walk} (hsplit : w.ops.flatMap opPages = l ++ (page, writes) :: r)
    (hl : ∀ p ∈ l, walkPage segs w.found p.1 p.2 = none) (hx : walkPage segs w.found page writes = some x) :
    w.walk = x := by
  rw [walk_of_segs hs ho, hsplit, List.findSome?_append, List.findSome?_eq_none_iff.mpr hl]
  simp [hx]

end Admission
end Sys2Proof.Machine
end

section
/-!
The walk of an admission, settled from the lemmas above.
-/
namespace Sys2Proof.Addressing
open Sys2Proof.Machine

/-- Settles O21: a page without cause to wait or fault is translated, and the first page with one decides the walk. -/
theorem admissionWalk : Obligations.AdmissionWalk := by
  refine ⟨?released, ?page, ?first⟩
  case released =>
    intro w segs hs hw op hop page hl hh
    obtain ⟨i, g, f, hg, hf, hp, hm, hwr⟩ := walkPage_eq_none (Admission.walkPage_of_found hs hw hop hl hh)
    obtain ⟨hvalid, hlow, hhigh⟩ := segFor_holds hg
    have hpage : f.page = page := by simpa using List.find?_some hf
    exact ⟨i, g, f, hg, hvalid, hlow, hhigh, List.mem_of_find?_eq_some hf, hpage, hp, hm, hwr⟩
  case page =>
    refine fun segs found page writes => ⟨walkPage_of_noSegment, fun i g hg => ⟨walkPage_of_unread hg, fun f hf =>
      ⟨walkPage_of_notPresent hg hf, walkPage_of_malformed hg hf, fun hp hm hw hd => ?_, walkPage_of_translated hg hf⟩⟩⟩
    rw [walkPage_of_wellFormed hg hf hp hm, if_pos ⟨hw, hd⟩]
  case first =>
    exact fun w segs l r page writes x hs ho hsplit hl hx => Admission.walk_of_firstPage hs ho hsplit hl hx

end Sys2Proof.Addressing
end

section
/-!
How a husk comes in. A port in UP counts it, and a check of R384 discards it or none does; then the kind of the port,
the type and the destination say who acts on it.
-/
namespace Sys2Proof

/-- A request to one module: no multicast (R381). -/
def Husk.isUnicast (t : Nat) : Bool := Husk.isRequest t && t != Husk.MCW && t != Husk.MBAR

theorem Husk.isUnicast_iff {t : Nat} :
    Husk.isUnicast t = true ↔ t = Husk.RD ∨ t = Husk.WR ∨ t = Husk.AT ∨ t = Husk.ATR ∨ t = Husk.BAR := by
  simp only [Husk.isUnicast, Husk.isRequest, Husk.RD, Husk.WR, Husk.AT, Husk.ATR, Husk.BAR, Husk.MCW, Husk.MBAR,
    Bool.and_eq_true, decide_eq_true_eq, bne_iff_ne]
  omega

/-- A request is no response, no credit return and no trigger. -/
theorem Husk.ne_of_isUnicast {t : Nat} (hu : Husk.isUnicast t = true) :
    t ≠ Husk.RSP ∧ t ≠ Husk.CRD ∧ t ≠ Husk.SNAP := by
  rcases Husk.isUnicast_iff.mp hu with rfl | rfl | rfl | rfl | rfl <;> decide

end Sys2Proof

namespace Sys2Proof.Machine

variable {s : State} {p : Nat} {hdr : BitVec 128} {payload : List Byte} {crc : BitVec 32} {h : Husk} {t : Nat}

theorem multicastHusk_iff : multicastHusk h = true ↔ h.typ = Husk.MCW ∨ h.typ = Husk.MBAR := by
  simp [multicastHusk]

theorem multicastHusk_of_response (ht : h.typ = Husk.RSP) : multicastHusk h = false := by
  rw [multicastHusk, ht]; rfl

theorem multicastHusk_of_unicast (hu : Husk.isUnicast h.typ = true) : multicastHusk h = false := by
  simp only [Husk.isUnicast, Bool.and_eq_true, bne_iff_ne] at hu
  simp [multicastHusk, hu]

/-! The checks of R384. -/

/-- A port that is not in UP receives nothing. -/
theorem State.rxHusk_of_down (hl : s.linkState p ≠ lkUP) : s.rxHusk p t hdr payload crc = s := if_pos (.inl hl)

section Up
variable (hl : s.linkState p = lkUP) (ht : (Husk.parse hdr payload).typ = t)
include hl ht

/-- A husk of the row's type that comes on a port in UP is not turned away. -/
theorem State.receives : ¬ (s.linkState p ≠ lkUP ∨ ¬ ((Husk.parse hdr payload).typ = t ∨
    (Husk.parse hdr payload).typ = 0 ∨ Husk.SNAP < (Husk.parse hdr payload).typ)) := by
  simp [hl, ht]

theorem State.rxHusk_of_badCrc (hc : crc ≠ huskCrc hdr payload) :
    s.rxHusk p t hdr payload crc =
      ((s.huskIn p hdr payload).auditHusk p 1 hdr).bump (R.TGL_PORT_CNT p) F.TGL_PORT_CNT_CRC_ERR := by
  rw [State.rxHusk, if_neg (State.receives hl ht)]
  exact if_pos hc

theorem State.rxHusk_of_badLen (hc : crc = huskCrc hdr payload) (hn : lenGood (Husk.parse hdr payload) = false) :
    s.rxHusk p t hdr payload crc = (s.huskIn p hdr payload).auditHusk p 3 hdr := by
  rw [State.rxHusk, if_neg (State.receives hl ht)]
  simp [hc, hn]

theorem State.rxHusk_of_badFields (hc : crc = huskCrc hdr payload) (hn : lenGood (Husk.parse hdr payload) = true)
    (hf : fieldsGood hdr (Husk.parse hdr payload) ((s.huskIn p hdr payload).portKind p == pkHOST) = false) :
    s.rxHusk p t hdr payload crc = (s.huskIn p hdr payload).auditHusk p 4 hdr := by
  rw [State.rxHusk, if_neg (State.receives hl ht)]
  simp [hc, hn, hf]

end Up

theorem State.typ_of_rxTakes (hh : s.rxTakes p t hdr payload crc h) : h.typ = t := by
  obtain ⟨-, -, ht, -⟩ := hh
  exact ht

/-- A husk that passes the checks is counted, and acts. -/
theorem State.rxHusk_of_takes (hh : s.rxTakes p t hdr payload crc h) :
    s.rxHusk p t hdr payload crc = (s.huskIn p hdr payload).rxGood p h hdr := by
  obtain ⟨rfl, hl, ht, hc, hn, hf, hp⟩ := hh
  rw [State.rxHusk, if_neg (State.receives hl ht)]
  simp [hc, hn, hf, hp]

/-! Who acts on it. -/

theorem State.rxGood_of_credit (ht : h.typ = Husk.CRD) : s.rxGood p h hdr = s.rxCredit p h hdr := if_pos ht

/-- A request of the host adapter (R404). -/
theorem State.rxGood_of_adapter (hk : s.portKind p = pkHOST) (hu : Husk.isUnicast h.typ = true) :
    s.rxGood p h hdr = s.rxAdapter p h hdr := by
  obtain ⟨-, hc, -⟩ := Husk.ne_of_isUnicast hu
  simp only [Husk.isUnicast, Bool.and_eq_true] at hu
  obtain ⟨⟨hq, -⟩, -⟩ := hu
  rw [State.rxGood, if_neg hc, if_pos hk, if_pos hq]

section Pod
variable (hk : s.portKind p = pkPOD)
include hk

/-- A credit return aside, what comes on a pod port is a trigger, a multicast, or for one module. -/
theorem State.rxGood_of_pod (hc : h.typ ≠ Husk.CRD) :
    s.rxGood p h hdr =
      if h.typ = Husk.SNAP then s.snapRx p h
      else if multicastHusk h then s.rxMulticast p h hdr
      else if h.dest ≠ s.ownId then s.passHusk p h hdr
      else if h.typ = Husk.RSP then s.rxResponse p (if h.mc then poolMulticast else h.src) h hdr
      else (if s.tagReused p h then s.auditHusk p 7 hdr else s).rxRequest p h hdr := by
  rw [State.rxGood, if_neg hc, if_neg (show s.portKind p ≠ pkHOST by rw [hk]; decide), if_neg (not_not_intro hk)]

theorem State.rxGood_of_trigger (ht : h.typ = Husk.SNAP) : s.rxGood p h hdr = s.snapRx p h := by
  rw [State.rxGood_of_pod hk (by rw [ht]; decide), if_pos ht]

theorem State.rxGood_of_multicast (hm : multicastHusk h = true) : s.rxGood p h hdr = s.rxMulticast p h hdr := by
  have hn : h.typ ≠ Husk.CRD ∧ h.typ ≠ Husk.SNAP := by
    rcases multicastHusk_iff.mp hm with ht | ht <;> rw [ht] <;> decide
  rw [State.rxGood_of_pod hk hn.1, if_neg hn.2, if_pos hm]

section Single
variable (hu : Husk.isUnicast h.typ = true ∨ h.typ = Husk.RSP)
include hu

/-- What is neither a credit return, a trigger nor a multicast is for one module. -/
theorem State.rxGood_of_single :
    s.rxGood p h hdr =
      if h.dest ≠ s.ownId then s.passHusk p h hdr
      else if h.typ = Husk.RSP then s.rxResponse p (if h.mc then poolMulticast else h.src) h hdr
      else (if s.tagReused p h then s.auditHusk p 7 hdr else s).rxRequest p h hdr := by
  obtain ⟨hc, hs⟩ : h.typ ≠ Husk.CRD ∧ h.typ ≠ Husk.SNAP := by
    rcases hu with hu | ht
    · exact (Husk.ne_of_isUnicast hu).2
    · rw [ht]; decide
  have hm : multicastHusk h = false := hu.elim multicastHusk_of_unicast multicastHusk_of_response
  rw [State.rxGood_of_pod hk hc, if_neg hs, hm, if_neg Bool.false_ne_true]

/-- A request or a response to another module is passed on (R391). -/
theorem State.rxGood_of_other (hd : h.dest ≠ s.ownId) : s.rxGood p h hdr = s.passHusk p h hdr := by
  rw [State.rxGood_of_single hk hu, if_pos hd]

end Single

theorem State.rxGood_of_request (hu : Husk.isUnicast h.typ = true) (hd : h.dest = s.ownId) :
    s.rxGood p h hdr = (if s.tagReused p h then s.auditHusk p 7 hdr else s).rxRequest p h hdr := by
  obtain ⟨hr, -⟩ := Husk.ne_of_isUnicast hu
  rw [State.rxGood_of_single hk (.inl hu), if_neg (not_not_intro hd), if_neg hr]

theorem State.rxGood_of_response (ht : h.typ = Husk.RSP) (hd : h.dest = s.ownId) (hm : h.mc = false) :
    s.rxGood p h hdr = s.rxResponse p h.src h hdr := by
  rw [State.rxGood_of_single hk (.inr ht), if_neg (not_not_intro hd), if_pos ht, hm, if_neg Bool.false_ne_true]

end Pod

end Sys2Proof.Machine
end

section
/-!
What a husk does where it acts: one equation per case of R103, R385 to R391, R395 and R404.
-/
namespace Sys2Proof.Machine

variable {s : State} {p : Nat} {h : Husk} {hdr : BitVec 128}

/-! A request to this module. -/

theorem State.rxRequest_of_badTarget (hb : s.badTarget h = true) :
    s.rxRequest p h hdr = (s.auditHusk p 14 hdr).answerHusk h scDESCRIPTOR_ERROR [] := if_pos hb

section Target
variable (hb : s.badTarget h = false)
include hb

/-- A barrier waits at its port (R116). -/
theorem State.rxRequest_of_barrier (ht : h.typ = Husk.BAR) : s.rxRequest p h hdr = s.holdBarrier p h := by
  rw [State.rxRequest, hb, if_neg Bool.false_ne_true, if_pos ht]

/-- The bridge relays what names its host window (R404). -/
theorem State.rxRequest_of_host (hr : regionOf h.addr = .host) (ht : h.typ = Husk.RD ∨ h.typ = Husk.WR) :
    s.rxRequest p h hdr =
      s.sendRequest { h with dest := s.ownId, hops := 0 } (.relay h.src h.tag h.epoch h.cls) := by
  have hn : h.typ ≠ Husk.BAR := by rcases ht with ht | ht <;> rw [ht] <;> decide
  rw [State.rxRequest, hb, if_neg Bool.false_ne_true, if_neg hn, if_pos hr, if_pos ht]

/-- Memory and registers of this module are served at once, and answered (R385). -/
theorem State.rxRequest_of_served (hr : regionOf h.addr ≠ .host) (hn : h.typ ≠ Husk.BAR) {c : Nat} {bs : List Byte}
    {u : State} (he : s.serveHusk h = (c, bs, u)) : s.rxRequest p h hdr = u.answerHusk h c bs := by
  rw [State.rxRequest, hb, if_neg Bool.false_ne_true, if_neg hn, if_neg hr, he]

end Target

/-! What is served. -/

section Registers
variable (hr : regionOf h.addr = .register)
include hr

theorem State.serveHusk_registerRead (ht : h.typ = Husk.RD) :
    s.serveHusk h =
      (scDONE, (s.regRead (h.addr - regBase) h.len).1, (s.regRead (h.addr - regBase) h.len).2) := by
  rw [State.serveHusk, if_pos hr, if_pos ht]

theorem State.serveHusk_registerWrite (ht : h.typ = Husk.WR) :
    s.serveHusk h =
      (scDONE, [], s.regWriteBytes (h.addr - regBase) h.payload
        ⟨BitVec.ofNat 14 h.rid, BitVec.ofNat 6 h.src, true, false⟩) := by
  rw [State.serveHusk, if_pos hr, if_neg (by rw [ht]; decide), if_pos ht]

end Registers

section Memory
variable (hr : regionOf h.addr ≠ .register)
include hr

/-- Outside READY no memory is served. -/
theorem State.serveHusk_of_notReady (hs : s.topState ≠ stREADY) : s.serveHusk h = (scABORTED, [], s) := by
  rw [State.serveHusk, if_neg hr, if_pos hs]

section Ready
variable (hs : s.topState = stREADY)
include hs

theorem State.serveHusk_read (ht : h.typ = Husk.RD) : s.serveHusk h = s.memRead (huskAccess h) h.addr h.len true := by
  rw [State.serveHusk, if_neg hr, if_neg (not_not_intro hs), if_pos ht]

theorem State.serveHusk_write (ht : h.typ = Husk.WR) :
    s.serveHusk h =
      ((s.memWrite (huskAccess h) h.addr (allBytes h.payload)).1, [],
        (s.memWrite (huskAccess h) h.addr (allBytes h.payload)).2) := by
  rw [State.serveHusk, if_neg hr, if_neg (not_not_intro hs), if_neg (by rw [ht]; decide), if_pos ht]

/-- An atomic returns the old value where its type asks for it. -/
theorem State.serveHusk_atomic (ht : h.typ = Husk.AT ∨ h.typ = Husk.ATR) :
    s.serveHusk h =
      ((s.huskAtomic h).1, if h.typ = Husk.ATR then (s.huskAtomic h).2.1 else [], (s.huskAtomic h).2.2) := by
  have hn : h.typ ≠ Husk.RD ∧ h.typ ≠ Husk.WR := by rcases ht with ht | ht <;> rw [ht] <;> decide
  rw [State.serveHusk, if_neg hr, if_neg (not_not_intro hs), if_neg hn.1, if_neg hn.2]

end Ready
end Memory

/-! Husks for other modules. -/

theorem State.passHusk_of_worn (hh : 63 < h.hops + 1) :
    s.passHusk p h hdr = (s.bump R.TGL_CNT F.TGL_CNT_HOPS_DROP).auditHusk p 13 hdr := if_pos hh

theorem State.passHusk_of_route {q : Nat} (hh : h.hops + 1 ≤ 63) (hq : s.route h.dest = some q) :
    s.passHusk p h hdr =
      (s.bump (R.TGL_PORT_CNT2 q) F.TGL_PORT_CNT2_FORWARDED).forwardHusk { h with hops := h.hops + 1 } := by
  rw [State.passHusk, if_neg (Nat.not_lt.mpr hh), hq]

/-- A request of the adapter to another module goes out as the bridge's own (R404). -/
theorem State.rxAdapter_of_other (hu : Husk.isUnicast h.typ = true) (hd : h.dest ≠ s.ownId)
    (hr : regionOf h.addr ≠ .reserved) (hi : runInside h.addr (huskRun h) = true) :
    s.rxAdapter p h hdr =
      s.sendRequest
        { h with
          src := s.ownId, rid := p / 4 * 2048 + 2047, hops := 0, cls := s.fld R.RGL_SRC_CLASS F.RGL_SRC_CLASS_HOST }
        (.adapter p h.tag h.epoch h.cls) := by
  simp [State.rxAdapter, multicastHusk_of_unicast hu, hd, hr, hi]

/-! Responses. -/

section Response
variable {pool : Nat}

theorem State.rxResponse_of_free (hb : (s.tag pool h.tag).busy = none) :
    s.rxResponse p pool h hdr = s.rxStale p false hdr := by
  simp only [State.rxResponse, hb]

section Busy
variable {use : TagUse} (hb : (s.tag pool h.tag).busy = some use)
include hb

theorem State.rxResponse_of_epoch (he : (s.tag pool h.tag).epoch ≠ h.epoch) :
    s.rxResponse p pool h hdr = s.rxStale p true hdr := by
  simp only [State.rxResponse, hb]
  exact if_pos he

theorem State.rxResponse_of_answer (he : (s.tag pool h.tag).epoch = h.epoch) (hp : pool ≠ poolMulticast) :
    s.rxResponse p pool h hdr =
      ((s.freeTagAt pool h.tag).owe use.waiter h.status h.payload).serveTagWait pool := by
  simp only [State.rxResponse, hb]
  rw [if_neg (not_not_intro he), if_neg hp]

end Busy
end Response

/-! What leaves by a port. -/

section Head
variable {i : TxItem} {rest : List TxItem} (hq : (s.port p).txq = i :: rest)
include hq

/-- The head of the transmit queue leaves where the far end has its pips (R389). -/
theorem State.huskSend_of_pips (hl : s.linkState p = lkUP) (hc : i.cost.2 ≤ (s.port p).free i.cost.1) :
    s.huskSend p =
      (State.forkPump (((((s.setPort p { s.port p with
        txq := rest, sent := addThird (s.port p).sent i.cost.1 i.cost.2 }).showPips p).bump
          (R.TGL_PORT_CNT2 p) F.TGL_PORT_CNT2_HUSKS_TX).emit (i.out p))) p) := by
  simp only [State.huskSend, hq]
  exact if_pos ⟨hl, hc⟩

theorem State.huskSend_of_noPips (hc : (s.port p).free i.cost.1 < i.cost.2) : s.huskSend p = s := by
  simp only [State.huskSend, hq]
  exact if_neg fun hg => Nat.not_le.mpr hc hg.2

end Head

end Sys2Proof.Machine
end

section
/-!
The commands of the husks, settled from the equations above.
-/
namespace Sys2Proof.Ordering
open Sys2Proof.Machine

/-- The command of each row receives a husk of the row's type. -/
theorem does_huskRows (s : State) (p : Fin 32) (hdr : BitVec 128) (payload : List Byte) (crc : BitVec 32) :
    ∀ x ∈ ([(Husk.RD, .rd p hdr payload crc), (Husk.WR, .wr p hdr payload crc),
      (Husk.AT, .atPost p hdr payload crc), (Husk.ATR, .atr p hdr payload crc),
      (Husk.MCW, .mcw p hdr payload crc), (Husk.BAR, .bar p hdr payload crc), (Husk.MBAR, .mbar p hdr payload crc),
      (Husk.RSP, .rsp p hdr payload crc), (Husk.CRD, .crd p hdr payload crc),
      (Husk.SNAP, .snap p hdr payload crc)] : List (Nat × Instr)),
      Does x.2 s (s.rxHusk p.val x.1 hdr payload crc) := by
  simp only [List.forall_mem_cons]
  exact ⟨does_rd _ _ _ _ rfl, does_wr _ _ _ _ rfl, does_atPost _ _ _ _ rfl, does_atr _ _ _ _ rfl,
    does_mcw _ _ _ _ rfl, does_bar _ _ _ _ rfl, does_mbar _ _ _ _ rfl, does_rsp _ _ _ _ rfl, does_crd _ _ _ _ rfl,
    does_snap _ _ _ _ rfl, List.forall_mem_nil _⟩

/-- Settles O41: each husk is received by the checks of R384, and acts by the case of its rule. -/
theorem huskCommands : Obligations.HuskCommands := by
  intro s p hdr payload crc h u rows takes here v memory
  have does {x : Nat × Instr} (hx : x ∈ rows) {w : State} (hw : s.rxHusk p.val x.1 hdr payload crc = w) :
      Does x.2 s w := hw ▸ does_huskRows s p hdr payload crc x hx
  have taken {x : Nat × Instr} (hx : x ∈ rows) (ht : takes x.1) {w : State} (hw : u.rxGood p.val h hdr = w) :
      Does x.2 s w := does hx ((State.rxHusk_of_takes ht).trans hw)
  have unicast : ∀ x ∈ rows.take 4 ++ [(Husk.BAR, .bar p hdr payload crc)],
      x ∈ rows ∧ Husk.isUnicast x.1 = true := by
    simp [rows, Husk.isUnicast_iff]
  have single : ∀ x ∈ rows.take 4 ++ [(Husk.BAR, .bar p hdr payload crc), (Husk.RSP, .rsp p hdr payload crc)],
      x ∈ rows ∧ (Husk.isUnicast x.1 = true ∨ x.1 = Husk.RSP) := by
    simp [rows, Husk.isUnicast_iff]
  have access : ∀ x ∈ rows.take 4, x.1 ≠ Husk.BAR := by
    simp [rows, Husk.RD, Husk.WR, Husk.AT, Husk.ATR, Husk.BAR]
  have request {x : Nat × Instr} (hx : x ∈ rows.take 4 ++ [(Husk.BAR, .bar p hdr payload crc)]) (ht : takes x.1)
      (hh : here) {w : State} (hw : v.rxRequest p.val h hdr = w) : Does x.2 s w := by
    obtain ⟨hrow, hu⟩ := unicast x hx
    rw [← State.typ_of_rxTakes ht] at hu
    exact taken hrow ht ((State.rxGood_of_request hh.1 hu hh.2).trans hw)
  have served {x : Nat × Instr} (hx : x ∈ rows.take 4) (ht : takes x.1) (hh : here) (hb : v.badTarget h = false)
      (hr : regionOf h.addr ≠ .host) {c : Nat} {bs : List Byte} {w : State} (hw : v.serveHusk h = (c, bs, w)) :
      Does x.2 s (w.answerHusk h c bs) := by
    have hn : h.typ ≠ Husk.BAR := by rw [State.typ_of_rxTakes ht]; exact access x hx
    exact request (List.mem_append_left _ hx) ht hh (State.rxRequest_of_served hb hr hn hw)
  refine ⟨?checks, ?read, ?write, ?atomicPost, ?atomicReturn, ?registers, ?host, ?aborted, ?badTarget, ?barrier,
    ?onward, ?multicast, ?response, ?stale, ?credit, ?trigger, ?adapter, ?framing, ?send, ?sendCredit, ?timeout,
    ?holdEnd, ?drop⟩
  case checks =>
    rintro x hx rfl
    exact ⟨fun hl => does hx (State.rxHusk_of_down hl), fun hl ht =>
      ⟨fun hc => does hx (State.rxHusk_of_badCrc hl ht hc),
        fun hc hn => does hx (State.rxHusk_of_badLen hl ht hc hn),
        fun hc hn hf => does hx (State.rxHusk_of_badFields hl ht hc hn hf)⟩⟩
  case read =>
    rintro ht ⟨hh, hb, hhost, hreg, hs⟩
    exact served (x := (Husk.RD, _)) (by simp [rows]) ht hh hb hhost
      (State.serveHusk_read hreg hs (State.typ_of_rxTakes ht))
  case write =>
    rintro ht ⟨hh, hb, hhost, hreg, hs⟩
    exact served (x := (Husk.WR, _)) (by simp [rows]) ht hh hb hhost
      (State.serveHusk_write hreg hs (State.typ_of_rxTakes ht))
  case atomicPost =>
    rintro ht ⟨hh, hb, hhost, hreg, hs⟩
    have hty := State.typ_of_rxTakes ht
    refine served (x := (Husk.AT, _)) (by simp [rows]) ht hh hb hhost ?_
    rw [State.serveHusk_atomic hreg hs (.inl hty), if_neg (by rw [hty]; decide)]
  case atomicReturn =>
    rintro ht ⟨hh, hb, hhost, hreg, hs⟩
    have hty := State.typ_of_rxTakes ht
    refine served (x := (Husk.ATR, _)) (by simp [rows]) ht hh hb hhost ?_
    rw [State.serveHusk_atomic hreg hs (.inr hty), if_pos hty]
  case registers =>
    intro hh hb hreg
    have hhost : regionOf h.addr ≠ .host := by rw [hreg]; decide
    exact ⟨fun ht => served (x := (Husk.RD, _)) (by simp [rows]) ht hh hb hhost
        (State.serveHusk_registerRead hreg (State.typ_of_rxTakes ht)),
      fun ht => served (x := (Husk.WR, _)) (by simp [rows]) ht hh hb hhost
        (State.serveHusk_registerWrite hreg (State.typ_of_rxTakes ht))⟩
  case host =>
    exact fun hh hb hhost =>
      ⟨fun ht => request (x := (Husk.RD, _)) (by simp [rows]) ht hh
          (State.rxRequest_of_host hb hhost (.inl (State.typ_of_rxTakes ht))),
        fun ht => request (x := (Husk.WR, _)) (by simp [rows]) ht hh
          (State.rxRequest_of_host hb hhost (.inr (State.typ_of_rxTakes ht)))⟩
  case aborted =>
    exact fun x hx hh hb hhost hreg hs ht => served hx ht hh hb hhost (State.serveHusk_of_notReady hreg hs)
  case badTarget => exact fun x hx hh hb ht => request hx ht hh (State.rxRequest_of_badTarget hb)
  case barrier =>
    exact fun hh hb ht => request (x := (Husk.BAR, _)) (by simp [rows]) ht hh
      (State.rxRequest_of_barrier hb (State.typ_of_rxTakes ht))
  case onward =>
    intro x hx hk hd ht
    obtain ⟨hrow, hu⟩ := single x hx
    rw [← State.typ_of_rxTakes ht] at hu
    have hp := State.rxGood_of_other (hdr := hdr) hk hu hd
    exact ⟨fun hh => taken hrow ht (hp.trans (State.passHusk_of_worn hh)),
      fun q hh hq => taken hrow ht (hp.trans (State.passHusk_of_route hh hq))⟩
  case multicast =>
    intro x hx hk ht mask g w t hh
    obtain ⟨hrow, hm⟩ : x ∈ rows ∧ (x.1 = Husk.MCW ∨ x.1 = Husk.MBAR) := by
      simp only [List.mem_cons, List.not_mem_nil, or_false] at hx
      rcases hx with rfl | rfl <;> simp [rows]
    rw [← State.typ_of_rxTakes ht] at hm
    refine taken hrow ht ((State.rxGood_of_multicast hk (multicastHusk_iff.mpr hm)).trans ?_)
    simp only [State.rxMulticast, Nat.not_lt.mpr hh, false_and, if_false]
    rfl
  case response =>
    intro ht hh hm use hb
    have answered {w : State} (hw : u.rxResponse p.val h.src h hdr = w) : Does (.rsp p hdr payload crc) s w :=
      taken (x := (Husk.RSP, _)) (by simp [rows]) ht
        ((State.rxGood_of_response hh.1 (State.typ_of_rxTakes ht) hh.2 hm).trans hw)
    exact ⟨fun he hp => answered (State.rxResponse_of_answer hb he hp),
      fun he => answered (State.rxResponse_of_epoch hb he)⟩
  case stale =>
    exact fun ht hh hm hb => taken (x := (Husk.RSP, _)) (by simp [rows]) ht
      ((State.rxGood_of_response hh.1 (State.typ_of_rxTakes ht) hh.2 hm).trans (State.rxResponse_of_free hb))
  case credit =>
    exact fun ht => taken (x := (Husk.CRD, _)) (by simp [rows]) ht (State.rxGood_of_credit (State.typ_of_rxTakes ht))
  case trigger =>
    exact fun ht hk => taken (x := (Husk.SNAP, _)) (by simp [rows]) ht
      (State.rxGood_of_trigger hk (State.typ_of_rxTakes ht))
  case adapter =>
    intro x hx hk ht hd hr hi
    obtain ⟨hrow, hu⟩ := unicast x (List.mem_append_left _ hx)
    rw [← State.typ_of_rxTakes ht] at hu
    exact taken hrow ht ((State.rxGood_of_adapter hk hu).trans (State.rxAdapter_of_other hu hd hr hi))
  case framing => exact fun hl => does_framingError p (if_pos hl)
  case send =>
    exact fun i rest hq => ⟨fun hl hc => does_huskSend p (State.huskSend_of_pips hq hl hc),
      fun hc => does_huskSend p (State.huskSend_of_noPips hq hc)⟩
  case sendCredit =>
    intro hl hc
    exact does_crdSend p (if_pos ⟨hl, by simpa using hc⟩)
  case timeout => exact fun pool tag use hb => does_tagTimeout pool tag (by simp only [State.tagTimeout, hb])
  case holdEnd => exact fun m hh hs => does_routeHoldEnd m (if_neg (by simp [hh, hs]))
  case drop => exact fun i x hx => does_forkCopyDrop p i (by simp only [State.forkCopyDrop, hx]; rfl)

end Sys2Proof.Ordering
end

section
/-!
The SEC-DED code of the shared buffer (R126). Inverting a stored bit changes the check equations that take it, and its
syndrome is the pattern of those equations. Every one of the 72 patterns has bit 7 at 1 and no two are the same, so one
inverted bit names itself, and two leave a pattern that is not 0 and has bit 7 at 0.
-/
namespace Sys2Proof.Machine

/-! The check equations. -/

/-- The exclusive or of two words' bits, taken together and taken apart. -/
theorem foldl_xor_map_xor (l : List Nat) (f g : Nat → Bool) (x y : Bool) :
    (l.map fun i => f i ^^ g i).foldl (· ^^ ·) (x ^^ y) =
      ((l.map f).foldl (· ^^ ·) x ^^ (l.map g).foldl (· ^^ ·) y) := by
  induction l generalizing x y with
  | nil => rfl
  | cons i l ih =>
    simp only [List.map_cons, List.foldl_cons]
    rw [← ih, Bool.xor_assoc, Bool.xor_left_comm y, ← Bool.xor_assoc]

/-- An exclusive or that takes no bit twice sees a single bit at 1 where it takes that bit. -/
theorem foldl_xor_single {l : List Nat} (hl : l.Nodup) (b : Nat) (x : Bool) :
    (l.map fun i => decide (i = b)).foldl (· ^^ ·) x = (x ^^ decide (b ∈ l)) := by
  induction l generalizing x with
  | nil => simp
  | cons i l ih =>
    obtain ⟨hi, hl⟩ := List.nodup_cons.mp hl
    rw [List.map_cons, List.foldl_cons, ih hl, Bool.xor_assoc]
    by_cases h : i = b
    · subst h; simp [hi]
    · simp [h, Ne.symm h]

theorem nodup_codeTaps (k : Nat) : (codeTaps k).Nodup := List.nodup_range.filter _

/-- The check equations that take a bit are those of its syndrome (R126). -/
theorem mem_codeTaps : ∀ (b : Fin 72) (k : Fin 8), decide (b.val ∈ codeTaps k) = bit (syndromeOf b) k := by
  decide +kernel

/-- What inverting a bit does to a check equation. -/
theorem parity_flip (word : Nat → Bool) (b : Fin 72) (k : Fin 8) :
    ((codeTaps k).map fun i => word i ^^ decide (i = b.val)).foldl (· ^^ ·) false =
      (((codeTaps k).map word).foldl (· ^^ ·) false ^^ bit (syndromeOf b) k) := by
  rw [← mem_codeTaps, ← Bool.false_xor (decide _), ← foldl_xor_single (nodup_codeTaps k), ← foldl_xor_map_xor]
  rfl

/-! The syndromes. -/

/-- Every bit counts in the last check equation (R126). -/
theorem syndromeOf_div : ∀ b : Fin 72, syndromeOf b / 128 = 1 := by decide +kernel

/-- No two bits have one syndrome. -/
theorem syndromeOf_injective : ∀ b c : Fin 72, syndromeOf b = syndromeOf c → b = c := by decide +kernel

/-- The syndrome of an inverted data bit names its position (R126). -/
theorem idxOf_syndromeOf_data : ∀ b : Fin 64, codePositions.idxOf? (syndromeOf b - 128) = some b.val := by decide +kernel

/-- The syndrome of an inverted check bit names no data bit (R126). -/
theorem idxOf_syndromeOf_check : ∀ b : Fin 72, 64 ≤ b.val →
    codePositions.idxOf? (syndromeOf b - 128) = none ∧ syndromeOf b - 128 ∈ [0, 1, 2, 4, 8, 16, 32, 64] := by
  decide +kernel

theorem le_syndromeOf (b : Fin 72) : 128 ≤ syndromeOf b := by
  have := syndromeOf_div b
  omega

/-- Two inverted bits leave an error that no single bit gives. -/
theorem syndromeOf_xor {b c : Fin 72} (h : b ≠ c) :
    syndromeOf b ^^^ syndromeOf c ≠ 0 ∧ syndromeOf b ^^^ syndromeOf c < 128 := by
  refine ⟨fun h0 => h (syndromeOf_injective b c ?_), ?_⟩
  · calc syndromeOf b
      _ = syndromeOf b ^^^ (syndromeOf b ^^^ syndromeOf c) := by rw [h0, Nat.xor_zero]
      _ = syndromeOf c := by rw [← Nat.xor_assoc, Nat.xor_self, Nat.zero_xor]
  have hdiv : (syndromeOf b ^^^ syndromeOf c) / 128 = syndromeOf b / 128 ^^^ syndromeOf c / 128 :=
    Nat.xor_div_two_pow (n := 7)
  rw [syndromeOf_div b, syndromeOf_div c, Nat.xor_self] at hdiv
  omega

/-! The decoder. -/

theorem State.sbDecode_of_sound {s : State} {w : Nat} (h : s.sbSyndrome w = 0) :
    s.sbDecode w = (0, readCells ramDefault s.sram w 8) := by
  rw [State.sbDecode, h]; rfl

theorem State.sbDecode_of_double {s : State} {w : Nat} (h0 : s.sbSyndrome w ≠ 0) (h : s.sbSyndrome w < 128) :
    s.sbDecode w = (2, readCells ramDefault s.sram w 8) := by
  simp only [State.sbDecode, h0, h, if_true, if_false]

theorem State.sbDecode_of_data {s : State} {w : Nat} (b : Fin 64) (h : s.sbSyndrome w = syndromeOf b) :
    s.sbDecode w = (1, (readCells ramDefault s.sram w 8).modify (b / 8) fun x => flipBit x (b % 8)) := by
  have hge := le_syndromeOf ⟨b, by omega⟩
  dsimp only at hge
  simp only [State.sbDecode, h, idxOf_syndromeOf_data b, show syndromeOf b ≠ 0 by omega, Nat.not_lt.mpr hge, if_false]

theorem State.sbDecode_of_check {s : State} {w : Nat} (b : Fin 72) (hb : 64 ≤ b.val) (h : s.sbSyndrome w = syndromeOf b) :
    s.sbDecode w = (1, readCells ramDefault s.sram w 8) := by
  have hge := le_syndromeOf b
  obtain ⟨hi, hm⟩ := idxOf_syndromeOf_check b hb
  simp only [State.sbDecode, h, hi, hm, show syndromeOf b ≠ 0 by omega, Nat.not_lt.mpr hge, if_true, if_false]

/-! Inverted bits. -/

theorem flipBit_flipBit (x : Byte) (i : Nat) : flipBit (flipBit x i) i = x := by
  rw [flipBit, flipBit, BitVec.xor_assoc, BitVec.xor_self, BitVec.xor_zero]

theorem State.sbSyndrome_sbFlip (s : State) (w b : Nat) :
    (s.sbFlip w b).sbSyndrome w = s.sbSyndrome w ^^^ syndromeOf b := by
  have hset (n : Nat) : (s.setSyndrome w n).sbSyndrome w = n := Tab.get_set_self _ _ _ _
  unfold State.sbFlip
  split
  · exact hset _
  · exact hset _

/-- An inverted data bit changes one of the word's bytes. -/
theorem State.readCells_sbFlip_data (s : State) (w : Nat) {b : Nat} (hb : b < 64) :
    readCells ramDefault (s.sbFlip w b).sram w 8 =
      (readCells ramDefault s.sram w 8).modify (b / 8) fun x => flipBit x (b % 8) := by
  apply List.ext_getElem
  · simp [readCells]
  · intro i _ _
    simp only [State.sbFlip, hb, if_true, readCells, List.getElem_map, List.getElem_range, List.getElem_modify]
    by_cases hi : b / 8 = i
    · subst hi; simp [State.setSyndrome]
    · rw [if_neg hi, Tab.get_set_ne _ _ _ (by omega)]; rfl

/-- An inverted check bit changes none. -/
theorem State.sram_sbFlip_check (s : State) (w : Nat) {b : Nat} (hb : 64 ≤ b) : (s.sbFlip w b).sram = s.sram := by
  rw [State.sbFlip, if_neg (by omega)]; rfl

/-- One inverted bit is corrected. -/
theorem State.sbDecode_sbFlip {s : State} {w : Nat} (h : s.sbSyndrome w = 0) (b : Fin 72) :
    (s.sbFlip w b).sbDecode w = (1, readCells ramDefault s.sram w 8) := by
  have hn : (s.sbFlip w b).sbSyndrome w = syndromeOf b := by rw [State.sbSyndrome_sbFlip, h, Nat.zero_xor]
  by_cases hb : b.val < 64
  · rw [State.sbDecode_of_data ⟨b, hb⟩ hn, State.readCells_sbFlip_data s w hb, List.modify_modify_eq]
    simp only [Function.comp_def, flipBit_flipBit]
    exact congrArg (Prod.mk 1) (List.modify_id _ _)
  · rw [State.sbDecode_of_check b (by omega) hn, State.sram_sbFlip_check s w (by omega)]

/-- Two inverted bits are found. -/
theorem State.sbDecode_sbFlip_sbFlip {s : State} {w : Nat} (h : s.sbSyndrome w = 0) {b c : Fin 72} (hbc : b ≠ c) :
    ((s.sbFlip w b).sbFlip w c).sbDecode w = (2, readCells ramDefault ((s.sbFlip w b).sbFlip w c).sram w 8) := by
  have hn : ((s.sbFlip w b).sbFlip w c).sbSyndrome w = syndromeOf b ^^^ syndromeOf c := by
    rw [State.sbSyndrome_sbFlip, State.sbSyndrome_sbFlip, h, Nat.zero_xor]
  obtain ⟨h0, hlt⟩ := syndromeOf_xor hbc
  exact State.sbDecode_of_double (hn ▸ h0) (hn ▸ hlt)

end Sys2Proof.Machine
end

section
/-!
The shared buffer under an access that meets no error. Where every code word is sound and nothing is armed, an access
changes the stored bytes and the valid bits and nothing else: `State.withBytes`.
-/
namespace Sys2Proof.Machine

/-- The state with the stored bytes and the valid bits of the shared buffer replaced. -/
def State.withBytes (s : State) (m : List Host.Cell) (v : Tab Bool) : State :=
  { s with sram := m, buffer := { s.buffer with valid := v } }

/-- The address after the last of the shared buffer (R54). -/
def bufferEnd : Nat := 0x1C180000000

/-! Where the buffer lies. -/

theorem regionOf_after {a : Nat} (h : bufferEnd ≤ a) :
    regionOf a = .register ∨ regionOf a = .host ∨ regionOf a = .reserved := by
  have hstack : ¬ a < 0x16800000000 := by unfold bufferEnd at h; omega
  have hbuffer : ¬ (bufferBase ≤ a ∧ a < 0x1C180000000) := fun hc => absurd hc.2 (Nat.not_lt.mpr h)
  rw [regionOf, if_neg hstack, if_neg hbuffer]
  split
  · exact .inl rfl
  · split
    · exact .inr (.inl rfl)
    · exact .inr (.inr rfl)

theorem lt_bufferEnd {a : Nat} (h : regionOf a = .buffer) : a < bufferEnd := by
  refine Nat.not_le.mp fun hc => ?_
  rcases regionOf_after hc with hr | hr | hr <;> rw [h] at hr <;> cases hr

theorem sbDie_lt {w : Nat} (h : w < bufferEnd) : sbDie w < 8 := by
  unfold sbDie bufferBase; unfold bufferEnd at h; omega

/-- The partitions of the buffer are numbered below the other units. -/
theorem unitOf_buffer {a : Nat} (h : regionOf a = .buffer) : unitOf a < 2000 := by
  have he := lt_bufferEnd h
  rw [unitOf, h]
  simp only [bufferBase, bufferEnd] at *
  omega

theorem unitOf_after {a : Nat} (h : bufferEnd ≤ a) : 2000 ≤ unitOf a := by
  rcases regionOf_after h with hr | hr | hr <;> simp [unitOf, hr]

/-- A run of bytes that the buffer takes lies in it. -/
theorem bufferRun_end {a len : Nat} (h : bufferRun a len = true) (hl : len ≠ 0) : a + len ≤ bufferEnd := by
  simp only [bufferRun, runInside, Bool.and_eq_true, Bool.or_eq_true, beq_iff_eq, hl, false_or] at h
  obtain ⟨hr, -, hu⟩ := h
  have hlt : unitOf (a + len - 1) < 2000 := hu ▸ unitOf_buffer hr
  refine Nat.not_lt.mp fun hc => ?_
  exact absurd (unitOf_after (show bufferEnd ≤ a + len - 1 by omega)) (Nat.not_le.mpr hlt)

/-! Sound code words. -/

section Clean
variable {s : State} (hs : s.sbClean)
include hs

theorem State.sbSyndrome_of_clean (w : Nat) : s.sbSyndrome w = 0 := by
  rw [State.sbSyndrome, hs.1]; rfl

/-- A sound code word is read as stored, and nothing is counted. -/
theorem State.sbReadWord_of_clean (src w : Nat) :
    s.sbReadWord src w = ((0, readCells ramDefault s.sram w 8), s) := by
  rw [State.sbReadWord, State.sbDecode_of_sound (State.sbSyndrome_of_clean hs w)]; rfl

/-- A code word is stored sound, and nothing else changes. -/
theorem State.sbStore_of_clean {w : Nat} (hw : w < bufferEnd) (data : List Byte) :
    s.sbStore w data = s.withBytes (writeCells ramDefault s.sram w data) s.buffer.valid := by
  have ha : F.SBF_INJECT_ARM.isSet (s.reg (R.SBF_INJECT (sbDie w))) = false := hs.2 ⟨sbDie w, sbDie_lt hw⟩
  have hy : Tab.set (fun _ => 0) s.buffer.syndrome w 0 = s.buffer.syndrome := by rw [hs.1]; rfl
  simp [State.sbStore, State.sbInjection, ha, State.setSyndrome, hy, State.withBytes]

end Clean

@[simp] theorem State.sbVote_quiet (s : State) (src a : Nat) : s.sbVote ⟨[], []⟩ src a = s := rfl

theorem State.foldl_sbVote_quiet (s : State) (src : Nat) (l : List Nat) :
    l.foldl (fun s b => s.sbVote ⟨[], []⟩ src b) s = s := by
  induction l with
  | nil => rfl
  | cons b l ih => rw [List.foldl_cons, State.sbVote_quiet, ih]

/-! The bytes that software sees. -/

theorem State.sbByte_withBytes (s : State) (m : List Host.Cell) (k : Nat) :
    (s.withBytes m s.buffer.valid).sbByte k = if s.sbValid k then Tab.get ramDefault m k else 0#8 := rfl

/-- Bytes laid over the memory in valid blocks are laid over what software sees. -/
theorem State.sbByte_lay {s : State} {m : List Host.Cell} {w : Nat} {data : List (Option Byte)}
    (hm : Tab.get ramDefault m = lay (Tab.get ramDefault s.sram) w data)
    (hv : ∀ k, w ≤ k → k < w + data.length → s.sbValid k = true) :
    (s.withBytes m s.buffer.valid).sbByte = lay s.sbByte w data := by
  funext k
  rw [State.sbByte_withBytes, hm]
  unfold lay State.sbByte
  by_cases hk : w ≤ k ∧ k < w + data.length
  · rw [hv k hk.1 hk.2]; rfl
  · rw [given_out w data k (by omega)]; rfl

/-- An address of an aligned 64-byte block has the block's valid bit (R127). -/
theorem State.sbValid_block (s : State) {b k : Nat} (h : k / 64 = b / 64) : s.sbValid k = s.sbValid b := by
  rw [State.sbValid, h, State.sbValid]

/-- A block made valid is valid, and every other as before. -/
theorem State.sbValid_setValid (s : State) (b k : Nat) :
    (s.setValid b true).sbValid k = (decide (k / 64 = b / 64) || s.sbValid k) := by
  unfold State.sbValid State.setValid
  by_cases h : k / 64 = b / 64
  · simp [h]
  · rw [Tab.get_set_ne _ _ _ (by omega), decide_eq_false h, Bool.false_or]

end Sys2Proof.Machine
end

section
/-!
A write of the shared buffer (R130, R131), from the code word up: a 16-byte word, the units of a run one after another, a
block, a run. At each level the bytes given are laid over what software saw before, so that the units of a run lay the run.
-/
namespace Sys2Proof.Machine

/-- A code word is not disturbed by bytes laid before it. -/
theorem readCells_of_lay {m m' : List Host.Cell} {w : Nat} {l : List (Option Byte)}
    (h : Tab.get ramDefault m' = lay (Tab.get ramDefault m) w l) {b : Nat} (hb : w + l.length ≤ b) (n : Nat) :
    readCells ramDefault m' b n = readCells ramDefault m b n := by
  unfold readCells
  refine List.map_congr_left fun i _ => ?_
  rw [h, lay, given_out w l _ (by omega)]; rfl

/-- Bytes written behind one another are one write. -/
theorem writeCells_writeCells (d : Nat → Byte) (m : List Host.Cell) (a : Nat) (x y : List Byte) :
    writeCells d (writeCells d m a x) (a + x.length) y = writeCells d m a (x ++ y) := by
  induction x generalizing m a with
  | nil => rfl
  | cons b x ih => rw [List.length_cons, Nat.add_comm x.length, ← Nat.add_assoc]; exact ih _ _

section Write
variable {s : State} (hs : s.sbClean)
include hs

/-- A code word that is given whole is stored, and one of which nothing is given stays. -/
theorem State.sbStore_unmixed {w : Nat} (hw : w < bufferEnd) {l : List (Option Byte)}
    (hl : (l.any Option.isSome && l.any Option.isNone) = false) :
    ∃ m, (if l.all Option.isSome then s.sbStore w (l.map fun b => b.getD 0) else s) = s.withBytes m s.buffer.valid ∧
      Tab.get ramDefault m = lay (Tab.get ramDefault s.sram) w l := by
  by_cases ha : l.all Option.isSome = true
  · exact ⟨_, by rw [if_pos ha, State.sbStore_of_clean hs hw], funext fun _ => get_full _ _ _ _ ha⟩
  · have hn : l.any Option.isSome = false := by
      rcases Bool.and_eq_false_iff.mp hl with h | h
      · exact h
      · exact absurd (any_none_iff l h) ha
    exact ⟨s.sram, by rw [if_neg ha]; rfl, funext fun k => (lay_none _ _ _ (any_some_iff l hn) k).symm⟩

/-- A code word that is given in part takes what is given. -/
theorem State.sbStore_merged {w : Nat} (hw : w < bufferEnd) {l : List (Option Byte)} (hl : l.length = 8) :
    ∃ m, s.sbStore w (mergeBytes (readCells ramDefault s.sram w 8) l) = s.withBytes m s.buffer.valid ∧
      Tab.get ramDefault m = lay (Tab.get ramDefault s.sram) w l :=
  ⟨_, State.sbStore_of_clean hs hw _, funext fun _ => get_merge 8 _ _ _ _ hl⟩

/-- A 16-byte word takes the bytes that are given, by a read and a merge where it is given in part. -/
theorem State.sbWriteUnit_of_clean {w : Nat} (hw : w + 16 ≤ bufferEnd) {data : List (Option Byte)}
    (hd : data.length = 16) :
    ∃ m, s.sbWriteUnit w data = (scDONE, s.withBytes m s.buffer.valid) ∧
      Tab.get ramDefault m = lay (Tab.get ramDefault s.sram) w data := by
  have hlo : (data.take 8).length = 8 := by simp [hd]
  have hhi : (data.drop 8).length = 8 := by simp [hd]
  have hw' : w < bufferEnd ∧ w + 8 < bufferEnd := by omega
  have hjoin (f : Nat → Byte) : lay (lay f w (data.take 8)) (w + 8) (data.drop 8) = lay f w data := funext fun k => by
    have := lay_lay f w (data.take 8) (data.drop 8) k
    rwa [hlo, List.take_append_drop] at this
  have hclean (m : List Host.Cell) : (s.withBytes m s.buffer.valid).sbClean := hs
  unfold State.sbWriteUnit
  dsimp only
  split
  next =>
    obtain ⟨m, hm, hg⟩ := State.sbStore_merged hs hw'.1 hlo
    obtain ⟨m', hm', hg'⟩ := State.sbStore_merged (hclean m) hw'.2 hhi
    have hread : readCells ramDefault m (w + 8) 8 = readCells ramDefault s.sram (w + 8) 8 :=
      readCells_of_lay hg (by omega) 8
    refine ⟨m', ?_, hg'.trans ((congrArg (lay · _ _) hg).trans (hjoin _))⟩
    simp only [State.sbReadWord_of_clean hs]
    rw [hm, ← hread]
    exact congrArg (scDONE, ·) hm'
  next hp =>
    simp only [Bool.or_eq_true, not_or, Bool.not_eq_true] at hp
    obtain ⟨m, hm, hg⟩ := State.sbStore_unmixed hs hw'.1 hp.1
    obtain ⟨m', hm', hg'⟩ := State.sbStore_unmixed (hclean m) hw'.2 hp.2
    refine ⟨m', ?_, hg'.trans ((congrArg (lay · _ _) hg).trans (hjoin _))⟩
    rw [hm]
    exact congrArg (scDONE, ·) hm'

end Write

/-! Units one after another. -/

/-- The write of a run of bytes at an address is done: it ends DONE at a state that differs in the buffer's bytes and valid
bits only, where what is given reads as given and every other byte as before. -/
def State.Wrote (s : State) (w : Nat) (data : List (Option Byte)) (r : Nat × State) : Prop :=
  ∃ m v, r = (scDONE, s.withBytes m v) ∧ (s.withBytes m v).sbByte = lay s.sbByte w data

/-- Writes of units, each done while `P` holds and keeping it, one after another. -/
theorem foldl_wrote (P : State → Prop) (op : State → Nat × List (Option Byte) → Nat × State)
    (l : List (Nat × List (Option Byte)))
    (hop : ∀ s, P s → ∀ u ∈ l, s.Wrote u.1 u.2 (op s u) ∧ P (op s u).2) {s : State} (hs : P s) :
    ∃ m v, l.foldl (fun acc u => (worse acc.1 (op acc.2 u).1, (op acc.2 u).2)) (scDONE, s) =
        (scDONE, s.withBytes m v) ∧ (s.withBytes m v).sbByte = l.foldl (fun f u => lay f u.1 u.2) s.sbByte := by
  induction l generalizing s with
  | nil => exact ⟨s.sram, s.buffer.valid, rfl, rfl⟩
  | cons u l ih =>
    obtain ⟨⟨m, v, hr, hb⟩, hP⟩ := hop s hs u List.mem_cons_self
    rw [hr] at hP
    obtain ⟨m', v', hr', hb'⟩ := ih (fun s hs x hx => hop s hs x (List.mem_cons_of_mem _ hx)) hP
    refine ⟨m', v', ?_, ?_⟩
    · rw [List.foldl_cons, hr]; exact hr'
    · rw [List.foldl_cons, ← hb]; exact hb'

/-- The writes of the units of a run write the run. -/
theorem foldl_splitUnits_wrote {n a : Nat} (hn : 0 < n) {data : List (Option Byte)} (P : State → Prop)
    (op : State → Nat × List (Option Byte) → Nat × State)
    (hop : ∀ s, P s → ∀ u ∈ splitUnits n a data, s.Wrote u.1 u.2 (op s u) ∧ P (op s u).2) {s : State} (hs : P s) :
    s.Wrote a data ((splitUnits n a data).foldl (fun acc u => (worse acc.1 (op acc.2 u).1, (op acc.2 u).2)) (scDONE, s)) := by
  obtain ⟨m, v, hr, hb⟩ := foldl_wrote P op _ hop hs
  exact ⟨m, v, hr, hb.trans (funext fun k => lay_split n hn a data s.sbByte k)⟩

/-! A write of a block (R130). -/

section Block
variable {s : State} (hs : s.sbClean) {b : Nat} (hb : b % 64 = 0) (he : b < bufferEnd)
include hs hb he

/-- Words of a block stored one after another are the block's bytes. -/
theorem State.foldl_sbStore {full : List Byte} (hf : full.length = 64) (n : Nat) (hn : n ≤ 8) :
    (List.range n).foldl (fun s i => s.sbStore (b + 8 * i) ((full.drop (8 * i)).take 8)) s =
      s.withBytes (writeCells ramDefault s.sram b (full.take (8 * n))) s.buffer.valid := by
  induction n with
  | zero => rfl
  | succ n ih =>
    have hs' : (s.withBytes (writeCells ramDefault s.sram b (full.take (8 * n))) s.buffer.valid).sbClean := hs
    have hlen : (full.take (8 * n)).length = 8 * n := by rw [List.length_take]; omega
    have happ := writeCells_writeCells ramDefault s.sram b (full.take (8 * n)) ((full.drop (8 * n)).take 8)
    rw [hlen, ← List.take_add] at happ
    rw [List.range_succ, List.foldl_append, ih (by omega), List.foldl_cons, List.foldl_nil,
      State.sbStore_of_clean hs' (by unfold bufferEnd at *; omega), Nat.mul_succ, ← happ]
    rfl

variable {data : List (Option Byte)} (hd : data.length = 64)
include hd

/-- A valid block takes the bytes word by word. -/
theorem State.wrote_of_valid (hv : s.sbValid b = true) :
    s.Wrote b data ((splitUnits 16 b data).foldl (fun acc u =>
      (worse acc.1 (acc.2.sbWriteUnit u.1 u.2).1, (acc.2.sbWriteUnit u.1 u.2).2)) (scDONE, s)) := by
  refine foldl_splitUnits_wrote (by decide) (fun t => t.sbClean ∧ t.sbValid b = true)
    (fun t u => t.sbWriteUnit u.1 u.2) (fun t ⟨ht, htv⟩ u hu => ?_) ⟨hs, hv⟩
  obtain ⟨⟨hu16, hulen, -⟩, hlo, hhi⟩ := (spells 16 (by decide) b data).1 u hu
  obtain ⟨m, hr, hm⟩ := State.sbWriteUnit_of_clean ht (w := u.1) (by unfold bufferEnd at *; omega) hulen
  refine ⟨⟨m, _, hr, State.sbByte_lay hm fun k _ _ => ?_⟩, ?_⟩
  · rw [t.sbValid_block (b := b) (by omega), htv]
  · rw [hr]; exact ⟨ht, htv⟩

/-- A block that is not valid takes 0 where no byte is given, and becomes valid. -/
theorem State.wrote_of_invalid (hv : s.sbValid b = false) :
    s.Wrote b data (scDONE, ((List.range 8).foldl (fun s i =>
      s.sbStore (b + 8 * i) (((data.map fun x => x.getD 0#8).drop (8 * i)).take 8)) s).setValid b true) := by
  have hlen : (data.map fun x => x.getD 0#8).length = 64 := by rw [List.length_map, hd]
  rw [State.foldl_sbStore hs hb he hlen 8 (Nat.le_refl 8), List.take_of_length_le (by omega)]
  generalize hm : writeCells ramDefault s.sram b (data.map fun x => x.getD 0#8) = m
  refine ⟨m, _, rfl, funext fun k => ?_⟩
  have hk : (State.setValid (s.withBytes m s.buffer.valid) b true).sbByte k =
      if decide (k / 64 = b / 64) || s.sbValid k then Tab.get ramDefault m k else 0#8 := by
    rw [State.sbByte, State.sbValid_setValid]; rfl
  refine hk.trans ?_
  unfold lay State.sbByte
  by_cases hin : k / 64 = b / 64
  · have hle : b ≤ k := by omega
    have hi : k - b < data.length := by omega
    rw [← hm, get_write, s.sbValid_block hin, hv]
    simp [given, hin, hle, List.getElem?_eq_getElem hi]
  · rw [given_out b data k (by omega), ← hm, get_writeCells_outside _ _ _ _ _ (by omega)]
    simp only [hin, decide_false, Bool.false_or]
    rfl

theorem State.wrote_sbWriteBlock (hf : s.sbFenced b = false) : s.Wrote b data (s.sbWriteBlock ⟨[], []⟩ b data) := by
  unfold State.sbWriteBlock
  simp only [hf, Bool.false_eq_true, if_false, State.sbVote_quiet, ite_self]
  split
  next hv => exact State.wrote_of_valid hs hb he hd hv
  next hv => exact State.wrote_of_invalid hs hb he hd (Bool.not_eq_true _ ▸ hv)

end Block

/-! The write of a run (R124, R130). -/

theorem State.wrote_sbWrite {s : State} (hs : s.sbClean) {a ctx : Nat} {data : List (Option Byte)}
    (ha : s.sbAbsent a = false) (hadm : s.admits a ctx true = true) (hrun : bufferRun a data.length = true)
    (hf : ∀ b ∈ unitsOf 64 a data.length, s.sbFenced b = false) :
    s.Wrote a data (s.sbWrite a data ctx ⟨[], []⟩) := by
  unfold State.sbWrite
  rw [ha, hadm]
  refine foldl_splitUnits_wrote (by decide)
    (fun t => t.sbClean ∧ ∀ b ∈ unitsOf 64 a data.length, t.sbFenced b = false)
    (fun t u => t.sbWriteBlock ⟨[], []⟩ u.1 u.2) (fun t ⟨ht, htf⟩ u hu => ?_) ⟨hs, hf⟩
  obtain ⟨⟨hu64, hulen, -⟩, hlo, hhi⟩ := (spells 64 (by decide) a data).1 u hu
  have hne : data.length ≠ 0 := fun h0 => by
    rw [List.eq_nil_of_length_eq_zero h0, split_nil] at hu; cases hu
  have hend := bufferRun_end hrun hne
  have hw := State.wrote_sbWriteBlock ht hu64 (by omega) hulen (htf _ (mem_units (by decide) hu64 hlo hhi hne))
  refine ⟨hw, ?_⟩
  obtain ⟨m, v, hr, -⟩ := hw
  rw [hr]; exact ⟨ht, htf⟩

end Sys2Proof.Machine
end

section
/-!
A read of the shared buffer (R128): each 16-byte word gives those of its bytes that lie in the run, and the words of a run
hold its addresses in order.
-/
namespace Sys2Proof.Machine

/-- Of the bytes at consecutive addresses those whose address has a property. -/
theorem filter_zipIdx_range' (f : Nat → Byte) (p : Nat → Bool) (w n j : Nat) :
    (((((List.range' (w + j) n).map f).zipIdx j).filter fun e => p (w + e.2)).map Prod.fst) =
      ((List.range' (w + j) n).filter p).map f := by
  induction n generalizing j with
  | zero => rfl
  | succ n ih =>
    have hih := ih (j + 1)
    rw [← Nat.add_assoc] at hih
    rw [List.range'_succ, List.map_cons, List.zipIdx_cons, List.filter_cons, List.filter_cons]
    split <;> simp [hih]

theorem filter_zipIdx_replicate (p : Nat → Bool) (w n : Nat) (x : Byte) :
    (((List.replicate n x).zipIdx.filter fun e => p (w + e.2)).map Prod.fst) =
      ((List.range' w n).filter p).map fun _ => x := by
  have hx : List.replicate n x = (List.range' (w + 0) n).map fun _ => x := by simp [List.map_const']
  rw [hx, filter_zipIdx_range']; rfl

theorem filter_zipIdx_readCells (p : Nat → Bool) (m : List Host.Cell) (w n : Nat) :
    (((readCells ramDefault m w n).zipIdx.filter fun e => p (w + e.2)).map Prod.fst) =
      ((List.range' w n).filter p).map (Tab.get ramDefault m) := by
  have hx : readCells ramDefault m w n = (List.range' (w + 0) n).map (Tab.get ramDefault m) := by
    rw [readCells, List.range'_eq_map_range, List.map_map]; rfl
  rw [hx, filter_zipIdx_range']; rfl

/-- The addresses of `n` units in a row. -/
theorem flatMap_range'_units (q n : Nat) :
    ((List.range n).map fun i => 16 * (q + i)).flatMap (fun w => List.range' w 16) = List.range' (16 * q) (16 * n) := by
  induction n with
  | zero => rfl
  | succ n ih =>
    rw [List.range_succ, List.map_append, List.flatMap_append, ih, Nat.mul_succ, ← List.range'_append_1]
    simp [Nat.mul_add]

/-- The addresses of a run among those of a longer one. -/
theorem filter_range' (x i len j : Nat) :
    ((List.range' x (i + len + j)).filter fun k => x + i ≤ k && k < x + i + len) = List.range' (x + i) len := by
  have hout (y n : Nat) (h : y + n ≤ x + i ∨ x + i + len ≤ y) :
      ((List.range' y n).filter fun k => x + i ≤ k && k < x + i + len) = [] := by
    simp only [List.filter_eq_nil_iff, List.mem_range'_1, Bool.and_eq_true, decide_eq_true_eq]
    omega
  have hin : ((List.range' (x + i) len).filter fun k => x + i ≤ k && k < x + i + len) = List.range' (x + i) len := by
    simp only [List.filter_eq_self, List.mem_range'_1, Bool.and_eq_true, decide_eq_true_eq]
    omega
  rw [← List.range'_append_1, ← List.range'_append_1, List.filter_append, List.filter_append, hin,
    hout x i (by omega), hout (x + (i + len)) j (by omega), List.nil_append, List.append_nil]

/-- The bytes of a 16-byte word that lie in [lo, hi), as software sees them. -/
theorem State.sbReadUnit_of_clean {s : State} (hs : s.sbClean) (src lo hi : Nat) {w : Nat} (hw : w % 16 = 0)
    (hf : s.sbFenced w = false) :
    s.sbReadUnit src w lo hi =
      (scDONE, ((List.range' w 16).filter fun k => lo ≤ k && k < hi).map s.sbByte, s) := by
  have hbyte (k : Nat) (hk : k ∈ (List.range' w 16).filter fun k => lo ≤ k && k < hi) :
      s.sbByte k = if s.sbValid w then Tab.get ramDefault s.sram k else 0#8 := by
    have hk' := List.mem_range'_1.mp (List.mem_filter.mp hk).1
    rw [State.sbByte, s.sbValid_block (b := w) (by omega)]
  rw [List.map_congr_left hbyte]
  have hzero := filter_zipIdx_replicate (fun k => lo ≤ k && k < hi) w 16 0#8
  have hcells (w : Nat) := filter_zipIdx_readCells (fun k => lo ≤ k && k < hi) s.sram w 8
  unfold State.sbReadUnit
  cases hv : s.sbValid w with
  | false =>
    simp only [hf, hzero, Bool.not_false, if_true, Bool.false_eq_true, if_false]
  | true =>
    rw [show 16 = 8 + 8 from rfl, ← List.range'_append_1, List.filter_append, List.map_append]
    simp only [hf, State.sbReadWord_of_clean hs, hcells, Bool.not_true, Bool.false_eq_true, if_false, if_true]
    rfl

/-- The words of a run hold the run's addresses. -/
theorem flatMap_unitsOf (a len : Nat) :
    (unitsOf 16 a len).flatMap (fun w => (List.range' w 16).filter fun k => a ≤ k && k < a + len) = List.range' a len := by
  by_cases hl : len = 0
  · subst hl; simp [unitsOf]
  · rw [unitsOf, if_neg hl, ← List.filter_flatMap, flatMap_range'_units]
    have h := filter_range' (16 * (a / 16)) (a % 16) len (16 * ((a + len - 1) / 16 - a / 16 + 1) - a % 16 - len)
    rw [Nat.div_add_mod] at h
    rw [← h]
    congr 2
    omega

/-- Reads of units that each end DONE and change nothing give their bytes one after another. -/
theorem foldl_reads {s : State} (op : State → Nat → Nat × List Byte × State) (bytes : Nat → List Byte) (l : List Nat)
    (hop : ∀ w ∈ l, op s w = (scDONE, bytes w, s)) (bs : List Byte) :
    l.foldl (fun acc w => (worse acc.1 (op acc.2.2 w).1, acc.2.1 ++ (op acc.2.2 w).2.1, (op acc.2.2 w).2.2))
      (scDONE, bs, s) = (scDONE, bs ++ l.flatMap bytes, s) := by
  induction l generalizing bs with
  | nil => simp
  | cons w l ih =>
    obtain ⟨hw, hl⟩ := List.forall_mem_cons.mp hop
    rw [List.foldl_cons, hw, List.flatMap_cons, ← List.append_assoc]
    exact ih hl _

theorem State.sbReadData_of_clean {s : State} (hs : s.sbClean) (src : Nat) {a len : Nat} (ha : s.sbAbsent a = false)
    (hf : ∀ w ∈ unitsOf 16 a len, s.sbFenced w = false) :
    s.sbReadData src a len = (scDONE, (List.range len).map fun i => s.sbByte (a + i), s) := by
  have hbytes : (unitsOf 16 a len).flatMap (fun w =>
      ((List.range' w 16).filter fun k => a ≤ k && k < a + len).map s.sbByte) =
      (List.range len).map fun i => s.sbByte (a + i) := by
    rw [← List.map_flatMap, flatMap_unitsOf, List.range'_eq_map_range, List.map_map]; rfl
  unfold State.sbReadData
  rw [ha, ← hbytes]
  exact foldl_reads (fun s w => s.sbReadUnit src w a (a + len)) _ _
    (fun w hw => State.sbReadUnit_of_clean hs src a (a + len) (units_range hw).1 (hf w hw)) []

theorem State.sbRead_of_clean {s : State} (hs : s.sbClean) {a len ctx : Nat} (ha : s.sbAbsent a = false)
    (hadm : s.admits a ctx false = true) (hf : ∀ w ∈ unitsOf 16 a len, s.sbFenced w = false) :
    s.sbRead a len ctx ⟨[], []⟩ = (scDONE, (List.range len).map fun i => s.sbByte (a + i), s) := by
  have hvotes : (unitsOf 64 a len).foldl (fun s b => s.sbVote ⟨[], []⟩ 0 b) (s.sbUpset ⟨[], []⟩) = s :=
    s.foldl_sbVote_quiet 0 _
  unfold State.sbRead
  rw [if_pos (.inr hadm)]
  simp only [hvotes, State.sbReadData_of_clean hs 0 ha hf, true_or, if_true]

/-! The commands around them. -/

/-- Where nothing waits, a command ends with its own effect. -/
theorem Does.exec_eq {i : Instr} {s u : State} (h : Does i s u) (hu : u.calm) (hp : u.pending = s.pending) :
    exec i s = .next u := by
  rw [h.next, calm_settle u hu, ← hp]

/-- While its die clears no partition, a request does not wait (R125). -/
theorem State.holdBuffer_of_idle {s : State} {a : Nat} (h : s.clearing (sbDie a) = false) (i : Instr)
    (act : State → State) : s.holdBuffer a i act = act s :=
  if_neg (by simp [h])

end Sys2Proof.Machine
end

section
/-!
The statements of the shared buffer family, each settled from the lemmas above.
-/
namespace Sys2Proof.SharedBuffer
open Sys2Proof.Machine

/-- Settles O15: a bit's syndrome is the pattern of the equations that take it, and the decoder tells the patterns apart. -/
theorem secDed : Obligations.SecDed :=
  ⟨parity_flip, fun _ _ h => ⟨State.sbDecode_of_sound h, State.sbDecode_sbFlip h, fun _ _ => State.sbDecode_sbFlip_sbFlip h⟩⟩

/-- Settles O18: a write lays its bytes unit by unit over what the buffer holds, and a read goes through the words of its
run; nothing waits, so each command ends with that. -/
theorem bufferBytes : Obligations.BufferBytes := by
  intro s a ctx hcalm hs hclr ha
  refine ⟨fun data hrun hadm hf => ?_, fun len hrun hadm hf => ?_⟩
  · obtain ⟨m, v, hr, hb⟩ := State.wrote_sbWrite hs ha hadm hrun hf
    have hw : s.bufferWrite a.toNat data ctx.toNat ⟨[], []⟩ = (s.withBytes m v).answerBuffer a.toNat scDONE [] := by
      rw [State.bufferWrite, if_pos hrun, hr]
    have hd := does_sbfWrite a data ctx ⟨[], []⟩ ((State.holdBuffer_of_idle hclr _ _).trans hw)
    exact ⟨_, hd.exec_eq hcalm rfl, rfl, congrFun hb⟩
  · have hr : s.bufferRead a.toNat len ctx.toNat ⟨[], []⟩ =
        s.answerBuffer a.toNat scDONE ((List.range len).map fun i => s.sbByte (a.toNat + i)) := by
      rw [State.bufferRead, if_pos hrun, State.sbRead_of_clean hs ha hadm hf]
    exact (does_sbfRead a len ctx ⟨[], []⟩ ((State.holdBuffer_of_idle hclr _ _).trans hr)).exec_eq hcalm rfl

end Sys2Proof.SharedBuffer
end

section
/-!
Runs of bytes that stay within one aligned unit: the one unit that such a run is cut into, what the unit lays over a
memory, and where the run lies in it.
-/
namespace Sys2Proof.Machine

/-- The unit that holds a run: the run's bytes, and none on either side. -/
def unitOfRun (n a : Nat) (data : List (Option Byte)) : List (Option Byte) :=
  (List.replicate (a % n) none ++ data) ++ List.replicate (n - (a % n + data.length)) none

theorem length_unitOfRun {n a : Nat} {data : List (Option Byte)} (h : a % n + data.length ≤ n) :
    (unitOfRun n a data).length = n := by
  simp only [unitOfRun, List.length_append, List.length_replicate]
  omega

/-- A run that gives a byte and stays within one unit is cut into that unit. -/
theorem splitUnits_within {n a : Nat} {data : List (Option Byte)} (h : a % n + data.length ≤ n)
    (hd : data.any Option.isSome = true) : splitUnits n a data = [(a / n * n, unitOfRun n a data)] := by
  obtain ⟨x, hx, hsome⟩ := List.any_eq_true.mp hd
  have hpos : 0 < data.length := List.length_pos_of_mem hx
  have hoff : a - a / n * n = a % n := by rw [Nat.mul_comm, Nat.mod_eq_sub_mul_div]
  have hone : (a % n + data.length + n - 1) / n = 1 := Nat.div_eq_of_lt_le (by omega) (by omega)
  have hgiven : (List.replicate (a % n) none ++ data).all Option.isNone ≠ true := fun hall => by
    have := List.all_eq_true.mp hall x (List.mem_append_right _ hx)
    rw [← Option.not_isSome, hsome] at this
    cases this
  have htake : (List.replicate (a % n) none ++ data).take n = List.replicate (a % n) none ++ data :=
    List.take_of_length_le (by simpa using h)
  simp only [splitUnits, hoff, List.length_append, List.length_replicate, hone, List.range_one, List.filterMap_cons,
    List.filterMap_nil, Nat.mul_zero, List.drop_zero, htake, if_neg hgiven, Nat.add_zero]
  rfl

/-- The bytes on either side of a run in its unit are kept, so the unit lays what the run lays. -/
theorem lay_unitOfRun (n a : Nat) (data : List (Option Byte)) (f : Nat → Byte) (w : Nat) :
    lay f w (unitOfRun n a data) = lay f (w + a % n) data := by
  funext k
  have hnone (f : Nat → Byte) (w j k : Nat) : lay f w (List.replicate j none) k = f k :=
    lay_none f w _ (by simp) k
  have hlead : lay f w (List.replicate (a % n) none) = f := funext (hnone f w _)
  have hrun := lay_lay f w (List.replicate (a % n) none) data
  rw [hlead, List.length_replicate] at hrun
  rw [unitOfRun, ← lay_lay, hnone, ← hrun]

/-- A run of bytes within one unit touches that unit. -/
theorem unitsOf_within {n a len : Nat} (hl : 0 < len) (h : a % n + len ≤ n) : unitsOf n a len = [n * (a / n)] := by
  have hdiv : (a + len - 1) / n = a / n := by
    have hdm := Nat.div_add_mod a n
    rw [Nat.mul_comm] at hdm
    exact Nat.div_eq_of_lt_le (by omega) (by rw [Nat.add_mul]; omega)
  simp [unitsOf, hdiv, Nat.ne_of_gt hl]

/-- The bytes of a run, out of those of a longer one. -/
theorem take_drop_readCells (d : Nat → Byte) (m : List Host.Cell) (w : Nat) {n i len : Nat} (h : i + len ≤ n) :
    ((readCells d m w n).drop i).take len = readCells d m (w + i) len := by
  apply List.ext_getElem
  · simp only [readCells, List.length_take, List.length_drop, List.length_map, List.length_range]
    omega
  · intro j _ _
    simp [readCells, Nat.add_assoc]

end Sys2Proof.Machine
end

section
/-!
The rows of the stacks where nothing stored is in error (R154, R156): opening a row and marking its check sectors changes
the stacks' state beside their bytes and may send refresh-management commands (R162), and nothing else:
`State.withRows`.
-/
namespace Sys2Proof.Machine

/-- The state with the stacks' state beside their bytes, and what has left, replaced. -/
def State.withRows (s : State) (st : StackState) (o : List Out) : State := { s with stackState := st, out := o }

/-- Every stored block and row tag is free of errors, and no open row's tag failed. -/
def StackState.Sound (st : StackState) : Prop :=
  st.syndrome = [] ∧ st.tag = [] ∧ ∀ k r, Tab.get (fun _ => none) st.openRows k = some r → r.bad = false

/-- No controller has an injection armed (R172). -/
def State.Unarmed (s : State) : Prop := ∀ m : Fin 24, F.STK_INJECT_ARM.isSet (s.reg (R.STK_INJECT m)) = false

theorem State.stkClean_iff (s : State) : s.stkClean ↔ s.stackState.Sound ∧ s.Unarmed := by
  simp only [State.stkClean, StackState.Sound, State.Unarmed, and_assoc]

section Sound
variable {s : State} (hs : s.stackState.Sound)
include hs

theorem State.rowBad_of_sound (p : RowPlace) : s.rowBad p = false := by
  unfold State.rowBad
  cases h : s.openRow p with
  | none => rfl
  | some r => exact hs.2.2 _ r h

/-- A row whose tag did not fail may be open in a bank. -/
theorem State.sound_setOpenRow (p : RowPlace) {r : OpenRow} (hr : r.bad = false) :
    (s.setOpenRow p (some r)).stackState.Sound := by
  refine ⟨hs.1, hs.2.1, fun k x hx => ?_⟩
  by_cases hk : k = p.bankKey
  · subst hk
    rw [State.setOpenRow, Tab.get_set_self, Option.some.injEq] at hx
    exact hx ▸ hr
  · rw [State.setOpenRow, Tab.get_set_ne _ _ _ hk] at hx
    exact hs.2.2 k x hx

theorem State.countActivation_of_sound (p : RowPlace) :
    ∃ st o, s.countActivation p = s.withRows st o ∧ st.Sound := by
  unfold State.countActivation
  dsimp only
  split
  · exact ⟨_, _, rfl, hs⟩
  · exact ⟨_, _, rfl, hs⟩

/-- The tag of a row that is activated is right. -/
theorem State.activate_of_sound (p : RowPlace) (src : Nat) : ∃ st o, s.activate p src = s.withRows st o ∧ st.Sound := by
  obtain ⟨st, o, hc, hst⟩ := State.countActivation_of_sound hs p
  have htag : Tab.get (fun _ => 0) s.stackState.tag p.groupKey = 0 := by rw [hs.2.1]; rfl
  simp only [State.activate, htag, ne_eq, not_true, decide_false, Bool.false_eq_true, if_false, hc]
  exact ⟨_, _, rfl, State.sound_setOpenRow (s := s.withRows st o) hst p rfl⟩

theorem State.openFor_of_sound (p : RowPlace) (src : Nat) : ∃ st o, s.openFor p src = s.withRows st o ∧ st.Sound := by
  unfold State.openFor
  dsimp only
  generalize hu : ({ s with stackState := { s.stackState with failures := _ } } : State) = u
  have hsound : u.stackState.Sound := by subst hu; exact hs
  have hact : ∃ st o, u.activate p src = s.withRows st o ∧ st.Sound := by
    obtain ⟨st, o, ha, hst⟩ := State.activate_of_sound hsound p src
    exact ⟨st, o, by rw [ha, ← hu]; rfl, hst⟩
  split
  · split
    · exact ⟨u.stackState, s.out, by rw [← hu]; rfl, hsound⟩
    · exact hact
  · exact hact

theorem State.dirty_of_sound (p : RowPlace) : ∃ st, s.dirty p = s.withRows st s.out ∧ st.Sound := by
  unfold State.dirty
  cases h : s.openRow p with
  | none => exact ⟨_, rfl, hs⟩
  | some r =>
    have hr : r.bad = false := hs.2.2 _ r h
    exact ⟨_, rfl, State.sound_setOpenRow hs p (by split <;> exact hr)⟩

/-- A block without errors is decoded as stored (R153). -/
theorem State.stkDecode_of_sound (key : Nat) : s.stkDecode key = (0, readCells ramDefault s.dram (64 * key) 64, 0) := by
  have hn : s.stkSyndrome key = 0 := by rw [State.stkSyndrome, hs.1]; rfl
  rw [State.stkDecode, hn]
  rfl

/-- A block that is not fenced and free of errors is read as stored (R153, R155). -/
theorem State.stkReadBlock_of_sound {key : Nat} (src : Nat)
    (hf : s.pcFenced (s.blockPlace key).m (s.blockPlace key).pc = false) :
    ∃ st o, s.stkReadBlock key src = (scDONE, readCells ramDefault s.dram (64 * key) 64, s.withRows st o) ∧
      st.Sound := by
  obtain ⟨st, o, ho, hst⟩ := State.openFor_of_sound hs (s.blockPlace key) src
  have hbad := State.rowBad_of_sound (s := s.withRows st o) hst (s.blockPlace key)
  have hdec := State.stkDecode_of_sound (s := s.withRows st o) hst key
  refine ⟨st, o, ?_, hst⟩
  simp only [State.stkReadBlock, hf, Bool.false_eq_true, if_false, ho, hbad, hdec]
  rfl

/-- Where nothing is armed, a block is stored with the check symbols of its bytes (R156). -/
theorem State.stkStore_of_sound (hu : s.Unarmed) {key : Nat} (hm : (s.blockPlace key).m < 24) (bytes : List Byte) :
    ∃ st, s.stkStore key bytes =
      { s.withRows st s.out with dram := writeCells ramDefault s.dram (64 * key) bytes } ∧ st.Sound := by
  have harm : F.STK_INJECT_ARM.isSet (s.reg (R.STK_INJECT (s.blockPlace key).m)) = false := hu ⟨_, hm⟩
  generalize hv : State.setStkSyndrome
    { s with dram := writeCells ramDefault s.dram (64 * key) bytes } key 0 = v
  have hvs : v.stackState.Sound := by
    subst hv
    have hsyn : Tab.set (fun _ => 0) s.stackState.syndrome key 0 = [] := by rw [hs.1]; rfl
    exact ⟨hsyn, hs.2⟩
  obtain ⟨st, hd, hst⟩ := State.dirty_of_sound hvs (s.blockPlace key)
  refine ⟨st, ?_, hst⟩
  simp only [State.stkStore, harm, Bool.false_and, Bool.false_eq_true, if_false, hv, hd]
  rw [← hv]
  rfl

end Sound

end Sys2Proof.Machine
end

section
/-!
A block of a stack under an access that meets no error. The access is charged first (R342), which touches no register of a
die; then the block is read (R155), written whole (R157), or read, merged and written (R159). What it leaves is
`State.served`.
-/
namespace Sys2Proof.Machine

/-- The state after an access was charged: the stacks' bytes, what else the stacks hold, and what has left replaced. -/
def State.served (s : State) (m cls n : Nat) (d : List Host.Cell) (st : StackState) (o : List Out) : State :=
  { (s.rglCharge m cls n).withRows st o with dram := d }

section Charge
variable (s : State) {m cls : Nat} (hm : m < 24) (hc : cls < 16) (n : Nat)

/-- A charge changes the byte count of its class on its stack, and no other register (R357). -/
theorem State.reg_rglCharge_ne {off : Nat} (h : off ≠ R.RGL_CNT m cls) :
    (s.rglCharge m cls n).reg off = s.reg off := by
  unfold State.rglCharge
  dsimp only
  exact State.reg_setReg_ne _ _ h

include hm hc

theorem State.reg_rglCharge_die {off : Nat} (h : 0x1000000 ≤ off) : (s.rglCharge m cls n).reg off = s.reg off :=
  s.reg_rglCharge_ne n (by unfold R.RGL_CNT; omega)

theorem State.blockPlace_rglCharge (key : Nat) : (s.rglCharge m cls n).blockPlace key = s.blockPlace key := by
  have hmask : (s.rglCharge m cls n).reg (R.STK_PC_MASK (key / 2 ^ 34)) = s.reg (R.STK_PC_MASK (key / 2 ^ 34)) :=
    s.reg_rglCharge_die hm hc n (by unfold R.STK_PC_MASK; omega)
  simp only [State.blockPlace, State.rowPlace, State.placedPcs, hmask]

theorem State.pcFenced_rglCharge (m' pc : Nat) : (s.rglCharge m cls n).pcFenced m' pc = s.pcFenced m' pc := by
  rw [State.pcFenced, State.fld, s.reg_rglCharge_die hm hc n (by unfold R.STK_PC; omega)]
  rfl

theorem State.unarmed_rglCharge (hu : s.Unarmed) : (s.rglCharge m cls n).Unarmed := fun m' => by
  rw [s.reg_rglCharge_die hm hc n (by unfold R.STK_INJECT; omega)]
  exact hu m'

/-- Where nothing waits, nothing waits after an access. -/
theorem State.calm_served (hs : s.calm) (d : List Host.Cell) (st : StackState) (o : List Out) :
    (s.served m cls n d st o).calm := by
  obtain ⟨howed, hsites, hstate⟩ := hs
  have htop : (s.served m cls n d st o).topState = s.topState :=
    congrArg (fun w => Reg.bits w F.TOP_STATE_STATE.hi F.TOP_STATE_STATE.lo)
      (s.reg_rglCharge_ne n (by unfold R.TOP_STATE R.RGL_CNT; omega))
  exact ⟨howed, hsites, by rwa [htop]⟩

end Charge

section Block
variable {s : State} (hs : s.stkClean) {key cls : Nat} (hm : (s.blockPlace key).m < 24) (hc : cls < 16)
  (hf : s.pcFenced (s.blockPlace key).m (s.blockPlace key).pc = false)
include hs hm hc hf

/-- A charged read of a block. -/
theorem State.stkReadBlock_of_clean (n src : Nat) :
    ∃ st o, (s.rglCharge (s.blockPlace key).m cls n).stkReadBlock key src =
      (scDONE, readCells ramDefault s.dram (64 * key) 64, s.served (s.blockPlace key).m cls n s.dram st o) ∧
      st.Sound := by
  obtain ⟨hsound, -⟩ := s.stkClean_iff.mp hs
  refine State.stkReadBlock_of_sound (s := s.rglCharge (s.blockPlace key).m cls n) hsound src ?_
  rw [s.blockPlace_rglCharge hm hc, s.pcFenced_rglCharge hm hc, hf]

omit hf in
/-- A store of a block after its charge. -/
theorem State.stkStore_served (n : Nat) {st : StackState} (hst : st.Sound) (o : List Out) (bytes : List Byte) :
    ∃ st', (s.served (s.blockPlace key).m cls n s.dram st o).stkStore key bytes =
      s.served (s.blockPlace key).m cls n (writeCells ramDefault s.dram (64 * key) bytes) st' o := by
  obtain ⟨-, hu⟩ := s.stkClean_iff.mp hs
  have hp : (s.served (s.blockPlace key).m cls n s.dram st o).blockPlace key = s.blockPlace key :=
    s.blockPlace_rglCharge hm hc n key
  obtain ⟨st', hstore, -⟩ := State.stkStore_of_sound (s := s.served (s.blockPlace key).m cls n s.dram st o) hst
    (s.unarmed_rglCharge hm hc n hu) (by rw [hp]; exact hm) bytes
  exact ⟨st', hstore⟩

/-- A block takes the bytes that are given and keeps the others (R157, R159). -/
theorem State.stkWriteBlock_of_clean {data : List (Option Byte)} (hd : data.length = 64) :
    ∃ n d st o, s.stkWriteBlock key cls data = (scDONE, s.served (s.blockPlace key).m cls n d st o) ∧
      Tab.get ramDefault d = lay (Tab.get ramDefault s.dram) (64 * key) data := by
  unfold State.stkWriteBlock
  simp only [hf, Bool.false_eq_true, if_false]
  split
  next hall =>
    obtain ⟨hsound, -⟩ := s.stkClean_iff.mp hs
    obtain ⟨st, o, ho, hst⟩ :=
      State.openFor_of_sound (s := s.rglCharge (s.blockPlace key).m cls 64) hsound (s.blockPlace key) 4
    obtain ⟨st', hstore⟩ := State.stkStore_served hs hm hc 64 hst o (data.map fun b => b.getD 0#8)
    refine ⟨64, _, st', o, ?_, funext fun k => get_full _ _ k _ hall⟩
    rw [ho, State.rowBad_of_sound hst]
    exact congrArg (scDONE, ·) hstore
  next =>
    obtain ⟨st, o, hread, hst⟩ := State.stkReadBlock_of_clean hs hm hc hf 384 1
    obtain ⟨st', hstore⟩ := State.stkStore_served hs hm hc 384 hst o
      (mergeBytes (readCells ramDefault s.dram (64 * key) 64) data)
    refine ⟨384, _, st', o, ?_, funext fun k => get_merge 64 _ _ k _ hd⟩
    rw [hread]
    exact congrArg (scDONE, ·) hstore

end Block

/-! What an access within one block leaves. -/

section Served
variable {s : State} {m cls n : Nat} {d : List Host.Cell} {st : StackState} {o : List Out}

theorem State.answerStack_served (a c : Nat) (bs : List Byte) :
    (s.served m cls n d st o).answerStack a c bs = s.served m cls n d st (.answer (.stack a) c bs :: o) := rfl

theorem State.reg_served_ne {off : Nat} (h : off ≠ R.RGL_CNT m cls) : (s.served m cls n d st o).reg off = s.reg off :=
  s.reg_rglCharge_ne n h

theorem State.out_served : (s.served m cls n d st o).out = o := rfl

theorem State.pending_served : (s.served m cls n d st o).pending = s.pending := rfl

/-- Only the stacks, the regulation and the registers can differ, and what has left. -/
theorem State.served_frame {t : State} (ht : s.served m cls n d st o = t) :
    t = { s with dram := t.dram, regs := t.regs, rgl := t.rgl, stackState := t.stackState, out := t.out } := by
  subst ht; rfl

/-- Where the stacks' bytes stay, so do they. -/
theorem State.served_frame_of_read {t : State} (ht : s.served m cls n s.dram st o = t) :
    t = { s with regs := t.regs, rgl := t.rgl, stackState := t.stackState, out := t.out } := by
  subst ht; rfl

end Served

/-! Accesses within one block. -/

/-- The block's key is that of its first byte (R59, R148). -/
theorem State.stackKey_block (s : State) (a : Nat) : s.stackKey (a / 64 * 64) = s.stackKey a := by
  have hframe : a / 64 * 64 / 2 ^ 31 = a / 2 ^ 31 := by omega
  have hchunk : a / 64 * 64 % 2 ^ 31 / 2 ^ 11 = a % 2 ^ 31 / 2 ^ 11 := by omega
  have hblock : a / 64 * 64 % 2 ^ 31 / 64 = a % 2 ^ 31 / 64 := by omega
  simp only [State.stackKey, State.stackOf, hframe, hchunk, hblock]

@[simp] theorem worse_self (c : Nat) : worse c c = c := ite_self c

@[simp] theorem State.stkUpset_quiet (s : State) (m : Nat) : s.stkUpset ⟨[], [], 0⟩ m = s := rfl

section Access
variable {s : State} (hs : s.stkClean) {a ctx cls : Nat} (ha : s.frameAbsent a = false) (hc : cls < 16)
  (hm : (s.blockPlace (s.stackKey a)).m < 24)
  (hf : s.pcFenced (s.blockPlace (s.stackKey a)).m (s.blockPlace (s.stackKey a)).pc = false)
include hs ha hc hm hf

theorem State.stackWrite_of_clean {data : List (Option Byte)} (hrun : stackRun a data.length = true)
    (hin : a % 64 + data.length ≤ 64) (hd : data.any Option.isSome = true) (hadm : s.admits a ctx true = true) :
    ∃ n d st o, s.stackWrite a data ctx cls ⟨[], [], 0⟩ =
        s.served (s.blockPlace (s.stackKey a)).m cls n d st (.answer (.stack a) scDONE [] :: o) ∧
      Tab.get ramDefault d = lay (Tab.get ramDefault s.dram) (64 * s.stackKey a + a % 64) data := by
  obtain ⟨n, d, st, o, hw, hb⟩ := State.stkWriteBlock_of_clean hs hm hc hf (length_unitOfRun hin)
  refine ⟨n, d, st, o, ?_, hb.trans (lay_unitOfRun 64 a data _ _)⟩
  simp only [State.stackWrite, hrun, if_true, State.stkWrite, ha, hadm, State.stkWriteData, State.stkUpset_quiet,
    splitUnits_within hin hd, List.foldl_cons, List.foldl_nil, s.stackKey_block, hw, Bool.not_true, Bool.false_eq_true,
    or_self, if_false, worse_self, State.answerStack_served]

theorem State.stkRead_of_clean {len : Nat} (hl : 0 < len) (hin : a % 64 + len ≤ 64)
    (hadm : s.admits a ctx false = true) :
    ∃ n st o, s.stkRead a len (some ctx) cls ⟨[], [], 0⟩ =
      (scDONE, readCells ramDefault s.dram (64 * s.stackKey a + a % 64) len,
        s.served (s.blockPlace (s.stackKey a)).m cls n s.dram st o) := by
  obtain ⟨st, o, hr, -⟩ := State.stkReadBlock_of_clean hs hm hc hf 64 0
  have hlo : max a (a / 64 * 64) = a := by omega
  have hoff : a - a / 64 * 64 = a % 64 := by omega
  have hlen : min (a + len) (a / 64 * 64 + 64) - a = len := by omega
  refine ⟨64, st, o, ?_⟩
  simp only [State.stkRead, ha, hadm, State.stkUpset_quiet, State.stkReadData, unitsOf_within hl hin,
    Nat.mul_comm 64 (a / 64), List.foldl_cons, List.foldl_nil, s.stackKey_block, hf, hr, hlo, hoff, hlen,
    take_drop_readCells _ _ _ hin, Bool.not_true, Bool.false_eq_true, or_self, if_false, true_or, if_true, worse_self,
    List.nil_append]

theorem State.stackRead_of_clean {len : Nat} (hrun : stackRun a len = true) (hl : 0 < len) (hin : a % 64 + len ≤ 64)
    (hadm : s.admits a ctx false = true) :
    ∃ n st o, s.stackRead a len ctx cls ⟨[], [], 0⟩ =
      s.served (s.blockPlace (s.stackKey a)).m cls n s.dram st
        (.answer (.stack a) scDONE (readCells ramDefault s.dram (64 * s.stackKey a + a % 64) len) :: o) := by
  obtain ⟨n, st, o, hr⟩ := State.stkRead_of_clean hs ha hc hm hf hl hin hadm
  refine ⟨n, st, o, ?_⟩
  rw [State.stackRead, if_pos hrun, hr]
  exact State.answerStack_served _ _ _

end Access

end Sys2Proof.Machine
end

section
/-!
The statement of the stack controllers family, settled from the lemmas above.
-/
namespace Sys2Proof.StackControllers
open Sys2Proof.Machine

/-- Settles O19: the one unit that the run is cut into lays the bytes given at the block's place, and a read takes the run
out of the block; nothing waits, so each command ends with that. -/
theorem stackBytes : Obligations.StackBytes := by
  intro s a ctx cls hcalm hs ha p hm hf
  refine ⟨fun data hrun hin hd hadm => ?_, fun len hrun hl hin hadm => ?_⟩
  · obtain ⟨n, d, st, o, hw, hb⟩ := State.stackWrite_of_clean hs ha cls.isLt hm hf hrun hin hd hadm
    have hcalm' := s.calm_served hm cls.isLt n hcalm d st (.answer (.stack a.toNat) scDONE [] :: o)
    refine ⟨_, (does_stkPartialWrite a data ctx cls _ hw).exec_eq hcalm' State.pending_served, congrFun hb,
      fun _ => State.reg_served_ne, congrArg List.head? State.out_served, State.served_frame rfl, ?_⟩
    rintro whole rfl
    exact (does_stkWrite a whole ctx cls _ hw).exec_eq hcalm' State.pending_served
  · obtain ⟨n, st, o, hr⟩ := State.stackRead_of_clean hs ha cls.isLt hm hf hrun hl hin hadm
    exact ⟨_, (does_stkRead a len ctx cls _ hr).exec_eq (s.calm_served hm cls.isLt n hcalm _ _ _) State.pending_served,
      congrArg List.head? State.out_served, fun _ => State.reg_served_ne, State.served_frame_of_read rfl⟩

end Sys2Proof.StackControllers
end

section
/-!
A post of a token by the rows of the table in R248, and the two commands of DSP_TOK_CMD (R263).
-/
namespace Sys2Proof.Machine

section Token

variable {s : State} {d i g : Nat} {v : Word}

theorem State.tokPost_of_awaited (hg : s.fld (R.DSP_TOK d i) F.DSP_TOK_GEN = g)
    (hp : s.flag (R.DSP_TOK d i) F.DSP_TOK_PRESENT = false) :
    s.tokPost d i g =
      (s.setFld (R.DSP_TOK d i) F.DSP_TOK_PRESENT 1).bump (R.DSP_TOK_CNT d) F.DSP_TOK_CNT_POSTS := by
  simp only [State.tokPost, hg, hp, if_true, Bool.false_eq_true, if_false]

theorem State.tokPost_of_present (hg : s.fld (R.DSP_TOK d i) F.DSP_TOK_GEN = g)
    (hp : s.flag (R.DSP_TOK d i) F.DSP_TOK_PRESENT = true) :
    s.tokPost d i g = s.bump (R.DSP_TOK_CNT d) F.DSP_TOK_CNT_DUP := by
  simp only [State.tokPost, hg, hp, if_true]

/-- The generation before `g` is not `g` itself, so the row for it is reached. -/
theorem State.tokPost_of_previous (hg : s.fld (R.DSP_TOK d i) F.DSP_TOK_GEN = (g + 15) % 16) :
    s.tokPost d i g = (s.setTok d i g 1).bump (R.DSP_TOK_CNT d) F.DSP_TOK_CNT_POSTS := by
  have hne : (g + 15) % 16 ≠ g := by omega
  simp only [State.tokPost, hg, hne, if_true, if_false]

theorem State.tokPost_of_stale (hg : s.fld (R.DSP_TOK d i) F.DSP_TOK_GEN ≠ g)
    (hp : s.fld (R.DSP_TOK d i) F.DSP_TOK_GEN ≠ (g + 15) % 16) :
    s.tokPost d i g = (s.bump (R.DSP_TOK_CNT d) F.DSP_TOK_CNT_STALE).raise (545 + 8 * d) := by
  simp only [State.tokPost, hg, hp, if_false]

theorem State.tokClear_of_clear (h : F.DSP_TOK_CMD_CMD.of v = 1) :
    s.tokClear d v = s.setFld (R.DSP_TOK d (F.DSP_TOK_CMD_INDEX.of v)) F.DSP_TOK_PRESENT 0 := if_pos h

theorem State.tokSet_of_set (h : F.DSP_TOK_CMD_CMD.of v = 2) :
    s.tokSet d v = s.setTok d (F.DSP_TOK_CMD_INDEX.of v) (F.DSP_TOK_CMD_GEN.of v) (F.DSP_TOK_CMD_PRESENT.of v) :=
  if_pos h

end Token

end Sys2Proof.Machine
end

section
/-!
How an engine issues. What its next word is decides whether a command acts, stops the job or does nothing (R237, R294,
R296), and the checks of a word decide for what reason the job stops (R253).
-/
namespace Sys2Proof.Machine

section Checks

variable {s : State} {n r : Nat} {checks : List (Nat × Bool)} {act : State → State}

/-- From a check that fails on, the reason found is the least of it and of those that fail after it. -/
theorem failing_cons_failed (r : Nat) :
    ∀ l : List (Nat × Bool), failing ((r, true) :: l) = (r :: (l.filter Prod.snd).map Prod.fst).min?
  | [] => rfl
  | (q, true) :: l => failing_cons_failed (min r q) l
  | (_, false) :: l => failing_cons_failed r l

/-- The reason found is the least of the checks that fail (R253). -/
theorem failing_eq_min? : ∀ l : List (Nat × Bool), failing l = ((l.filter Prod.snd).map Prod.fst).min?
  | [] => rfl
  | (r, true) :: l => failing_cons_failed r l
  | (_, false) :: l => failing_eq_min? l

theorem failing_eq_some_iff :
    failing checks = some r ↔ (r, true) ∈ checks ∧ ∀ c ∈ checks, c.2 = true → r ≤ c.1 := by
  rw [failing_eq_min?, List.min?_eq_some_iff]
  simp

theorem failing_eq_none_iff : failing checks = none ↔ ∀ c ∈ checks, c.2 = false := by
  rw [failing_eq_min?, List.min?_eq_none_iff]
  simp

theorem State.guarded_of_failing (h : failing checks = some r) : s.guarded n checks act = s.stopReason n r := by
  rw [State.guarded, h]

theorem State.guarded_of_passed (h : ∀ c ∈ checks, c.2 = false) : s.guarded n checks act = act s := by
  rw [State.guarded, failing_eq_none_iff.2 h]

end Checks

section Issue

variable {s : State} {n w : Nat} {key key' : Nat × Nat} {act : State → Nat → State}

theorem State.issue_of_idle (h : s.issues n = false) : s.issue n key act = s :=
  if_neg (by simp [h])

theorem State.issue_of_pastCode (h : s.issues n = true) (hc : (s.engine n).code.length ≤ (s.engine n).pc) :
    s.issue n key act = s.stopReason n jrINSTRUCTION := by
  rw [State.issue, if_pos h, List.getElem?_eq_none hc]

theorem State.issue_of_unknown (h : s.issues n = true) (hw : (s.engine n).code[(s.engine n).pc]? = some w)
    (hk : knownOpcode w = false) : s.issue n key act = s.stopReason n jrINSTRUCTION := by
  simp [State.issue, h, hw, hk]

theorem State.issue_of_known (h : s.issuesWord n w key') :
    s.issue n key act = if key' = key then act s w else s := by
  obtain ⟨hi, hw, hk, hr⟩ := h
  simp [State.issue, hi, hw, hk, hr]

theorem State.issue_of_word (h : s.issuesWord n w key) : s.issue n key act = act s w :=
  (State.issue_of_known h).trans (if_pos rfl)

theorem State.issue_of_other (h : s.issuesWord n w key') (hne : key' ≠ key) : s.issue n key act = s :=
  (State.issue_of_known h).trans (if_neg hne)

end Issue

section Tile

variable {s : State} {n w op r : Nat} {key : Nat × Nat} {checks : EngineState → Nat → List (Nat × Bool)}
  {act : EngineState → Nat → State → State}

theorem State.tileOp_of_failing (h : s.issuesWord n w (op, 0))
    (hf : failing (tileChecks (s.engine n) w ++ checks (s.engine n) w) = some r) :
    s.tileOp n op checks act = s.stopReason n r :=
  (State.issue_of_word h).trans (State.guarded_of_failing hf)

theorem State.tileOp_of_other (h : s.issuesWord n w key) (hne : key ≠ (op, 0)) : s.tileOp n op checks act = s :=
  State.issue_of_other h hne

end Tile

theorem tileChecks_zeroDim {e : EngineState} {w : Nat} (h : e.rowCount = 0 ∨ tN w = 0) :
    (jrZERO_DIM, true) ∈ tileChecks e w := by
  simp [tileChecks, h]

theorem tileChecks_rowsBeyond {e : EngineState} {w : Nat} (h : 96 < e.rowBase + e.rowCount) :
    (jrINSTRUCTION, true) ∈ tileChecks e w := by
  simp [tileChecks, h]

theorem State.stopJob_of_jobAt {s : State} {n k c detail : Nat} {j : Job} (h : s.jobAt n = some (k, j)) :
    s.stopJob n c detail =
      ((s.setEngine n { s.engine n with live := false, taken := none, aim := none }).dropSends n).setJob k
        { j.note c detail with phase := .finished } := by
  rw [State.stopJob, h]

end Sys2Proof.Machine
end

section
/-!
The rows of the opcode table by what their commands share: each issues an engine's next instruction, and those of format T
make the checks of R317 and R318 before their own.
-/
namespace Sys2Proof.Machine

/-- The commands of the scalar, control and stream instructions (R299 to R314). -/
def plainRows (n : Fin 16) (hit : ScratchHit) : List Instr :=
  [.add n, .sub n, .mul n, .andOp n, .orOp n, .xorOp n, .sll n, .srl n, .sra n, .minOp n, .maxOp n, .addi n, .li n,
    .lui n, .nop n, .endOp n, .br n, .loop n, .waitbeat n, .waittokScoreboard n, .waittokRing n, .posttokScoreboard n,
    .posttokRing n, .rds n, .wrs n, .ldx n hit, .stx n, .gcfgLevel n, .gcfgOffset n, .gcfgRowstride n, .gcfgRun n,
    .gcfgIndirect n hit, .sopen n, .sclose n]

/-- The commands of format T, with their opcodes and their own checks (R315 to R330). -/
def tileRows (n : Fin 16) (hit : ScratchHit) : List (Instr × Nat × (EngineState → Nat → List (Nat × Bool))) :=
  [(.ldt n hit, 0x30, ldtChecks), (.stt n, 0x31, sttChecks), (.mma n hit, 0x32, mmaChecks), (.vma n hit, 0x33, vmaChecks),
    (.ewMov n, 0x34, ewChecks formB), (.ewAdd n, 0x35, ewChecks formAB), (.ewSub n, 0x36, ewChecks formAB),
    (.ewMul n, 0x37, ewChecks formAB), (.ewFma n, 0x38, ewChecks formABD), (.ewMax n, 0x39, ewChecks formAB),
    (.ewMin n, 0x3A, ewChecks formAB), (.ewAbs n, 0x3B, ewChecks formA), (.ewNeg n, 0x3C, ewChecks formA),
    (.ewRcp n, 0x3D, ewChecks formA), (.ewRsqrt n, 0x3E, ewChecks formA), (.exp2 n, 0x3F, ewChecks formA),
    (.scale n, 0x40, ewChecks formAB), (.rmax n, 0x41, rmaxChecks), (.redSum n hit, 0x42, redChecks),
    (.redMax n hit, 0x43, redChecks), (.redMin n hit, 0x44, redChecks), (.cvt n, 0x48, cvtChecks),
    (.pack n, 0x49, packChecks), (.unpack n, 0x4A, unpackChecks), (.topk n, 0x50, topkChecks),
    (.gath n hit, 0x51, gathChecks)]

/-- The commands of the ring instructions and of FENCE (R331 to R334). -/
def ringRows (n : Fin 16) : List Instr := [.send n, .recv n, .rred n, .fence n]

/-- The command has the effect of issuing engine n's next instruction, where that is of the command's row. -/
def IssuesAt (s : State) (n : Nat) (i : Instr) : Prop := ∃ key act, Does i s (s.issue n key act)

/-- The command has the effect of issuing engine n's next instruction, where that is of format T with this opcode, and of
making these checks. -/
def TilesAt (s : State) (n op : Nat) (checks : EngineState → Nat → List (Nat × Bool)) (i : Instr) : Prop :=
  ∃ act, Does i s (s.tileOp n op checks act)

section Shared

variable {s : State} {n op w r : Nat} {key : Nat × Nat} {checks : EngineState → Nat → List (Nat × Bool)} {hit : ScratchHit}
  {i : Instr}

/-- A command of an engine that does not issue has no effect (R237). -/
theorem IssuesAt.does_of_idle (hi : IssuesAt s n i) (h : s.issues n = false) : Does i s s := by
  obtain ⟨key, act, hd⟩ := hi
  rwa [State.issue_of_idle h] at hd

/-- Past the program's end any command stops the job (R294). -/
theorem IssuesAt.does_of_pastCode (hi : IssuesAt s n i) (h : s.issues n = true)
    (hc : (s.engine n).code.length ≤ (s.engine n).pc) : Does i s (s.stopReason n jrINSTRUCTION) := by
  obtain ⟨key, act, hd⟩ := hi
  rwa [State.issue_of_pastCode h hc] at hd

/-- At a reserved opcode any command stops the job (R296). -/
theorem IssuesAt.does_of_unknown (hi : IssuesAt s n i) (h : s.issues n = true)
    (hw : (s.engine n).code[(s.engine n).pc]? = some w) (hk : knownOpcode w = false) :
    Does i s (s.stopReason n jrINSTRUCTION) := by
  obtain ⟨key, act, hd⟩ := hi
  rwa [State.issue_of_unknown h hw hk] at hd

/-- A word of format T that fails a check stops the job with the reason found, and does nothing else (R253, R338). -/
theorem TilesAt.does_of_failing (hi : TilesAt s n op checks i) (hw : s.issuesWord n w (op, 0))
    (hf : failing (tileChecks (s.engine n) w ++ checks (s.engine n) w) = some r) : Does i s (s.stopReason n r) := by
  obtain ⟨act, hd⟩ := hi
  rwa [State.tileOp_of_failing hw hf] at hd

/-- A command of format T has no effect at a word of another row. -/
theorem TilesAt.does_of_other (hi : TilesAt s n op checks i) (hw : s.issuesWord n w key) (hne : key ≠ (op, 0)) :
    Does i s s := by
  obtain ⟨act, hd⟩ := hi
  rwa [State.tileOp_of_other hw hne] at hd

theorem issuesAt_of_gcfg {sel : Nat} {checks : Nat → Word → Word → List (Nat × Bool)}
    {f : Nat → Word → Word → Generator → Generator} (h : Does i s (s.gcfg n sel checks f)) : IssuesAt s n i := ⟨_, _, h⟩

theorem tilesAt_of_elementwise {f : EwForm} {g : Nat → Nat → Nat → Nat × Nat} (h : Does i s (s.elementwise n op f g)) :
    TilesAt s n op (ewChecks f) i := ⟨_, h⟩

theorem tilesAt_of_red {f : Nat → Nat → Nat × Nat} (h : Does i s (s.red n op hit f)) : TilesAt s n op redChecks i := ⟨_, h⟩

end Shared

section Rows

variable (s : State) (n : Fin 16) (hit : ScratchHit)

theorem issuesAt_plainRows : ∀ i ∈ plainRows n hit, IssuesAt s n i := by
  simp only [plainRows, List.forall_mem_cons]
  exact ⟨⟨_, _, does_add n rfl⟩, ⟨_, _, does_sub n rfl⟩, ⟨_, _, does_mul n rfl⟩, ⟨_, _, does_andOp n rfl⟩,
    ⟨_, _, does_orOp n rfl⟩, ⟨_, _, does_xorOp n rfl⟩, ⟨_, _, does_sll n rfl⟩, ⟨_, _, does_srl n rfl⟩,
    ⟨_, _, does_sra n rfl⟩, ⟨_, _, does_minOp n rfl⟩, ⟨_, _, does_maxOp n rfl⟩, ⟨_, _, does_addi n rfl⟩,
    ⟨_, _, does_li n rfl⟩, ⟨_, _, does_lui n rfl⟩, ⟨_, _, does_nop n rfl⟩, ⟨_, _, does_endOp n rfl⟩,
    ⟨_, _, does_br n rfl⟩, ⟨_, _, does_loop n rfl⟩, ⟨_, _, does_waitbeat n rfl⟩,
    ⟨_, _, does_waittokScoreboard n rfl⟩, ⟨_, _, does_waittokRing n rfl⟩, ⟨_, _, does_posttokScoreboard n rfl⟩,
    ⟨_, _, does_posttokRing n rfl⟩, ⟨_, _, does_rds n rfl⟩, ⟨_, _, does_wrs n rfl⟩, ⟨_, _, does_ldx n hit rfl⟩,
    ⟨_, _, does_stx n rfl⟩, issuesAt_of_gcfg (does_gcfgLevel n rfl), issuesAt_of_gcfg (does_gcfgOffset n rfl),
    issuesAt_of_gcfg (does_gcfgRowstride n rfl), issuesAt_of_gcfg (does_gcfgRun n rfl),
    ⟨_, _, does_gcfgIndirect n hit rfl⟩, ⟨_, _, does_sopen n rfl⟩, ⟨_, _, does_sclose n rfl⟩, List.forall_mem_nil _⟩

/-- The command of each row of format T makes the checks of its instruction, and acts where all pass. -/
theorem tilesAt_tileRows : ∀ x ∈ tileRows n hit, TilesAt s n x.2.1 x.2.2 x.1 := by
  simp only [tileRows, List.forall_mem_cons]
  exact ⟨⟨_, does_ldt n hit rfl⟩, ⟨_, does_stt n (by unfold State.nmeStt; rfl)⟩, ⟨_, does_mma n hit rfl⟩,
    ⟨_, does_vma n hit rfl⟩, tilesAt_of_elementwise (does_ewMov n rfl), tilesAt_of_elementwise (does_ewAdd n rfl),
    tilesAt_of_elementwise (does_ewSub n rfl), tilesAt_of_elementwise (does_ewMul n rfl),
    tilesAt_of_elementwise (does_ewFma n rfl), tilesAt_of_elementwise (does_ewMax n rfl),
    tilesAt_of_elementwise (does_ewMin n rfl), tilesAt_of_elementwise (does_ewAbs n rfl),
    tilesAt_of_elementwise (does_ewNeg n rfl), tilesAt_of_elementwise (does_ewRcp n rfl),
    tilesAt_of_elementwise (does_ewRsqrt n rfl), tilesAt_of_elementwise (does_exp2 n rfl),
    tilesAt_of_elementwise (does_scale n rfl), ⟨_, does_rmax n rfl⟩, tilesAt_of_red (does_redSum n hit rfl),
    tilesAt_of_red (does_redMax n hit rfl), tilesAt_of_red (does_redMin n hit rfl), ⟨_, does_cvt n rfl⟩,
    ⟨_, does_pack n rfl⟩, ⟨_, does_unpack n rfl⟩, ⟨_, does_topk n rfl⟩, ⟨_, does_gath n hit rfl⟩,
    List.forall_mem_nil _⟩

theorem issuesAt_ringRows : ∀ i ∈ ringRows n, IssuesAt s n i := by
  simp only [ringRows, List.forall_mem_cons]
  exact ⟨⟨_, _, does_send n rfl⟩, ⟨_, _, does_recv n rfl⟩, ⟨_, _, does_rred n rfl⟩, ⟨_, _, does_fence n rfl⟩,
    List.forall_mem_nil _⟩

/-- Every command of an engine's instructions issues that engine's next instruction. -/
theorem issuesAt_rows : ∀ i ∈ plainRows n hit ++ (tileRows n hit).map Prod.fst ++ ringRows n, IssuesAt s n i := by
  intro i hi
  rcases List.mem_append.1 hi with hi | hi
  · rcases List.mem_append.1 hi with hi | hi
    · exact issuesAt_plainRows s n hit i hi
    · obtain ⟨x, hx, rfl⟩ := List.mem_map.1 hi
      obtain ⟨act, h⟩ := tilesAt_tileRows s n hit x hx
      exact ⟨_, _, h⟩
  · exact issuesAt_ringRows s n i hi

end Rows

end Sys2Proof.Machine
end

section
/-!
What the instructions of an engine's streams do with their bytes: wait for the admission or for bytes of another module,
stop at an address outside the extent, and go on once the bytes are there (R235, R310, R311, R336).
-/
namespace Sys2Proof.Machine

section Data

variable {s v : State} {n gen : Nat} {hit : ScratchHit} {l : List (List (Int × Nat))} {data : List (List Byte)}
  {kd : List (List Byte) → State → State}

/-- The pieces of a generator's runs that lie on other modules. -/
abbrev State.farOf (s : State) (n gen : Nat) (l : List (List (Int × Nat))) : List (Nat × Nat) :=
  (s.farPieces ((s.engine n).gen gen) l.flatten).eraseDups

/-- Those that have not been asked for. -/
abbrev State.unasked (s : State) (n gen : Nat) (l : List (List (Int × Nat))) : List (Nat × Nat) :=
  (s.farOf n gen l).filter fun u => ((s.engine n).access gen u).isNone

/-- One of them has been asked for and not been answered. -/
abbrev State.unanswered (s : State) (n gen : Nat) (l : List (List (Int × Nat))) : Bool :=
  (s.farOf n gen l).any fun u => ((s.engine n).access gen u).any fun a => a.answer.isNone

theorem State.withData_of_unasked (h : s.unasked n gen l ≠ []) :
    s.withData n hit gen l kd = (s.unasked n gen l).foldl (fun t u =>
      t.engineAsk n gen u false (t.engineHusk n Husk.RD u.1 u.2 ((s.engine n).gen gen).hint [])) s :=
  if_pos (by simpa using h)

theorem State.withData_of_unanswered (h : s.unasked n gen l = []) (ha : s.unanswered n gen l = true) :
    s.withData n hit gen l kd = s :=
  (if_neg (by simp [h])).trans (if_pos ha)

theorem State.withData_of_answered (h : s.unasked n gen l = []) (ha : s.unanswered n gen l = false)
    (hr : s.readRows n hit gen l = (data, v)) (hv : (v.engine n).live = true) : s.withData n hit gen l kd = kd data v := by
  rw [State.withData, if_neg (by simp [h]), if_neg (by simp [ha]), hr, if_pos hv]

/-- There are bytes to consume once every piece of another module has been answered and no read has stopped the job. -/
theorem State.dataOf_eq_some (h : s.dataOf n hit gen l = some (data, v)) :
    s.unasked n gen l = [] ∧ s.unanswered n gen l = false ∧ s.readRows n hit gen l = (data, v) ∧
      (v.engine n).live = true := by
  obtain ⟨hc, hr⟩ := Option.ite_none_left_eq_some.1 h
  have hr : s.readRows n hit gen l = (data, v) := Option.some.inj hr
  simp only [hr, Bool.or_eq_true, not_or, Bool.not_eq_true, Bool.not_eq_false', List.any_eq_false] at hc
  obtain ⟨hall, hlive⟩ := hc
  have hans : ∀ u ∈ s.farOf n gen l, ∃ a, (s.engine n).access gen u = some a ∧ a.answer.isNone = false := by
    intro u hu
    have := hall u hu
    cases hacc : (s.engine n).access gen u with
    | none => simp [hacc] at this
    | some a => exact ⟨a, rfl, by simpa [hacc] using this⟩
  refine ⟨List.filter_eq_nil_iff.2 fun u hu => ?_, List.any_eq_false.2 fun u hu => ?_, hr, hlive⟩
  · obtain ⟨a, hacc, -⟩ := hans u hu
    simp [hacc]
  · obtain ⟨a, hacc, ha⟩ := hans u hu
    simp [hacc, ha]

theorem State.withData_of_dataOf (h : s.dataOf n hit gen l = some (data, v)) : s.withData n hit gen l kd = kd data v := by
  obtain ⟨hu, ha, hr, hv⟩ := State.dataOf_eq_some h
  exact State.withData_of_answered hu ha hr hv

end Data

section Runs

variable {s u v : State} {n gen skip len : Nat} {hit : ScratchHit} {rows : List Nat} {shared : Bool}
  {l : List (List (Int × Nat))} {data : List (List Byte)} {k : List (List (Int × Nat)) → State → State}
  {kd : List (List Byte) → State → State}

theorem State.withRuns_of_unadmitted (h : ((s.engine n).gen gen).admitted = false) :
    s.withRuns n hit gen rows shared skip len k = s :=
  if_pos (by simp [h])

theorem State.withRuns_of_outside (h : ((s.engine n).gen gen).admitted = true) (hi : ((s.engine n).gen gen).indirect ≠ 1)
    (ho : ((s.engine n).gen gen).outside
      (((s.engine n).gen gen).spans rows shared skip len fun _ _ => 0).flatten = true) :
    s.withRuns n hit gen rows shared skip len k = s.stopReason n (gen * 2 ^ 32 + jrEXTENT) :=
  (if_neg (by simp [h])).trans ((if_neg hi).trans (if_pos ho))

/-- Where a generator has runs, the instruction goes on with them: in ELEM mode once the indices have been read. -/
theorem State.withRuns_of_runsOf (h : s.runsOf n hit gen rows shared skip len = some (l, u)) :
    s.withRuns n hit gen rows shared skip len k = k l u := by
  obtain ⟨hadm, h⟩ := Option.ite_none_left_eq_some.1 h
  rw [State.withRuns, if_neg hadm]
  split at h
  case isTrue hi =>
    rw [if_pos hi]
    obtain ⟨hgi, h⟩ := Option.ite_none_left_eq_some.1 h
    obtain ⟨hga, hgo⟩ := not_or.1 (mt Bool.or_eq_true_iff.2 hgi)
    obtain ⟨⟨data, v⟩, hd, h⟩ := Option.bind_eq_some_iff.1 h
    obtain ⟨hin, h⟩ := Option.ite_none_left_eq_some.1 h
    obtain ⟨rfl, rfl⟩ := Prod.mk.inj (Option.some.inj h)
    rw [if_neg hga, if_neg hgo, State.withData_of_dataOf hd]
    exact if_neg hin
  case isFalse hi =>
    rw [if_neg hi]
    obtain ⟨hin, h⟩ := Option.ite_none_left_eq_some.1 h
    obtain ⟨rfl, rfl⟩ := Prod.mk.inj (Option.some.inj h)
    exact if_neg hin

theorem State.consume_of_data (hl : s.runsOf n hit gen rows shared 0 len = some (l, u))
    (hd : u.dataOf n hit gen l = some (data, v)) :
    s.consume n hit gen rows shared len kd = kd data (v.setEngine n ((v.engine n).advance gen len)) :=
  (State.withRuns_of_runsOf hl).trans (State.withData_of_dataOf hd)

end Runs

end Sys2Proof.Machine
end

section
/-!
The ring instructions (R331 to R333): what a word that passes the checks does, and what RECV and RRED take of the packets
that have come.
-/
namespace Sys2Proof.Machine

/-- Neither the rows in force nor N are 0 in a word that passes the checks of the ring instructions. -/
theorem ringChecks_total {e : EngineState} {w : Nat} (h : ∀ c ∈ ringChecks e w, c.2 = false) :
    pN w * e.rows.length ≠ 0 := by
  obtain ⟨hrows, hn⟩ := Bool.or_eq_false_iff.1 (h _ (List.mem_cons_self ..))
  rw [EngineState.rows, List.length_map, List.length_range]
  exact Nat.mul_ne_zero (beq_eq_false_iff_ne.1 hn) (beq_eq_false_iff_ne.1 hrows)

/-- The bytes that RECV or RRED has taken so far. -/
abbrev EngineState.got (e : EngineState) : Nat := (e.taken.map Prod.fst).getD 0

/-- What RECV reaches with the packets that have come (R332). -/
abbrev State.recvTaken (s : State) (n w : Nat) : State :=
  State.recvGo n w (pN w * (s.engine n).rows.length) (s.received (ringQueue (2 * n + pPORT w) (pSTREAM w))).length s

/-- What RRED reaches with the packets that have come (R333). -/
abbrev State.rredTaken (s : State) (n w : Nat) : State :=
  State.rredGo n w (pCNT w * pN w * (s.engine n).rows.length)
    ((s.received (ringQueue (2 * n) (pSTREAM w))).length + (s.received (ringQueue (2 * n + 1) (pSTREAM w))).length) s

variable {s : State} {n w : Nat}

theorem State.nmeSend_of_passed (hw : s.issuesWord n w (0x58, 0)) (hc : ∀ c ∈ ringChecks (s.engine n) w, c.2 = false)
    (hd : pDEST w ≠ n) :
    s.nmeSend n =
      let bs := (s.engine n).rows.flatMap fun r => (s.engine n).rowBytes (pKIND w) (pREG w) r 0 (pN w)
      (Nf.chunksOf 256 bs.length bs).foldl (fun t part =>
        t.ringSend (2 * n + pPORT w) (RingPacket.make rkDATA (pDEST w) n (pSTREAM w) part))
        (s.retire n fun e => { e with ringUsed := true }) :=
  (State.issue_of_word hw).trans (State.guarded_of_passed (List.forall_mem_cons.2 ⟨beq_false_of_ne hd, hc⟩))

theorem State.nmeRecv_of_passed (hw : s.issuesWord n w (0x59, 0)) (hc : ∀ c ∈ ringChecks (s.engine n) w, c.2 = false) :
    s.nmeRecv n =
      if ((s.recvTaken n w).engine n).got = pN w * (s.engine n).rows.length then
        (s.recvTaken n w).retire n fun e =>
          if pKIND w then { e with taken := none }.setTags (pREG w) (pSPAN w) Nf.fmFP32 else { e with taken := none }
      else s.recvTaken n w :=
  (State.issue_of_word hw).trans (State.guarded_of_passed hc)

theorem State.recvGo_of_empty {total : Nat} (h : s.received (ringQueue (2 * n + pPORT w) (pSTREAM w)) = []) :
    ∀ fuel, State.recvGo n w total fuel s = s
  | 0 => rfl
  | _ + 1 => by simp only [State.recvGo, h]

theorem State.recvGo_of_token {total : Nat} {x : Nat × RingPacket} {rest : List (Nat × RingPacket)}
    (h : s.received (ringQueue (2 * n + pPORT w) (pSTREAM w)) = x :: rest) (hx : x.2.kind = rkTOKEN) :
    ∀ fuel, State.recvGo n w total fuel s = s
  | 0 => rfl
  | _ + 1 => by simp only [State.recvGo, h, hx, true_or, if_true]

/-- A RECV that finds nothing to take waits. -/
theorem State.nmeRecv_of_untaken (hw : s.issuesWord n w (0x59, 0)) (hc : ∀ c ∈ ringChecks (s.engine n) w, c.2 = false)
    (ht : (s.engine n).taken = none) (hu : s.recvTaken n w = s) : s.nmeRecv n = s := by
  rw [State.nmeRecv_of_passed hw hc, hu]
  exact if_neg (by simpa [EngineState.got, ht] using (ringChecks_total hc).symm)

theorem State.nmeRred_of_passed (hw : s.issuesWord n w (0x5A, 0)) (hc : ∀ c ∈ ringChecks (s.engine n) w, c.2 = false)
    (hk : pKIND w = false) (h0 : pCNT w ≠ 0) (h4 : pN w % 4 = 0) :
    s.nmeRred n =
      if ((s.rredTaken n w).engine n).got = pCNT w * pN w * (s.engine n).rows.length then
        (s.rredTaken n w).retire n fun e => { e with taken := none }
      else s.rredTaken n w :=
  (State.issue_of_word hw).trans (State.guarded_of_passed (List.forall_mem_cons.2 ⟨by simp [hk, h0, h4], hc⟩))

end Sys2Proof.Machine
end

section
/-!
The statements of the engines' structure, each settled from the lemmas above.
-/
namespace Sys2Proof.NmeStructure
open Sys2Proof.Machine

/-- Settles O13: a post acts by the row of R248 that its entry is in, and each command sets the fields it names. -/
theorem tokenPosts : Obligations.TokenPosts := by
  intro s d i g v
  exact ⟨State.tokPost_of_awaited, State.tokPost_of_present, State.tokPost_of_previous, State.tokPost_of_stale,
    State.tokClear_of_clear, State.tokSet_of_set⟩

/-- Settles O37: a word that passes its checks acts on what has come, and a stream's bytes are there or are waited for. -/
theorem ringInstructions : Obligations.RingInstructions := by
  intro n s w
  refine ⟨?_, ?_, ?_, ?_⟩
  · rintro ⟨hw, hc⟩ hd
    exact does_send n (State.nmeSend_of_passed hw hc hd)
  · rintro q u all ⟨hw, hc⟩
    have hrecv := State.nmeRecv_of_passed hw hc
    refine ⟨fun hq ht => ?_, fun x rest hq hx ht => ?_, fun ha hk => ?_, fun ha hk => ?_, fun ha => ?_⟩
    · exact does_recv n (State.nmeRecv_of_untaken hw hc ht (State.recvGo_of_empty hq _))
    · exact does_recv n (State.nmeRecv_of_untaken hw hc ht (State.recvGo_of_token hq hx _))
    · rw [if_pos ha, hk] at hrecv
      exact does_recv n hrecv
    · rw [if_pos ha, hk] at hrecv
      exact does_recv n hrecv
    · exact does_recv n (hrecv.trans (if_neg ha))
  · rintro u all ⟨hw, hc⟩ hk h0 h4
    have hrred := State.nmeRred_of_passed hw hc hk h0 h4
    exact ⟨fun ha => does_rred n (hrred.trans (if_pos ha)), fun ha => does_rred n (hrred.trans (if_neg ha))⟩
  · intro hit gen rows shared skip len k kd g l
    exact ⟨State.withRuns_of_unadmitted, State.withRuns_of_outside, fun _ _ _ _ => State.consume_of_data,
      fun _ => ⟨State.withData_of_unasked, State.withData_of_unanswered⟩⟩

/-- Settles O38: every command issues its engine's next instruction, so what is issued, or its checks, decide how it
ends. -/
theorem issueStops : Obligations.IssueStops := by
  intro n s w hit
  refine ⟨fun i hi => ?_, fun x hx r => (tilesAt_tileRows s n hit x hx).does_of_failing,
    fun x hx key => (tilesAt_tileRows s n hit x hx).does_of_other, fun _ _ => failing_eq_some_iff.1,
    tileChecks_zeroDim, tileChecks_rowsBeyond, fun _ _ _ _ => State.stopJob_of_jobAt⟩
  have h := issuesAt_rows s n hit i hi
  exact ⟨h.does_of_idle, h.does_of_pastCode, h.does_of_unknown⟩

end Sys2Proof.NmeStructure
end

section
/-!
What an instruction of format T does once its word passes the checks of R317, R318 and its own (R315 to R330): it acts, row
by row over the rows in force or on the bytes of a stream.
-/
namespace Sys2Proof.Machine

section Tile

variable {s u v : State} {n w op : Nat} {checks : EngineState → Nat → List (Nat × Bool)}

theorem State.tileOp_of_passed {act : EngineState → Nat → State → State} (h : s.issuesTile n w op checks) :
    s.tileOp n op checks act = act (s.engine n) w s := by
  obtain ⟨hword, hchecks⟩ := h
  exact (State.issue_of_word hword).trans (State.guarded_of_passed hchecks)

/-- The engine changes row by row, over the rows in force (R317), and goes on. -/
abbrev State.retireRows (s : State) (n : Nat) (f : EngineState → Nat → EngineState) : State :=
  s.retire n fun x => (s.engine n).rows.foldl f x

/-- An instruction that changes its engine row by row may be read in the form that its word gives a row's change. -/
theorem State.tileOp_rows_of_passed {body : EngineState → Nat → EngineState → Nat → EngineState}
    {f : EngineState → Nat → EngineState} (h : s.issuesTile n w op checks)
    (hf : ∀ x r, body (s.engine n) w x r = f x r) :
    (s.tileOp n op checks fun e w s => s.retire n fun x => e.rows.foldl (body e w) x) = s.retireRows n f := by
  rw [State.tileOp_of_passed h, funext fun x => funext (hf x)]

/-- The bytes that an instruction reads of a stream: the runs of the generator, then the data at those runs. -/
theorem State.withRuns_withData_of_data {hit : ScratchHit} {gen skip len : Nat} {rows : List Nat} {shared : Bool}
    {l : List (List (Int × Nat))} {data : List (List Byte)} {k : List (List (Int × Nat)) → List (List Byte) → State → State}
    (hl : s.runsOf n hit gen rows shared skip len = some (l, u)) (hd : u.dataOf n hit gen l = some (data, v)) :
    (s.withRuns n hit gen rows shared skip len fun l s => s.withData n hit gen l (k l)) = k l data v :=
  (State.withRuns_of_runsOf hl).trans (State.withData_of_dataOf hd)

theorem isRowFmt_of_int8r (h : tFMT w = Nf.fmINT8R) : isRowFmt w = true := beq_iff_eq.2 h

theorem isRowFmt_of_ne (h : tFMT w ≠ Nf.fmINT8R) : isRowFmt w = false := beq_false_of_ne h

end Tile

section Elementwise

/-- Lane j of operand A in a row (R323). -/
abbrev EngineState.laneA (e : EngineState) (w r j : Nat) : Nat := (e.source (tAK w) (tA w) r (tN w)).getD j 0

/-- Lane j of the old D in a row (R323). -/
abbrev EngineState.laneD (e : EngineState) (w r j : Nat) : Nat := (e.source (tOP w 2) (tD w) r (tN w)).getD j 0

variable {s : State} {n w op : Nat} {g : Nat → Nat → Nat → Nat × Nat}

theorem State.elementwise_formA (h : s.issuesTile n w op (ewChecks formA)) :
    s.elementwise n op formA g =
      s.retireRows n fun x r => x.laneResult w r fun j => g ((s.engine n).laneA w r j) 0 0 :=
  State.tileOp_of_passed h

theorem State.elementwise_formB (h : s.issuesTile n w op (ewChecks formB)) :
    s.elementwise n op formB g =
      s.retireRows n fun x r => x.laneResult w r fun j => g 0 ((s.engine n).operandB w r j) 0 :=
  State.tileOp_of_passed h

theorem State.elementwise_formAB (h : s.issuesTile n w op (ewChecks formAB)) :
    s.elementwise n op formAB g =
      s.retireRows n fun x r => x.laneResult w r fun j =>
        g ((s.engine n).laneA w r j) ((s.engine n).operandB w r j) 0 :=
  State.tileOp_of_passed h

theorem State.elementwise_formABD (h : s.issuesTile n w op (ewChecks formABD)) :
    s.elementwise n op formABD g =
      s.retireRows n fun x r => x.laneResult w r fun j =>
        g ((s.engine n).laneA w r j) ((s.engine n).operandB w r j) ((s.engine n).laneD w r j) :=
  State.tileOp_of_passed h

end Elementwise

end Sys2Proof.Machine
end

section
/-!
The statements of the engines' arithmetic, each settled from the lemmas above.
-/
namespace Sys2Proof.NmeArithmetic
open Sys2Proof.Machine

/-- Settles O35: an elementwise instruction acts by its operand form, and the others by the form that the word's fields
pick. -/
theorem laneCommands : Obligations.LaneCommands := by
  intro n s w hit e A D rows lanes
  refine ⟨fun h => does_ewMov n (State.elementwise_formB h), fun h => does_ewAdd n (State.elementwise_formAB h),
    fun h => does_ewSub n (State.elementwise_formAB h), fun h => does_ewMul n (State.elementwise_formAB h),
    fun h => does_ewFma n (State.elementwise_formABD h), fun h => does_ewMax n (State.elementwise_formAB h),
    fun h => does_ewMin n (State.elementwise_formAB h), fun h => does_ewAbs n (State.elementwise_formA h),
    fun h => does_ewNeg n (State.elementwise_formA h), fun h => does_ewRcp n (State.elementwise_formA h),
    fun h => does_ewRsqrt n (State.elementwise_formA h), fun h => does_exp2 n (State.elementwise_formA h),
    fun h => does_scale n (State.elementwise_formAB h), fun h => does_rmax n (State.tileOp_of_passed h), ?red, ?cvt,
    fun h => does_pack n (State.tileOp_of_passed h), fun h => does_unpack n (State.tileOp_of_passed h),
    fun h => does_topk n (State.tileOp_of_passed h)⟩
  case red =>
    intro reduces
    have hred {i op f} (hdoes : ∀ {t}, s.red n.val op hit f = t → Does i s t) : reduces i op f := fun h =>
      ⟨fun hgroup => hdoes ((State.tileOp_of_passed h).trans (if_neg hgroup)), fun _ _ _ _ hstream hl hd =>
        hdoes ((State.tileOp_of_passed h).trans ((if_pos hstream).trans (State.consume_of_data hl hd)))⟩
    exact ⟨hred (does_redSum n hit), hred (does_redMax n hit), hred (does_redMin n hit)⟩
  case cvt =>
    intro f h
    refine ⟨fun hwiden => ?_, fun hA hD => ?_, fun hA hD => ?_⟩
    · exact does_cvt n (State.tileOp_rows_of_passed h fun _ _ => if_pos hwiden)
    · exact does_cvt n (State.tileOp_rows_of_passed h fun _ _ => (if_neg (Bool.eq_false_iff.1 hA)).trans (if_pos hD))
    · exact does_cvt n (State.tileOp_rows_of_passed h fun _ _ =>
        (if_neg (Bool.eq_false_iff.1 hA)).trans (if_neg (Bool.eq_false_iff.1 hD)))

/-- Settles O36: each instruction goes on with the runs and the bytes of its stream, and with those of the row scales where
FMT is INT8R. -/
theorem tileCommands : Obligations.TileCommands := by
  intro n s w hit e g h
  refine ⟨?ldt, ?stt, ?mma, ?vma, ?gath⟩
  case ldt =>
    intro hw l u data v hl hd put
    refine ⟨fun hf => does_ldt n hit ?_, fun l2 u2 scales v2 hf hl2 hd2 => does_ldt n hit ?_⟩
    · rw [State.nmeLdt, State.tileOp_of_passed hw, State.withRuns_withData_of_data hl hd, isRowFmt_of_ne hf]
      rfl
    · rw [State.nmeLdt, State.tileOp_of_passed hw, State.withRuns_withData_of_data hl hd, isRowFmt_of_int8r hf]
      exact (if_pos rfl).trans (State.withRuns_withData_of_data hl2 hd2)
  case stt =>
    intro hw l u hl put
    refine ⟨fun hf => does_stt n ?_, fun l2 u2 hf hl2 => does_stt n ?_⟩
    · rw [State.nmeStt, State.tileOp_of_passed hw, State.withRuns_of_runsOf hl, isRowFmt_of_ne hf]
      rfl
    · rw [State.nmeStt, State.tileOp_of_passed hw, State.withRuns_of_runsOf hl, isRowFmt_of_int8r hf]
      exact (if_pos rfl).trans (State.withRuns_of_runsOf hl2)
  case mma =>
    exact fun hw _ _ _ _ hl hd => does_mma n hit ((State.tileOp_of_passed hw).trans (State.consume_of_data hl hd))
  case vma =>
    exact fun hw _ _ _ _ hl hd => does_vma n hit ((State.tileOp_of_passed hw).trans (State.consume_of_data hl hd))
  case gath =>
    intro x l hw hadm hin data u hd
    have hadm : ¬ (!x.admitted) = true := by simp [hadm]
    have hin : ¬ x.outside l.flatten = true := Bool.eq_false_iff.1 hin
    exact does_gath n hit ((State.tileOp_of_passed hw).trans
      ((if_neg hadm).trans ((if_neg hin).trans (State.withData_of_dataOf hd))))

end Sys2Proof.NmeArithmetic
end

section
/-!
The rules of an engine as part of the machine's state, of its scalar registers (R295), and of an instruction that makes its
checks and then acts (R253, R335).
-/
namespace Sys2Proof.Machine

section Engines

variable {s : State} {n m : Nat} {e e' : EngineState}

@[simp] theorem State.engine_setEngine : (s.setEngine n e).engine n = e := Tab.get_set_self ..

theorem State.engine_setEngine_ne (h : m ≠ n) : (s.setEngine n e).engine m = s.engine m := Tab.get_set_ne _ _ _ h

@[simp] theorem State.setEngine_setEngine : (s.setEngine n e).setEngine n e' = s.setEngine n e' :=
  congrArg (fun t => { s with nme := { s.nme with engines := t } }) (Tab.set_set ..)

theorem State.retire_setEngine (f : EngineState → EngineState) :
    (s.setEngine n e).retire n f = s.setEngine n (f e).next := by
  rw [State.retire, State.engine_setEngine, State.setEngine_setEngine]

/-- An engine that keeps its job leaves it where it is. -/
theorem State.jobAt_setEngine (h : e.job = (s.engine n).job) : (s.setEngine n e).jobAt n = s.jobAt n := by
  rw [State.jobAt, State.engine_setEngine, h]
  rfl

/-- Where nothing waits, nothing waits after a change of an engine. -/
theorem State.calm_setEngine (h : s.calm) : (s.setEngine n e).calm := h

end Engines

section Registers

variable (e : EngineState) {i r : Nat} (v : Word) (x : Tab Word)

@[simp] theorem EngineState.get_zero : e.get 0 = 0 := rfl

@[simp] theorem EngineState.put_zero : e.put 0 v = e := rfl

theorem EngineState.get_put_ne (h : r ≠ i) : (e.put i v).get r = e.get r := by
  rw [EngineState.put]
  split
  · rfl
  · simp only [EngineState.get, Tab.get_set_ne _ _ _ h]

/-- A write of a scalar register changes the scalar registers at most. -/
theorem EngineState.exists_put : ∃ x, e.put i v = { e with x := x } := by
  rw [EngineState.put]
  split
  · exact ⟨e.x, rfl⟩
  · exact ⟨_, rfl⟩

/-- Where an engine goes on does not depend on its scalar registers, which stay. -/
theorem EngineState.next_withX : ({ e with x := x } : EngineState).next = { e.next with x := x } := rfl

theorem EngineState.get_next : e.next.get r = e.get r := rfl

end Registers

section Checked

variable {s : State} {n w : Nat} {key : Nat × Nat} {act : State → Nat → State → State}

/-- A word that passes its instruction's checks acts. -/
theorem State.issue_of_passed {checks : State → Nat → List (Nat × Bool)} (h : s.issuesWord n w key)
    (hc : ∀ c ∈ checks s w, c.2 = false) :
    s.issue n key (fun s w => s.guarded n (checks s w) (act s w)) = act s w s :=
  (State.issue_of_word h).trans (State.guarded_of_passed hc)

variable {bad : State → Nat → Bool}

/-- The same for an instruction whose only reason to stop is INSTRUCTION. -/
theorem State.issue_of_sound (h : s.issuesWord n w key) (hb : bad s w = false) :
    s.issue n key (fun s w => s.guarded n [(jrINSTRUCTION, bad s w)] (act s w)) = act s w s :=
  State.issue_of_passed h (List.forall_mem_singleton.2 hb)

theorem State.issue_of_unsound (h : s.issuesWord n w key) (hb : bad s w = true) :
    s.issue n key (fun s w => s.guarded n [(jrINSTRUCTION, bad s w)] (act s w)) = s.stopReason n jrINSTRUCTION :=
  (State.issue_of_word h).trans (State.guarded_of_failing (failing_eq_some_iff.2 (by simp [hb])))

end Checked

end Sys2Proof.Machine
end

section
/-!
The scalar instructions (R297, R299): what each leaves in x[RD], and what it leaves as it is.
-/
namespace Sys2Proof.Machine

section Scalar

variable {s : State} {n w op : Nat} {f : Word → Word → Word → Word}

theorem State.scalar_of_plain (h : s.issuesPlain n w (op, 0)) :
    s.scalar n op f = s.setEngine n
      ((s.engine n).put (sRD w) (f ((s.engine n).get (sRS1 w)) ((s.engine n).get (sRS2 w)) (sIMM w))).next :=
  State.issue_of_sound h.1 h.2

theorem State.nmeNop_of_plain (h : s.issuesPlain n w (0x10, 0)) : s.nmeNop n = s.setEngine n (s.engine n).next :=
  State.issue_of_sound h.1 h.2

/-- The commands of the scalar instructions that write x[RD], with their opcodes (R297). -/
def scalarRows (n : Fin 16) : List (Instr × Nat) :=
  [(.add n, 0x01), (.sub n, 0x02), (.mul n, 0x03), (.andOp n, 0x04), (.orOp n, 0x05), (.xorOp n, 0x06), (.sll n, 0x07),
    (.srl n, 0x08), (.sra n, 0x09), (.minOp n, 0x0A), (.maxOp n, 0x0B), (.addi n, 0x0C), (.li n, 0x0D), (.lui n, 0x0E)]

/-- The command of each row is a function of x[RS1], x[RS2] and IMM, put in x[RD]. -/
theorem does_scalarRows (s : State) (n : Fin 16) : ∀ r ∈ scalarRows n, ∃ f, Does r.1 s (s.scalar n r.2 f) := by
  simp only [scalarRows, List.forall_mem_cons]
  exact ⟨⟨_, does_add n rfl⟩, ⟨_, does_sub n rfl⟩, ⟨_, does_mul n rfl⟩, ⟨_, does_andOp n rfl⟩, ⟨_, does_orOp n rfl⟩,
    ⟨_, does_xorOp n rfl⟩, ⟨_, does_sll n rfl⟩, ⟨_, does_srl n rfl⟩, ⟨_, does_sra n rfl⟩, ⟨_, does_minOp n rfl⟩,
    ⟨_, does_maxOp n rfl⟩, ⟨_, does_addi n rfl⟩, ⟨_, does_li n rfl⟩, ⟨_, does_lui n rfl⟩, List.forall_mem_nil _⟩

theorem opMIN_eq (a b i : Word) : opMIN a b i = if a.toInt < b.toInt then a else b := by
  simp only [opMIN, BitVec.slt_eq_decide, decide_eq_true_eq]

theorem opMAX_eq (a b i : Word) : opMAX a b i = if a.toInt < b.toInt then b else a := by
  simp only [opMAX, BitVec.slt_eq_decide, decide_eq_true_eq]

end Scalar

end Sys2Proof.Machine
end

section
/-!
The statements of the scalar instructions, each settled from the lemmas above.
-/
namespace Sys2Proof.NmeInstructions
open Sys2Proof.Machine

/-- Settles O23: where nothing waits, a scalar instruction ends with its engine replaced by one with a register written. -/
theorem scalarFrame : Obligations.ScalarFrame := by
  intro n s w hcalm r hr hw
  obtain ⟨f, hd⟩ := does_scalarRows s n r hr
  rw [State.scalar_of_plain hw] at hd
  refine ⟨_, hd.exec_eq (State.calm_setEngine hcalm) rfl, rfl, fun m => State.engine_setEngine_ne, fun i hi => ?_, ?_⟩
  · rw [State.engine_setEngine, EngineState.get_next, EngineState.get_put_ne _ _ hi]
  · rw [State.engine_setEngine]
    obtain ⟨x, hx⟩ := (s.engine n).exists_put (i := sRD w) _
    exact ⟨x, by rw [hx, EngineState.next_withX]⟩

/-- Settles O32: each operation of R299 at the operands of the word. -/
theorem scalarCommands : Obligations.ScalarCommands := by
  intro n s w a b gives
  refine ⟨fun h => does_add n (State.scalar_of_plain h), fun h => does_sub n (State.scalar_of_plain h),
    fun h => does_mul n (State.scalar_of_plain h), fun h => does_andOp n (State.scalar_of_plain h),
    fun h => does_orOp n (State.scalar_of_plain h), fun h => does_xorOp n (State.scalar_of_plain h),
    fun h => does_sll n (State.scalar_of_plain h), fun h => does_srl n (State.scalar_of_plain h),
    fun h => does_sra n (State.scalar_of_plain h), fun h => does_minOp n ?min, fun h => does_maxOp n ?max,
    fun h => does_addi n (State.scalar_of_plain h), fun h => does_li n (State.scalar_of_plain h),
    fun h => does_lui n (State.scalar_of_plain h), fun h => does_nop n (State.nmeNop_of_plain h),
    fun e v => ⟨e.get_zero, e.put_zero v⟩⟩
  case min => rw [State.scalar_of_plain h, opMIN_eq]
  case max => rw [State.scalar_of_plain h, opMAX_eq]

end Sys2Proof.NmeInstructions
end

section
/-!
The control instructions (R300 to R304, R307) and FENCE (R105, R334): what each does with a word whose reserved bits are 0.
-/
namespace Sys2Proof.Machine

section Control

variable {s : State} {n w : Nat}

/-! END. -/

theorem State.nmeEnd_of_unadmitted (h : s.issuesPlain n w (0x11, 0)) (ha : (s.engine n).admitted = false) :
    s.nmeEnd n = s :=
  (State.issue_of_sound h.1 h.2).trans (if_pos (by simp [ha]))

theorem State.nmeEnd_of_admitted {k : Nat} {j : Job} (h : s.issuesPlain n w (0x11, 0)) (hj : s.jobAt n = some (k, j))
    (ha : (s.engine n).admitted = true) :
    s.nmeEnd n = (s.setEngine n { s.engine n with live := false, ended := true }).setJob k { j with phase := .finished } :=
  ((State.issue_of_sound h.1 h.2).trans (if_neg (by simp [ha]))).trans (by simp only [State.jobAt_setEngine, hj])

/-! BR. -/

/-- The conditions of R300 by their number, on the values that the words stand for. -/
theorem branchTaken_eq {c : Nat} (hc : c ≤ 6) (a b : Word) :
    branchTaken c a b = ([true, a == b, a != b, decide (a.toInt < b.toInt), decide (b.toInt ≤ a.toInt),
      decide (a.toNat < b.toNat), decide (b.toNat ≤ a.toNat)] : List Bool)[c]?.getD true :=
  match c, hc with
  | 0, _ | 1, _ | 2, _ | 3, _ | 5, _ => rfl
  | 4, _ => decide_not.symm.trans (decide_eq_decide.2 Int.not_lt)
  | 6, _ => decide_not.symm.trans (decide_eq_decide.2 Nat.not_lt)
  | _ + 7, h => absurd h (by omega)

/-- Whether the condition of a BR holds. -/
abbrev EngineState.branches (e : EngineState) (w : Nat) : Bool :=
  branchTaken (fieldOf w 55 52) (e.get (fieldOf w 51 47)) (e.get (fieldOf w 46 42))

/-- Where a BR that is taken goes. -/
abbrev EngineState.branchTarget (e : EngineState) (w : Nat) : Int := (e.pc : Int) + signedField w 23 0

theorem State.nmeBr_of_untaken (h : s.issuesPlain n w (0x12, 0)) (hc : fieldOf w 55 52 ≤ 6)
    (ht : (s.engine n).branches w = false) : s.nmeBr n = s.setEngine n (s.engine n).next :=
  (State.issue_of_sound h.1 (by simp [h.2, hc, ht])).trans (if_neg (by simp [ht]))

theorem State.nmeBr_of_inside (h : s.issuesPlain n w (0x12, 0)) (hc : fieldOf w 55 52 ≤ 6)
    (ht : (s.engine n).branches w = true) (ho : (s.engine n).outOfBody ((s.engine n).branchTarget w) = false) :
    s.nmeBr n = s.setEngine n { s.engine n with pc := ((s.engine n).branchTarget w).toNat } :=
  (State.issue_of_sound h.1 (by simp [h.2, hc, ho])).trans (if_pos ht)

theorem State.nmeBr_of_outside (h : s.issuesPlain n w (0x12, 0)) (ht : (s.engine n).branches w = true)
    (ho : (s.engine n).outOfBody ((s.engine n).branchTarget w) = true) : s.nmeBr n = s.stopReason n jrINSTRUCTION :=
  State.issue_of_unsound h.1 (by simp [ht, ho])

theorem EngineState.outOfBody_of_inside {e : EngineState} {t : Int} (h0 : 0 ≤ t)
    (hf : ∀ f, e.loops.head? = some f → (f.first : Int) ≤ t ∧ t < (f.after : Int)) : e.outOfBody t = false := by
  rw [EngineState.outOfBody]
  cases hl : e.loops with
  | nil => simpa using h0
  | cons f rest => simpa using hf f (by simp [hl])

theorem EngineState.outOfBody_of_outside {e : EngineState} {t : Int}
    (hf : ∀ f, e.loops.head? = some f → t < (f.first : Int) ∨ (f.after : Int) ≤ t) (h0 : e.loops = [] → t < 0) :
    e.outOfBody t = true := by
  rw [EngineState.outOfBody]
  cases hl : e.loops with
  | nil => simpa using h0 hl
  | cons f rest => simpa using hf f (by simp [hl])

/-! LOOP. -/

theorem EngineState.pastBody_of_within {e : EngineState} {after : Nat}
    (hf : ∀ f, e.loops.head? = some f → after ≤ f.after) : e.pastBody after = false := by
  rw [EngineState.pastBody]
  cases hl : e.loops with
  | nil => rfl
  | cons f rest => simpa using hf f (by simp [hl])

theorem State.nmeLoop_of_within (h : s.issuesPlain n w (0x13, 0)) (hb : fieldOf w 11 0 ≠ 0)
    (hl : (s.engine n).loops.length < 4)
    (hf : ∀ f, (s.engine n).loops.head? = some f → (s.engine n).pc + 1 + fieldOf w 11 0 ≤ f.after) :
    s.nmeLoop n =
      let e := s.engine n
      let after := e.pc + 1 + fieldOf w 11 0
      let count := (e.get (fieldOf w 51 47)).toNat % 2 ^ 32
      if count = 0 then s.setEngine n (e.goTo after)
      else s.setEngine n { e with pc := e.pc + 1, loops := ⟨e.pc + 1, after, 0, count⟩ :: e.loops } :=
  State.issue_of_sound h.1 (by simp [h.2, hb, hl, EngineState.pastBody_of_within hf])

/-! WAITBEAT. -/

/-- The beat of WAITBEAT. -/
abbrev EngineState.waitBeat (e : EngineState) (w : Nat) : Nat := (e.get (fieldOf w 51 47)).toNat % 2 ^ 48

theorem State.nmeWaitbeat_of_beat (h : s.issuesPlain n w (0x14, 0)) (hv : bitOf w 46 = false) :
    s.nmeWaitbeat n =
      if (s.engine n).waitBeat w ≤ s.beatNow then s.setEngine n (s.engine n).next else s :=
  (State.issue_of_sound h.1 h.2).trans (if_neg (by simp [hv]))

theorem State.nmeWaitbeat_of_slot (h : s.issuesPlain n w (0x14, 0)) (hv : bitOf w 46 = true) :
    s.nmeWaitbeat n =
      let e := s.engine n
      let begun := decide (fieldOf w 45 40 < s.slotsBegun n)
      let aim := e.aim.getD (if e.waitBeat w ≤ s.beatNow ∧ begun then s.beatNow + 1 else max (e.waitBeat w) s.beatNow)
      if fieldOf w 45 40 < s.slotCount n ∧ (aim < s.beatNow ∨ (aim = s.beatNow ∧ begun)) then
        s.setEngine n { e with aim := none }.next
      else s.setEngine n { e with aim := some aim } :=
  (State.issue_of_sound h.1 h.2).trans (if_pos hv)

/-! Tokens. -/

theorem State.nmeWaittok_of_plain (h : s.issuesPlain n w (0x15, 0)) :
    s.nmeWaittok n =
      let t := tokenOf (s.engine n) w
      if s.tokPresent (n / 2) (t / 16) (t % 16) then s.setEngine n (s.engine n).next else s :=
  State.issue_of_sound h.1 h.2

theorem State.nmePosttok_of_plain (h : s.issuesPlain n w (0x16, 0)) :
    s.nmePosttok n =
      let t := tokenOf (s.engine n) w
      if (s.engine n).accesses.any EngineAccess.write then s
      else (s.tokPost (fieldOf w 54 52) (t / 16) (t % 16)).retire n id :=
  State.issue_of_sound h.1 h.2

section Queue

/-- The port that a token instruction names, and the receive queue of the stream that it names (R303). -/
abbrev ringTokenPort (n w : Nat) : Nat := 2 * n + fieldOf w 46 46
abbrev ringTokenQueue (n w : Nat) : Nat := ringQueue (ringTokenPort n w) (fieldOf w 45 42)

variable {x : Nat × RingPacket} {rest : List (Nat × RingPacket)} (h : s.issuesPlain n w (0x15, 1))
include h

theorem State.nmeWaitRing_of_empty (hq : s.received (ringTokenQueue n w) = []) : s.nmeWaitRing n = s :=
  (State.issue_of_sound h.1 h.2).trans (by dsimp only; rw [hq])

theorem State.nmeWaitRing_of_packet (hq : s.received (ringTokenQueue n w) = x :: rest) :
    s.nmeWaitRing n = if x.2.kind = rkTOKEN then
      ((s.setReceived (ringTokenQueue n w) rest).freeCredit (ringTokenPort n w) x.2).retire n fun e =>
        { e with ringUsed := true }
    else s :=
  (State.issue_of_sound h.1 h.2).trans (by dsimp only; rw [hq])

end Queue

theorem State.nmePostRing_of_plain (h : s.issuesPlain n w (0x16, 1)) :
    s.nmePostRing n = (s.setEngine n { s.engine n with ringUsed := true }.next).ringSend (ringTokenPort n w)
      (RingPacket.make rkTOKEN (fieldOf w 41 38) n (fieldOf w 45 42) []) :=
  State.issue_of_sound h.1 h.2

/-! FENCE. -/

/-- Every access of an engine is a write: its reads have been consumed. -/
abbrev EngineState.readsDone (e : EngineState) : Bool := e.accesses.all EngineAccess.write

/-- An engine's writes are visible, and its packets taken. -/
abbrev State.writesDone (s : State) (n : Nat) : Bool := !s.engineWritesWaiting n && s.sendsDone n

/-- What FENCE waits for, by KIND; KIND 0 is reserved (R334). -/
abbrev State.fenceDone (s : State) (n : Nat) : List Bool :=
  [false, (s.engine n).readsDone, s.writesDone n, (s.engine n).readsDone && s.writesDone n,
    (s.engine n).accesses.isEmpty && s.sendsDone n]

theorem State.nmeFence_of_kind {kind : Nat} {done : Bool} (h : s.issuesPlain n w (0x60, 0)) (hk : fieldOf w 55 53 = kind)
    (h0 : 0 < kind) (hd : (s.fenceDone n)[kind]? = some done) :
    s.nmeFence n = if done then s.setEngine n (s.engine n).next else s := by
  have h4 : kind ≤ 4 := Nat.le_of_lt_succ (List.getElem?_eq_some_iff.1 hd).1
  refine (State.issue_of_sound h.1 (by simp [h.2, hk, Nat.ne_of_gt h0, h4])).trans ?_
  rw [hk]
  have hkind : kind = 1 ∨ kind = 2 ∨ kind = 3 ∨ kind = 4 := by omega
  obtain rfl | rfl | rfl | rfl := hkind <;> obtain rfl := Option.some.inj hd
  · rfl
  · rfl
  · exact ite_congr (congrArg (· = true) (Bool.and_assoc ..)) (fun _ => rfl) fun _ => rfl
  · rfl

end Control

end Sys2Proof.Machine
end

section
/-!
The statement of the control instructions, settled from the lemmas above.
-/
namespace Sys2Proof.NmeInstructions
open Sys2Proof.Machine

/-- Settles O33: a word goes on, acts, waits or stops the job by the case of its instruction that holds. -/
theorem controlCommands : Obligations.ControlCommands := by
  intro n s w e goesOn
  refine ⟨?endOp, ?br, ?loop, ?waitbeat, ?scoreboard, ?waitRing, fun h => does_posttokRing n (State.nmePostRing_of_plain h),
    ?fence⟩
  case endOp =>
    exact fun h => ⟨fun ha => does_endOp n (State.nmeEnd_of_unadmitted h ha),
      fun k j hj ha => does_endOp n (State.nmeEnd_of_admitted h hj ha)⟩
  case br =>
    intro a b holds target inside h hc
    have htaken : e.branches w = holds := branchTaken_eq hc a b
    refine ⟨fun hh => ?_, fun hh hin => ?_, fun hh hout hnone => ?_⟩
    · exact does_br n (State.nmeBr_of_untaken h hc (htaken.trans hh))
    · exact does_br n (State.nmeBr_of_inside h hc (htaken.trans hh) (EngineState.outOfBody_of_inside hin.1 hin.2))
    · exact does_br n (State.nmeBr_of_outside h (htaken.trans hh) (EngineState.outOfBody_of_outside hout hnone))
  case loop =>
    intro after count h hb hl hf
    have hloop := State.nmeLoop_of_within h hb hl hf
    exact ⟨fun h0 => does_loop n (hloop.trans (if_pos h0)), fun h0 => does_loop n (hloop.trans (if_neg h0))⟩
  case waitbeat =>
    intro beat slot begun aim h
    refine ⟨fun hv hb => ?_, fun hv hb => ?_, fun hv hs hb => ?_, fun hv hb => ?_⟩
    · exact does_waitbeat n ((State.nmeWaitbeat_of_beat h hv).trans (if_neg (Nat.not_le.2 hb)))
    · exact does_waitbeat n ((State.nmeWaitbeat_of_beat h hv).trans (if_pos hb))
    · exact does_waitbeat n ((State.nmeWaitbeat_of_slot h hv).trans (if_pos ⟨hs, hb⟩))
    · exact does_waitbeat n ((State.nmeWaitbeat_of_slot h hv).trans (if_neg hb))
  case scoreboard =>
    intro t
    exact ⟨fun h => does_waittokScoreboard n (State.nmeWaittok_of_plain h),
      fun h => does_posttokScoreboard n (State.nmePosttok_of_plain h)⟩
  case waitRing =>
    intro p q h
    refine ⟨fun hq => does_waittokRing n (State.nmeWaitRing_of_empty h hq), fun x rest hq => ?_⟩
    have hwait := State.nmeWaitRing_of_packet h hq
    exact ⟨fun hk => does_waittokRing n (hwait.trans (if_neg hk)), fun hk => does_waittokRing n (hwait.trans (if_pos hk))⟩
  case fence =>
    intro reads written h
    exact ⟨fun hk => does_fence n (State.nmeFence_of_kind h hk (by decide) rfl),
      fun hk => does_fence n (State.nmeFence_of_kind h hk (by decide) rfl),
      fun hk => does_fence n (State.nmeFence_of_kind h hk (by decide) rfl),
      fun hk => does_fence n (State.nmeFence_of_kind h hk (by decide) rfl)⟩

end Sys2Proof.NmeInstructions
end

section
/-!
Special registers (R305), scratch words (R306) and generators (R308 to R313): what each instruction does with a word whose
reserved bits are 0 and that passes its checks.
-/
namespace Sys2Proof.Machine

section Special

variable {s : State} {n w : Nat}

/-- The special registers by their number (R305): 8 to 11 are the iterations of the active loops. -/
theorem State.readSpr_eq {spr : Nat} (h : spr ≤ 11) :
    s.readSpr n spr =
      ([(s.engine n).flags, s.fld (R.NME_SR_SEED n) F.NME_SR_SEED_STATE, s.beatNow, n + 16 * (n / 2), (s.engine n).rowBase,
        (s.engine n).rowCount, (s.engine n).cycles, (s.slotsBegun n - 1) + 256 * s.slotCount n] : List Nat)[spr]?.getD
        ((((s.engine n).loops[spr - 8]?).map LoopFrame.iteration).getD 0) :=
  match spr, h with
  | 0, _ | 1, _ | 2, _ | 3, _ | 4, _ | 5, _ | 6, _ | 7, _ | 8, _ | 9, _ | 10, _ | 11, _ => rfl
  | _ + 12, h => absurd h (by omega)

theorem State.nmeRds_of_known (h : s.issuesPlain n w (0x17, 0)) (hs : fieldOf w 7 0 ≤ 11) :
    s.nmeRds n = s.setEngine n
      ((s.engine n).put (fieldOf w 55 51) (BitVec.ofNat 64 (s.readSpr n (fieldOf w 7 0)))).next :=
  State.issue_of_sound h.1 (by simp [h.2, hs])

/-- What WRS writes. -/
abbrev EngineState.wrsValue (e : EngineState) (w : Nat) : Nat := (e.get (fieldOf w 55 51)).toNat

theorem State.nmeWrs_of_readOnly (h : s.issuesPlain n w (0x18, 0)) (h1 : fieldOf w 7 0 ≠ 1) (h4 : fieldOf w 7 0 ≠ 4)
    (h5 : fieldOf w 7 0 ≠ 5) : s.nmeWrs n = s.stopReason n jrINSTRUCTION :=
  State.issue_of_unsound h.1 (by simp [h1, h4, h5])

theorem State.nmeWrs_of_srstate (h : s.issuesPlain n w (0x18, 0)) (hs : fieldOf w 7 0 = 1) :
    s.nmeWrs n =
      let v := (s.engine n).wrsValue w % 2 ^ 32
      (if v = 0 then s else s.setFld (R.NME_SR_SEED n) F.NME_SR_SEED_STATE v).retire n id :=
  (State.issue_of_sound h.1 (by simp [h.2, hs])).trans (if_pos hs)

theorem State.nmeWrs_of_rowbase (h : s.issuesPlain n w (0x18, 0)) (hs : fieldOf w 7 0 = 4) :
    s.nmeWrs n = s.setEngine n { s.engine n with rowBase := (s.engine n).wrsValue w % 128 }.next :=
  (State.issue_of_sound h.1 (by simp [h.2, hs])).trans ((if_neg (by simp [hs])).trans (if_pos hs))

theorem State.nmeWrs_of_rowcnt (h : s.issuesPlain n w (0x18, 0)) (hs : fieldOf w 7 0 = 5) :
    s.nmeWrs n = s.setEngine n { s.engine n with rowCount := (s.engine n).wrsValue w % 128 }.next :=
  (State.issue_of_sound h.1 (by simp [h.2, hs])).trans ((if_neg (by simp [hs])).trans (if_neg (by simp [hs])))

end Special

section Scratch

variable {s : State} {n w a : Nat} {hit : ScratchHit}

/-- An aligned word is one part of itself. -/
theorem cutRun_aligned {size : Nat} (hs : 0 < size) (ha : a % size = 0) : cutRun size a size = [(a, size)] := by
  have hu : size * (a / size) = a := Nat.mul_div_cancel' (Nat.dvd_of_mod_eq_zero ha)
  rw [cutRun, unitsOf_within hs (by omega), hu]
  simp

/-- A scratch word that no error meets reads as it stands (R236). -/
theorem State.scratchRead_of_clean (ha : a % 8 = 0) (hc : ∀ x ∈ hit.ue ++ hit.ce, x.toNat / 8 ≠ a / 8) :
    s.scratchRead n hit a 8 = (readCells ramDefault (s.engine n).scratch a 8, s) := by
  have hue : ¬ ∃ x ∈ hit.ue, x.toNat / 8 = a / 8 := fun ⟨x, hx, he⟩ => hc x (List.mem_append_left _ hx) he
  have hce : ¬ ∃ x ∈ hit.ce, x.toNat / 8 = a / 8 := fun ⟨x, hx, he⟩ => hc x (List.mem_append_right _ hx) he
  simp [State.scratchRead, cutRun_aligned (by decide) ha, hue, hce]

theorem scratchChecks_passed {e : EngineState} (hr : hasReserved w = false) (ha : scratchAddr e w % 8 = 0)
    (hb : scratchAddr e w < scratchSize) : ∀ c ∈ scratchChecks e w, c.2 = false :=
  List.forall_mem_singleton.2 (by simp [hr, ha, hb])

variable (ha : scratchAddr (s.engine n) w % 8 = 0) (hb : scratchAddr (s.engine n) w < scratchSize)
include ha hb

theorem State.nmeLdx_of_clean (h : s.issuesPlain n w (0x19, 0))
    (hc : ∀ x ∈ hit.ue ++ hit.ce, x.toNat / 8 ≠ scratchAddr (s.engine n) w / 8) :
    s.nmeLdx n hit = s.setEngine n ((s.engine n).put (fieldOf w 55 51) (BitVec.ofNat 64
      (Word.ofBytes (readCells ramDefault (s.engine n).scratch (scratchAddr (s.engine n) w) 8)))).next :=
  (State.issue_of_passed h.1 (scratchChecks_passed h.2 ha hb)).trans (by rw [State.scratchRead_of_clean ha hc]; rfl)

theorem State.nmeStx_of_passed (h : s.issuesPlain n w (0x1A, 0)) :
    s.nmeStx n = s.setEngine n { s.engine n with
      scratch := writeCells ramDefault (s.engine n).scratch (scratchAddr (s.engine n) w)
        (Word.bytes 8 ((s.engine n).get (fieldOf w 55 51)).toNat) }.next :=
  (State.issue_of_passed h.1 (scratchChecks_passed h.2 ha hb)).trans (State.retire_setEngine id)

end Scratch

section Generators

variable {s : State} {n w sel : Nat}

/-- The generator that a word names (R298). -/
abbrev EngineState.named (e : EngineState) (w : Nat) : Generator := e.gen (gGEN w)

/-- An engine replaces the generator that the word names, and goes on. -/
abbrev State.setNamed (s : State) (n w : Nat) (g : Generator) : State :=
  s.setEngine n ((s.engine n).setGen (gGEN w) g).next

theorem wideStride_of_narrow {v : Word} (hl : - 2 ^ 47 < v.toInt) (hh : v.toInt < 2 ^ 47) : wideStride v = false :=
  decide_eq_false (not_or.2 ⟨Int.not_le.2 hh, Int.not_le.2 hl⟩)

section Gcfg

variable {checks : Nat → Word → Word → List (Nat × Bool)} {f : Nat → Word → Word → Generator → Generator}
  (hb : ((s.engine n).named w).bound = true)
include hb

theorem State.gcfg_of_passed (h : s.issuesPlain n w (0x20, sel))
    (hc : ∀ c ∈ checks w ((s.engine n).get (gRS1 w)) ((s.engine n).get (gRS2 w)), c.2 = false) :
    s.gcfg n sel checks f =
      s.setNamed n w (f w ((s.engine n).get (gRS1 w)) ((s.engine n).get (gRS2 w)) ((s.engine n).named w)) :=
  State.issue_of_passed h.1 (List.forall_mem_cons.2 ⟨by simp [h.2, hb], hc⟩)

theorem State.gcfgLevel_of_narrow (h : s.issuesPlain n w (0x20, 0))
    (hc : ((s.engine n).get (gRS1 w)).toNat % 2 ^ 32 ≠ 0) (hl : - 2 ^ 47 < ((s.engine n).get (gRS2 w)).toInt)
    (hh : ((s.engine n).get (gRS2 w)).toInt < 2 ^ 47) :
    s.gcfgLevel n = s.setNamed n w { (s.engine n).named w with
      pattern := true
      levels := ((s.engine n).named w).levels.set (fieldOf w 51 48)
        (((s.engine n).get (gRS1 w)).toNat % 2 ^ 32, ((s.engine n).get (gRS2 w)).toInt) } :=
  State.gcfg_of_passed hb h (by simpa [wideStride_of_narrow hl hh] using hc)

theorem State.gcfgOffset_of_bound (h : s.issuesPlain n w (0x20, 4)) :
    s.gcfgOffset n = s.setNamed n w { (s.engine n).named w with
      offset := ((s.engine n).get (gRS1 w)).toNat % 2 ^ 48, cursor := 0 } :=
  State.gcfg_of_passed hb h (List.forall_mem_nil _)

theorem State.gcfgRowstride_of_narrow (h : s.issuesPlain n w (0x20, 5))
    (hl : - 2 ^ 47 < ((s.engine n).get (gRS1 w)).toInt) (hh : ((s.engine n).get (gRS1 w)).toInt < 2 ^ 47) :
    s.gcfgRowstride n =
      s.setNamed n w { (s.engine n).named w with rowStride := ((s.engine n).get (gRS1 w)).toInt } :=
  State.gcfg_of_passed hb h (by simp [wideStride_of_narrow hl hh])

theorem State.gcfgRun_of_short (h : s.issuesPlain n w (0x20, 6)) (h0 : ((s.engine n).get (gRS1 w)).toNat ≠ 0)
    (hm : ((s.engine n).get (gRS1 w)).toNat ≤ 65536) :
    s.gcfgRun n = s.setNamed n w { (s.engine n).named w with
      pattern := true, run := ((s.engine n).get (gRS1 w)).toNat } :=
  State.gcfg_of_passed hb h (by simp [← BitVec.toNat_inj, h0, hm])

/-- The generator that a word puts in an indirect mode (R309, R311). -/
abbrev EngineState.indirect (e : EngineState) (w : Nat) : Generator :=
  { e.named w with wide := bitOf w 4, index := fieldOf w 3 0, scale := (e.get (gRS1 w)).toInt }

variable {hit : ScratchHit} (h : s.issuesPlain n w (0x20, 7))
include h

theorem State.gcfgIndirect_of_off (ho : bitOf w 31 = false) :
    s.gcfgIndirect n hit = s.setNamed n w { (s.engine n).named w with indirect := 0 } :=
  (State.issue_of_sound h.1 (by simp [h.2, hb, ho])).trans (if_pos (by simp [ho]))

variable (ho : bitOf w 31 = true) (hi : (s.engine n).indexBad (gGEN w) (fieldOf w 3 0) = false)
include ho hi

theorem State.gcfgIndirect_of_elem (hr : bitOf w 5 = false) :
    s.gcfgIndirect n hit = s.setNamed n w { (s.engine n).indirect w with indirect := 1 } :=
  (State.issue_of_sound h.1 (by simp [h.2, hb, hi])).trans ((if_neg (by simp [ho])).trans (if_pos (by simp [hr])))

/-- In ROW mode the index of each row in force is read and latched. -/
theorem State.gcfgIndirect_of_row {l : List (List (Int × Nat))} {data : List (List Byte)} {u : State} (hr : bitOf w 5 = true)
    (hl : l = (s.engine n).rows.map fun r =>
      let x := (s.engine n).gen (fieldOf w 3 0)
      let size := ((s.engine n).indirect w).indexBytes
      shiftRuns (x.rowTerm r) (x.runs (fun _ => 0) size x.cursor size))
    (ha : ((s.engine n).gen (fieldOf w 3 0)).admitted = true)
    (hin : ((s.engine n).gen (fieldOf w 3 0)).outside l.flatten = false)
    (hd : s.dataOf n hit (fieldOf w 3 0) l = some (data, u)) :
    s.gcfgIndirect n hit = u.retire n fun y =>
      { y.setGen (gGEN w) { (s.engine n).indirect w with
          indirect := 2
          latched := ((s.engine n).rows.zip data).foldl (fun t p =>
            Tab.set (fun _ => 0) t p.1 (Word.ofBytes p.2)) [] } with
        accesses := y.accesses.filter EngineAccess.write } := by
  subst hl
  calc s.gcfgIndirect n hit
      = _ := State.issue_of_sound h.1 (by simp [h.2, hb, hi])
    _ = _ := if_neg (by simp [ho])
    _ = _ := if_neg (by simp [hr])
    _ = _ := if_neg (by simp [ha])
    _ = _ := if_neg (Bool.eq_false_iff.1 hin)
    _ = _ := State.withData_of_dataOf hd

end Gcfg

/-- A bound read stream other than the generator itself, not in ELEM mode, gives its indices (R311). -/
theorem EngineState.indexBad_of_index {e : EngineState} {g gi : Nat} (hb : (e.gen gi).bound = true)
    (hw : (e.gen gi).wr = false) (hne : gi ≠ g) (hi : (e.gen gi).indirect ≠ 1) : e.indexBad g gi = false := by
  simp [EngineState.indexBad, EngineState.genBad, hb, hw, hne.symm, hi]

/-! SOPEN and SCLOSE. -/

section Open

/-- The stream that a SOPEN binds: BASE, EXTENT, WR, HINT and SCR. -/
abbrev EngineState.opens (e : EngineState) (w : Nat) : Generator :=
  Generator.open' (e.get (gRS1 w)).toNat (e.get (gRS2 w)).toNat (bitOf w 37) (fieldOf w 36 35) (bitOf w 34)

/-- The stream as an operand of admission. -/
abbrev EngineState.opened (e : EngineState) (w : Nat) : Operand :=
  streamOperand (e.get (gRS1 w)).toNat (e.get (gRS2 w)).toNat (bitOf w 37)

variable (h : s.issuesPlain n w (0x21, 0)) (hh : fieldOf w 36 35 ≠ 3) (hb : ((s.engine n).named w).bound = false)
include h hh hb

theorem State.nmeSopen_of_scratch (hs : bitOf w 34 = true)
    (he : ((s.engine n).get (gRS1 w)).toNat + ((s.engine n).get (gRS2 w)).toNat ≤ scratchSize) :
    s.nmeSopen n = s.setNamed n w ((s.engine n).opens w) :=
  (State.issue_of_passed h.1 (by simp [h.2, hh, hb, hs, he])).trans (if_pos hs)

theorem State.nmeSopen_of_operand (hs : bitOf w 34 = false)
    (ha : s.operandAllowed (s.engineAccess n 0 0).ctx ((s.engine n).opened w) = true)
    (hp : tooManyPages ((s.engine n).opened w) = false) :
    s.nmeSopen n = (s.setNamed n w ((s.engine n).opens w)).submitStream n (gGEN w) :=
  (State.issue_of_passed h.1 (by simp [h.2, hh, hb, hs, ha, hp])).trans (if_neg (by simp [hs]))

end Open

section Close

variable (h : s.issuesPlain n w (0x22, 0))
include h

theorem State.nmeSclose_of_unbound (hb : ((s.engine n).named w).bound = false) :
    s.nmeSclose n = s.setEngine n (s.engine n).next :=
  (State.issue_of_sound h.1 h.2).trans (if_pos (by simp [hb]))

variable (hb : ((s.engine n).named w).bound = true)
include hb

/-- A stream stays until its admission has been answered and its accesses have drained (R313). -/
theorem State.nmeSclose_of_busy (hw : ((s.engine n).named w).admitted = false ∨
    ((s.engine n).accesses.any fun x => x.gen == gGEN w) = true) : s.nmeSclose n = s :=
  (State.issue_of_sound h.1 h.2).trans ((if_neg (by simp [hb])).trans (if_pos (by simpa using hw)))

theorem State.nmeSclose_of_drained (ha : ((s.engine n).named w).admitted = true)
    (hn : ((s.engine n).accesses.any fun x => x.gen == gGEN w) = false) :
    s.nmeSclose n = s.setNamed n w Generator.unbound :=
  (State.issue_of_sound h.1 h.2).trans ((if_neg (by simp [hb])).trans (if_neg (by simp [ha, hn])))

end Close

end Generators

end Sys2Proof.Machine
end

section
/-!
The statement of the special registers, scratch words and generators, settled from the lemmas above.
-/
namespace Sys2Proof.NmeInstructions
open Sys2Proof.Machine

/-- Settles O34: a word that passes its checks acts by its instruction, and a GCFG or a SOPEN by the mode that it names. -/
theorem streamCommands : Obligations.StreamCommands := by
  intro n s w hit e spr gen a b sets
  refine ⟨?rds, ?wrs, ?scratch, ?gcfg, ?sopen, ?sclose⟩
  case rds =>
    exact fun h hs => does_rds n ((State.nmeRds_of_known h hs).trans (by rw [State.readSpr_eq hs]))
  case wrs =>
    intro v h
    refine ⟨fun hs hv => ?_, fun hs hv => ?_, fun hs => does_wrs n (State.nmeWrs_of_rowbase h hs),
      fun hs => does_wrs n (State.nmeWrs_of_rowcnt h hs), fun h1 h4 h5 => does_wrs n (State.nmeWrs_of_readOnly h h1 h4 h5)⟩
    · exact does_wrs n ((State.nmeWrs_of_srstate h hs).trans (congrArg (State.retire · n.val id) (if_pos hv)))
    · exact does_wrs n ((State.nmeWrs_of_srstate h hs).trans (congrArg (State.retire · n.val id) (if_neg hv)))
  case scratch =>
    intro at' ha hb
    exact ⟨fun h hc => does_ldx n hit (State.nmeLdx_of_clean ha hb h hc),
      fun h => does_stx n (State.nmeStx_of_passed ha hb h)⟩
  case gcfg =>
    intro hb
    refine ⟨fun h hc hl hh => does_gcfgLevel n (State.gcfgLevel_of_narrow hb h hc hl hh),
      fun h => does_gcfgOffset n (State.gcfgOffset_of_bound hb h),
      fun h hl hh => does_gcfgRowstride n (State.gcfgRowstride_of_narrow hb h hl hh),
      fun h h0 hm => does_gcfgRun n (State.gcfgRun_of_short hb h h0 hm), ?indirect⟩
    intro gi g h
    refine ⟨fun ho => does_gcfgIndirect n hit (State.gcfgIndirect_of_off hb h ho), fun ho hgb hgw hne hgi => ?_⟩
    have hindex := EngineState.indexBad_of_index hgb hgw hne hgi
    exact ⟨fun hr => does_gcfgIndirect n hit (State.gcfgIndirect_of_elem hb h ho hindex hr),
      fun data u hr ha hin hd => does_gcfgIndirect n hit (State.gcfgIndirect_of_row hb h ho hindex hr rfl ha hin hd)⟩
  case sopen =>
    intro g o h hh hb
    exact ⟨fun hs he => does_sopen n (State.nmeSopen_of_scratch h hh hb hs he),
      fun hs ha hp => does_sopen n (State.nmeSopen_of_operand h hh hb hs ha hp)⟩
  case sclose =>
    exact fun h => ⟨fun hb => does_sclose n (State.nmeSclose_of_unbound h hb),
      fun hb => ⟨fun hw => does_sclose n (State.nmeSclose_of_busy h hb hw),
        fun ha hn => does_sclose n (State.nmeSclose_of_drained h hb ha hn)⟩⟩

end Sys2Proof.NmeInstructions
end

section
/-!
The judgement of a stack at the end of an interval and what its feedback does to a source (R348, R352, R353), the effective
minimum of a class (R346), and what a write of the registers of regulation starts (R345, R357).
-/
namespace Sys2Proof.Machine

section Interval

variable {s : State} {m q mask bytes : Nat}

theorem State.judgeDepth_of_high (h : s.fld R.RGL_QFB_CTL F.RGL_QFB_CTL_HIGH ≤ q) :
    s.judgeDepth m q mask =
      let u := (s.setFld (R.RGL_STK_STATUS m) F.RGL_STK_STATUS_CONGESTED 1).bump (R.RGL_STK_CNT m) F.RGL_STK_CNT_CONGESTED
      if s.flag R.RGL_CTL F.RGL_CTL_QFB_EN then u.sendFeedback m (2 + mask) else u := if_pos h

/-- The threshold HIGH is asked first, so LOW decides below it alone. -/
theorem State.judgeDepth_of_low (hh : q < s.fld R.RGL_QFB_CTL F.RGL_QFB_CTL_HIGH)
    (hl : q ≤ s.fld R.RGL_QFB_CTL F.RGL_QFB_CTL_LOW) :
    s.judgeDepth m q mask =
      let u := s.setFld (R.RGL_STK_STATUS m) F.RGL_STK_STATUS_CONGESTED 0
      if s.flag R.RGL_CTL F.RGL_CTL_QFB_EN then u.sendFeedback m 1 else u :=
  (if_neg (Nat.not_le.mpr hh)).trans (if_pos hl)

theorem State.judgeDepth_of_between (hl : s.fld R.RGL_QFB_CTL F.RGL_QFB_CTL_LOW < q)
    (hh : q < s.fld R.RGL_QFB_CTL F.RGL_QFB_CTL_HIGH) : s.judgeDepth m q mask = s.sendFeedback m 0 :=
  (if_neg (Nat.not_le.mpr hh)).trans (if_neg (Nat.not_le.mpr hl))

/-- The queue depth is judged between what the interval shows and the start of the next: the classes over their minimum and
the charge of class 15 are those of the interval that ends. -/
theorem State.qfbInterval_of_judged {t : State}
    (h : ((s.setFld (R.RGL_STK_STATUS m) F.RGL_STK_STATUS_Q q).countThrottled m).judgeDepth m q (s.overMinimum m) = t) :
    s.qfbInterval m q = (t.startInterval m).judgeHigh m (Tab.get (fun _ => 0) s.rgl.charged (rglKey m 15)) := by
  rw [State.qfbInterval, h]

theorem State.judgeHigh_of_within (h : bytes * 10000 ≤ s.fld (R.RGL_STK_CFG m) F.RGL_STK_CFG_HPRES * 2048) :
    s.judgeHigh m bytes = s := if_neg (Nat.not_lt.mpr h)

theorem State.judgeHigh_of_over (h : s.fld (R.RGL_STK_CFG m) F.RGL_STK_CFG_HPRES * 2048 < bytes * 10000) :
    s.judgeHigh m bytes =
      let u := s.bump (R.RGL_STK_CNT m) F.RGL_STK_CNT_HP_OVER
      if u.fld (R.RGL_STK_CNT m) F.RGL_STK_CNT_HP_OVER ≠ s.fld (R.RGL_STK_CNT m) F.RGL_STK_CNT_HP_OVER ∧
        u.fld (R.RGL_STK_CNT m) F.RGL_STK_CNT_HP_OVER % 256 = 0 then u.raise 94 else u := if_pos h

end Interval

section Feedback

variable {s : State} {src m n : Nat} (hn : Tab.get (fun _ => 0) s.rgl.sent m = n)
include hn

theorem State.qfbReceive_of_clear (h : n = 1) :
    s.qfbReceive src m false =
      (List.range 16).foldl (fun s c => s.setLambda src m c (s.lambda src m c - 1)) s := if_pos (hn.trans h)

theorem State.qfbReceive_of_congested (h : 2 ≤ n) :
    s.qfbReceive src m true =
      (bitsOf 15 (n - 2)).foldl (fun s c => s.setLambda src m c (min 7 (s.lambda src m c + 1))) s := by
  subst hn; exact if_pos h

end Feedback

section Minimum

variable {s : State} {m c k : Nat}

theorem State.rglNew_of_disabled (h : s.rglLive m = false) : s.rglNew m c k = 0 := if_pos (by simp [h])

theorem State.rglNew_of_live (h : s.rglLive m = true) :
    s.rglNew m c k = if s.rglSum m k ≤ s.rglAvail m then s.rglActive m c k
      else s.rglActive m c k * s.rglAvail m / s.rglSum m k := if_neg (by simp [h])

theorem State.rglNew_of_unscaled (h : s.rglLive m = true) (hs : s.rglSum m k ≤ s.rglAvail m) :
    s.rglNew m c k = s.rglActive m c k := (s.rglNew_of_live h).trans (if_pos hs)

theorem State.rglNew_of_scaled (h : s.rglLive m = true) (hs : s.rglAvail m < s.rglSum m k) :
    s.rglNew m c k = s.rglActive m c k * s.rglAvail m / s.rglSum m k :=
  (s.rglNew_of_live h).trans (if_neg (Nat.not_le.mpr hs))

/-- Scaling never raises a minimum: the share avail / sum is below one. -/
theorem State.rglNew_le_rglActive_of_scaled (h : s.rglLive m = true) (hs : s.rglAvail m < s.rglSum m k) :
    s.rglNew m c k ≤ s.rglActive m c k := by
  rw [State.rglNew_of_scaled h hs]
  refine Nat.div_le_of_le_mul ?_
  calc s.rglActive m c k * s.rglAvail m
      ≤ s.rglActive m c k * s.rglSum m k := Nat.mul_le_mul_left _ (Nat.le_of_lt hs)
    _ = s.rglSum m k * s.rglActive m c k := Nat.mul_comm _ _

end Minimum

section Writes

variable {s : State} {v : Word}

theorem State.rglCntClr_of_set (h : F.RGL_CTL_CNT_CLR.isSet v = true) :
    s.rglCntClr v = s.clearRegs ((List.range 24).flatMap fun m =>
      R.RGL_STK_CNT m :: (List.range 16).map fun c => R.RGL_CNT m c) := if_pos h

theorem State.rglCntClr_of_unset (h : F.RGL_CTL_CNT_CLR.isSet v = false) : s.rglCntClr v = s :=
  if_neg (Bool.eq_false_iff.mp h)

theorem State.tdfArm_of_set (h : F.RGL_TDF_CTL_ARM.isSet v = true) :
    s.tdfArm v = s.setFld R.RGL_TDF_CTL F.RGL_TDF_CTL_ARMED 1 := if_pos h

end Writes

end Sys2Proof.Machine
end

section
/-!
The statement of the commands of regulation, settled from the lemmas above.
-/
namespace Sys2Proof.Regulation
open Sys2Proof.Machine

/-- Settles O39: an interval and a message of feedback act by the case of their thresholds, a minimum is scaled where the
sum exceeds what is available, and a write acts by what its register starts. -/
theorem regulationCommands : Obligations.RegulationCommands := by
  intro s m v by'
  refine ⟨?interval, ?high, ?feedback, ?minimum, ?stack, ?control, ?clear, ?done, ?arm⟩
  case interval =>
    intro depth r u tells does
    exact ⟨fun hh => does_qfbInterval m depth (State.qfbInterval_of_judged (State.judgeDepth_of_high hh)),
      fun hh hl => does_qfbInterval m depth (State.qfbInterval_of_judged (State.judgeDepth_of_low hh hl)),
      fun hl hh => does_qfbInterval m depth (State.qfbInterval_of_judged (State.judgeDepth_of_between hl hh))⟩
  case high => exact fun u bytes => ⟨State.judgeHigh_of_within, State.judgeHigh_of_over⟩
  case feedback =>
    exact fun src n hn => ⟨fun h => does_qfbClear src m (State.qfbReceive_of_clear hn h),
      fun h => does_qfbCongested src m (State.qfbReceive_of_congested hn h)⟩
  case minimum =>
    refine fun c => ⟨does_rglRecompute (.minimum m c) v by' (s.write_RGL_MIN m c v by'), fun k => ?_⟩
    exact ⟨State.rglNew_of_disabled, State.rglNew_of_unscaled,
      fun h hs => ⟨State.rglNew_of_scaled h hs, State.rglNew_le_rglActive_of_scaled h hs⟩⟩
  case stack => exact does_rglRecompute (.stack m) v by' (s.write_RGL_STK_CFG m v by')
  case control =>
    intro t h
    exact does_rglRecompute .control v by' ((s.write_RGL_CTL v by').trans (by rw [State.rglCntClr_of_unset h]; rfl))
  case clear =>
    exact fun h => does_rglCntClr v by' ((s.write_RGL_CTL v by').trans (by rw [State.rglCntClr_of_set h]; rfl))
  case done => exact does_rglRecomputeDone rfl
  case arm =>
    exact fun h => does_tdfArm v by' ((s.write_RGL_TDF_CTL v by').trans (by rw [State.tdfArm_of_set h]))

end Sys2Proof.Regulation
end

section
/-!
The states of a port (R370): what each event of training, and each fault of a port that is UP, does in the state that it
concerns.
-/
namespace Sys2Proof.Machine

section Control

variable {s : State} {p : Nat} {v : Word}

theorem State.linkEnabled_of_disabled (h : s.linkState p = lkDISABLED) :
    s.linkEnabled p = s.setLink p (if s.boot.portsFree then lkDETECT else lkRESET_HOLD) := if_pos h

theorem State.linkEnabled_of_enabled (h : s.linkState p ≠ lkDISABLED) : s.linkEnabled p = s := if_neg h

theorem State.linkDisabled_of_up (h : s.linkState p = lkUP) : s.linkDisabled p = s.leaveUp p lkDISABLED 0 := if_pos h

theorem State.linkDisabled_of_down (h : s.linkState p ≠ lkUP) : s.linkDisabled p = s.setLink p lkDISABLED := if_neg h

theorem State.linkRetrain_of_up (h : s.linkState p = lkUP) : s.linkRetrain p = s.leaveUp p lkDETECT 0 :=
  (if_neg (by simp [h, lkUP, lkDISABLED, lkRESET_HOLD])).trans (if_pos h)

theorem State.linkRetrain_of_training (hd : s.linkState p ≠ lkDISABLED) (hr : s.linkState p ≠ lkRESET_HOLD)
    (hu : s.linkState p ≠ lkUP) : s.linkRetrain p = s.setLink p lkDETECT :=
  (if_neg (not_or.2 ⟨hd, hr⟩)).trans (if_neg hu)

/-! CNT_CLR, EN and RETRAIN act in this order; RETRAIN and CNT_CLR meet a port that the kept EN leaves as it is. -/

theorem State.linkCtl_of_enable (he : F.LNK_CTL_EN.isSet v = true) (hr : F.LNK_CTL_RETRAIN.isSet v = false)
    (hc : F.LNK_CTL_CNT_CLR.isSet v = false) : s.linkCtl p v = s.linkEnabled p := by simp [State.linkCtl, he, hr, hc]

theorem State.linkCtl_of_disable (he : F.LNK_CTL_EN.isSet v = false) (hr : F.LNK_CTL_RETRAIN.isSet v = false)
    (hc : F.LNK_CTL_CNT_CLR.isSet v = false) : s.linkCtl p v = s.linkDisabled p := by simp [State.linkCtl, he, hr, hc]

theorem State.linkCtl_of_retrain (he : F.LNK_CTL_EN.isSet v = true) (hr : F.LNK_CTL_RETRAIN.isSet v = true)
    (hc : F.LNK_CTL_CNT_CLR.isSet v = false) (hd : s.linkState p ≠ lkDISABLED) : s.linkCtl p v = s.linkRetrain p := by
  simp [State.linkCtl, he, hr, hc, State.linkEnabled_of_enabled hd]

theorem State.linkCtl_of_clear (he : F.LNK_CTL_EN.isSet v = true) (hr : F.LNK_CTL_RETRAIN.isSet v = false)
    (hc : F.LNK_CTL_CNT_CLR.isSet v = true) (hd : (s.linkClear p).linkState p ≠ lkDISABLED) :
    s.linkCtl p v = s.linkClear p := by
  simp [State.linkCtl, he, hr, hc, State.linkEnabled_of_enabled hd]

/-- What a write of LNK_CTL does: its effect on the port between the stored fields and the journal entry. -/
theorem State.write_LNK_CTL_of_linkCtl {t : State} (p : Fin 32) (by' : Origin)
    (h : (s.written (R.LNK_CTL p.val) v).linkCtl p.val v = t) :
    s.regWrite (R.LNK_CTL p.val) v by' = t.journalled s (R.LNK_CTL p.val) by' := by
  rw [s.write_LNK_CTL p v by', h]

end Control

section Detect

variable {s : State} {p : Nat} {lanes : Byte}

theorem seesSignal_of_two (h : 2 ≤ (bitsOf 8 lanes.toNat).length) : seesSignal lanes = true := decide_eq_true h

theorem State.detectSignal_of_signal (h : s.linkState p = lkDETECT ∨ s.linkState p = lkABSENT)
    (hl : seesSignal lanes = true) : s.detectSignal p lanes = s.enterAlign p := if_pos ⟨h, hl⟩

theorem State.absentCheck_of_signal (h : s.linkState p = lkABSENT) (hl : seesSignal lanes = true) :
    s.absentCheck p lanes = s.enterAlign p := if_pos ⟨h, hl⟩

end Detect

section Equalise

variable {s : State} {p i : Nat} {inverted : Bool} {eyes : List Byte}

theorem State.symbolLock_of_locked (h : s.linkState p = lkALIGN ∨ s.linkState p = lkEQ_SEARCH) :
    s.symbolLock p i inverted false =
      let u := s.setLane p { s.lane p with locked := setBit (s.lane p).locked i }
      if inverted then u.setFld (R.LNK_LANES p) F.LNK_LANES_POL_INV
        (setBit (u.fld (R.LNK_LANES p) F.LNK_LANES_POL_INV) i) else u := if_pos h

theorem State.symbolLock_of_offRate (h : s.linkState p = lkALIGN ∨ s.linkState p = lkEQ_SEARCH) :
    s.symbolLock p i inverted true =
      let u := (s.setLane p { s.lane p with
        offRate := setBit (s.lane p).offRate i, locked := clearBit (s.lane p).locked i }).linkReason p lrFREQ
      if bit (s.lane p).offRate i then u else u.raise (610 + 4 * p) := if_pos h

theorem State.alignEnd_of_align (h : s.linkState p = lkALIGN) :
    s.alignEnd p =
      let u := s.setLane p { s.lane p with search := 255 - s.fastLanes p }
      if s.fastLanes p = 0 then u.enterSearch p else u.setLink p lkEQ_FAST := if_pos h

theorem State.eqFastEnd_of_fast (h : s.linkState p = lkEQ_FAST) :
    s.eqFastEnd p eyes =
      let u := (laneList.filter fun i => !bit (s.lane p).search i).foldl
        (fun u i => u.judgeFast p i (eyes.getD i 0).toNat) s
      if (u.lane p).search = 0 then u.setLink p lkLANE_CHECK else u.enterSearch p := if_pos h

theorem State.eqSearchEnd_of_searched (h : s.linkState p = lkEQ_SEARCH) (hs : (s.lane p).step = 16) :
    s.eqSearchEnd p = ((bitsOf 8 (s.lane p).search).foldl (fun u i =>
      u.judgeSearched p i ((s.lane p).best.getD i (0, 0))) s).setLink p lkLANE_CHECK := if_pos ⟨h, hs⟩

/-- With an eye for every lane, each lane's EYE takes its own. -/
theorem State.eyeMeasure_of_up (h : s.linkState p = lkUP) (he : eyes.length = 8) :
    s.eyeMeasure p eyes = laneList.foldl (fun u i => u.setEye p i (eyes.getD i 0).toNat) s := by
  refine (if_pos h).trans (List.foldl_ext _ _ _ fun u i hi => ?_)
  have hlt : i < eyes.length := he.symm ▸ List.mem_range.1 hi
  simp [hlt]

end Equalise

section Train

variable {s r : State} {p us : Nat} {copies good : List (Nat × List Byte)} {l : List Byte}

theorem State.chooseWidth_of_some {k g : Nat}
    (hr : (if (s.lane p).crossed = 0 then s else s.linkReason p lrLANE_ORDER) = r)
    (hw : widthChoice (r.fld (R.LNK_CTL p) F.LNK_CTL_WIDTH_MASK) (r.usableLanes p) = some (k, g)) :
    s.chooseWidth p us = (r.setLane p { s.lane p with width := k, group := g, matched := 0 }).setLink p lkCONFIG := by
  subst hr
  simp only [State.chooseWidth, hw]

theorem State.chooseWidth_of_none
    (hr : (if (s.lane p).crossed = 0 then s else s.linkReason p lrLANE_ORDER) = r)
    (hw : widthChoice (r.fld (R.LNK_CTL p) F.LNK_CTL_WIDTH_MASK) (r.usableLanes p) = none) :
    s.chooseWidth p us = r.holdDown p lrWIDTH us := by
  subst hr
  simp only [State.chooseWidth, hw]

variable (hg : (copies.filter fun c => trainGood c.2) = good) (hl : good.head?.map Prod.snd = some l)
include hg hl

/-- A set with a good copy acts from ALIGN to CONFIG: what it tells is noted first, in each of these states. -/
theorem State.trainRx_of_good (ha : lkALIGN ≤ s.linkState p) (hc : s.linkState p ≤ lkCONFIG) :
    s.trainRx p copies us =
      let u := s.trainSeen p good (trainSym l 3)
      if s.linkState p = lkLANE_CHECK then
        if trainSym l 1 = 0x11 ∨ bit (trainSym l 6) 0 then u.chooseWidth p us else u
      else if s.linkState p = lkCONFIG then
        let n := if (s.lane p).matches good then (s.lane p).matched + 1 else 0
        let r := u.setLane p { u.lane p with matched := n }
        if n = 8 then r.enterUp p us else r
      else u := by
  subst hg
  obtain ⟨⟨i, l'⟩, hh, rfl⟩ := Option.map_eq_some_iff.1 hl
  have hst : ¬ (s.linkState p < lkALIGN ∨ lkCONFIG < s.linkState p) := not_or.2 ⟨Nat.not_lt.2 ha, Nat.not_lt.2 hc⟩
  rw [State.trainRx, hh]
  exact if_neg hst

theorem State.trainRx_of_equalising (ha : lkALIGN ≤ s.linkState p) (hc : s.linkState p < lkLANE_CHECK) :
    s.trainRx p copies us = s.trainSeen p good (trainSym l 3) := by
  have hconfig : s.linkState p < lkCONFIG := Nat.lt_succ_of_lt hc
  exact (State.trainRx_of_good hg hl ha hconfig.le).trans ((if_neg hc.ne).trans (if_neg hconfig.ne))

theorem State.trainRx_of_laneCheck (h : s.linkState p = lkLANE_CHECK) :
    s.trainRx p copies us =
      let u := s.trainSeen p good (trainSym l 3)
      if trainSym l 1 = 0x11 ∨ bit (trainSym l 6) 0 then u.chooseWidth p us else u :=
  (State.trainRx_of_good hg hl (h ▸ by decide) (h ▸ by decide)).trans (if_pos h)

theorem State.trainRx_of_config (h : s.linkState p = lkCONFIG) :
    s.trainRx p copies us =
      let u := s.trainSeen p good (trainSym l 3)
      let n := if (s.lane p).matches good then (s.lane p).matched + 1 else 0
      let r := u.setLane p { u.lane p with matched := n }
      if n = 8 then r.enterUp p us else r :=
  (State.trainRx_of_good hg hl (h ▸ by decide) h.le).trans ((if_neg (h ▸ by decide)).trans (if_pos h))

end Train

section Faults

variable {s : State} {p i : Nat}

theorem State.laneActive_iff : s.laneActive p i = true ↔
    s.linkState p = lkUP ∧ bit (s.fld (R.LNK_STATUS p) F.LNK_STATUS_LANES) i = true := by simp [State.laneActive]

theorem State.linkFault_of_up {reason : Nat} (h : s.linkState p = lkUP) :
    s.linkFault p reason = s.leaveUp p lkDETECT reason := if_pos h

theorem State.elasticFill_of_within {fill : Nat} (hl : 4 < fill) (hh : fill < 60) : s.elasticFill p i fill = s :=
  if_neg (by simp [hl, hh])

variable (h : s.laneActive p i = true)
include h

theorem State.alignLoss_of_active :
    s.alignLoss p i = (s.bump (R.LNK_LANE p i) F.LNK_LANE_ALIGN_LOSS).linkFault p lrALIGN_LOSS := if_pos h

theorem State.codeErrors_of_active {code disp : Nat} :
    s.codeErrors p i code disp =
      let u := (s.bump (R.LNK_LANE p i) F.LNK_LANE_CODE_ERR code).bump (R.LNK_LANE p i) F.LNK_LANE_DISP_ERR disp
      if u.fld (R.LNK_CFG p) F.LNK_CFG_ERR_THRESH ≤ code + disp then u.linkFault p lrERRORS else u := if_pos h

theorem State.elasticFill_of_limit {fill : Nat} (hf : fill ≤ 4 ∨ 60 ≤ fill) :
    s.elasticFill p i fill = (s.bump (R.LNK_CNT p) F.LNK_CNT_ELASTIC).linkFault p lrELASTIC :=
  if_pos (by simpa [h] using hf)

end Faults

end Sys2Proof.Machine
end

section
/-!
The statement of the commands of Thegief lanes, settled from the lemmas above.
-/
namespace Sys2Proof.Lanes
open Sys2Proof.Machine

/-- Settles O40: each command acts in the states that it concerns, a write of LNK_CTL by its EN, RETRAIN and CNT_CLR,
and a TRAIN set by the state that it finds the port in. -/
theorem linkCommands : Obligations.LinkCommands := by
  intro s p lane v by' us st x ctl w lkst active
  refine ⟨?enable, ?disable, ?retrain, ?clear, ?resetHold, ?signal, fun h => does_detectTimeout p (if_pos h), ?lock,
    ?align, ?eyes, fun h hs => does_eqSearchEnd p us (State.eqSearchEnd_of_searched h hs), ?train,
    fun h => does_laneCheckTimeout p us (if_pos h), fun h => does_configTimeout p us (if_pos h), fun r => rfl,
    fun h => does_heldDownRetry p (if_pos h), ?alignLoss, ?errors, ?buffers,
    fun h => does_lossOfSignal p (State.linkFault_of_up h), fun next r => rfl⟩
  case enable =>
    intro he hr hc
    have hw := State.linkCtl_of_enable (s := w) (p := p.val) he hr hc
    exact ⟨fun h => does_linkEnable p v by'
        (State.write_LNK_CTL_of_linkCtl p by' (hw.trans (State.linkEnabled_of_disabled h))),
      fun h => does_linkEnable p v by' (State.write_LNK_CTL_of_linkCtl p by' (hw.trans (State.linkEnabled_of_enabled h)))⟩
  case disable =>
    intro he hr hc
    have hw := State.linkCtl_of_disable (s := w) (p := p.val) he hr hc
    exact ⟨fun h => does_linkDisable p v by'
        (State.write_LNK_CTL_of_linkCtl p by' (hw.trans (State.linkDisabled_of_down h))),
      fun h => does_linkDisable p v by' (State.write_LNK_CTL_of_linkCtl p by' (hw.trans (State.linkDisabled_of_up h)))⟩
  case retrain =>
    intro he hr hc hd hh
    have hw := State.linkCtl_of_retrain he hr hc hd
    exact ⟨fun h => does_retrain p v by' (State.write_LNK_CTL_of_linkCtl p by' (hw.trans (State.linkRetrain_of_up h))),
      fun h => does_retrain p v by'
        (State.write_LNK_CTL_of_linkCtl p by' (hw.trans (State.linkRetrain_of_training hd hh h)))⟩
  case clear =>
    exact fun he hr hc hd => does_lnkCntClr p v by'
      (State.write_LNK_CTL_of_linkCtl p by' (State.linkCtl_of_clear he hr hc hd))
  case resetHold => exact ⟨fun h => does_resetHoldEnd p (if_pos h), fun h => does_resetHoldEnd p (if_neg h)⟩
  case signal =>
    intro lanes hl
    exact ⟨fun h => does_detectSignal p lanes (State.detectSignal_of_signal h (seesSignal_of_two hl)),
      fun h => does_absentCheck p lanes (State.absentCheck_of_signal h (seesSignal_of_two hl))⟩
  case lock =>
    exact fun h => ⟨fun inverted => does_symbolLock p lane inverted false (State.symbolLock_of_locked h),
      fun inverted => does_symbolLock p lane inverted true (State.symbolLock_of_offRate h)⟩
  case align =>
    intro h u
    have hend := State.alignEnd_of_align h
    exact ⟨fun h0 => does_alignEnd p us (hend.trans (if_pos h0)), fun h0 => does_alignEnd p us (hend.trans (if_neg h0))⟩
  case eyes =>
    refine fun eyes => ⟨fun h => ?fast, fun h hs => does_eqSearchStep p eyes (if_pos ⟨h, hs⟩),
      fun h he => does_eyeMeasure p eyes (State.eyeMeasure_of_up h he)⟩
    have hend := State.eqFastEnd_of_fast (eyes := eyes) h
    exact ⟨fun h0 => does_eqFastEnd p eyes us (hend.trans (if_pos h0)),
      fun h0 => does_eqFastEnd p eyes us (hend.trans (if_neg h0))⟩
  case train =>
    intro copies l good u hl
    refine ⟨fun ha hc => does_trainSetRx p copies us (State.trainRx_of_equalising rfl hl ha hc), fun h => ?laneCheck,
      fun h => ?config⟩
    case laneCheck =>
      have hrx := State.trainRx_of_laneCheck (us := us) rfl hl h
      refine ⟨fun h1 h6 => does_trainSetRx p copies us (hrx.trans (if_neg (by simp [h1, h6]))), fun hd => ?_⟩
      have hchoose := hrx.trans (if_pos hd)
      exact ⟨fun k g hw => does_trainSetRx p copies us (hchoose.trans (State.chooseWidth_of_some rfl hw)),
        fun hw => does_trainSetRx p copies us (hchoose.trans (State.chooseWidth_of_none rfl hw))⟩
    case config =>
      have hrx := State.trainRx_of_config (us := us) rfl hl h
      exact ⟨fun hn => does_trainSetRx p copies us (hrx.trans (if_neg hn)),
        fun hn => does_trainSetRx p copies us (hrx.trans (if_pos hn))⟩
  case alignLoss => exact fun h => does_alignLoss p lane (State.alignLoss_of_active (State.laneActive_iff.2 h))
  case errors =>
    intro code disp h
    have herr := State.codeErrors_of_active (State.laneActive_iff.2 h) (code := code) (disp := disp)
    exact ⟨fun ht => does_errors p lane code disp (herr.trans (if_neg (Nat.not_le.2 ht))),
      fun ht => does_errors p lane code disp (herr.trans (if_pos ht))⟩
  case buffers =>
    refine ⟨fun fill h => ?_, fun h => does_deskew p (if_pos h)⟩
    exact ⟨fun hf => does_elastic p lane fill (State.elasticFill_of_limit (State.laneActive_iff.2 h) hf),
      fun hl hh => does_elastic p lane fill (State.elasticFill_of_within hl hh)⟩

end Sys2Proof.Lanes
end

section
/-!
What ends every command (Machine/Settle.lean): each command answers a next state by it, with the queue as it was, and it
leaves every site that has drained in QUIESCED or FAULT in reset (R409).
-/
namespace Sys2Proof.Machine

/-- Every command runs an effect of its own and then settles. -/
theorem exists_exec_eq_act (i : Instr) (s : State) : ∃ f : State → State, exec i s = s.act f := by
  delta exec
  cases i
  all_goals dsimp only
  all_goals exact ⟨_, rfl⟩

section Sites

variable {s : State}

/-- The registers that a site's reset writes are registers of the site. -/
theorem State.reg_resetSite_ne {d r : Nat} (hr : r ≠ R.TDI_SITE_STATUS d) (hp : r ≠ R.TDI_PWR_STATUS d)
    (hg : r ≠ R.TDI_PWR_GRANT d) : (s.resetSite d).reg r = s.reg r := by
  simp only [State.resetSite, State.forceGrant, State.setFld, State.reg_setReg_ne _ _ hp, State.reg_setReg_ne _ _ hg,
    State.reg_setReg_ne _ _ hr]

theorem State.topState_resetSite (d : Nat) : (s.resetSite d).topState = s.topState := by
  unfold State.topState State.fld
  rw [State.reg_resetSite_ne]
  all_goals simp only [R.TOP_STATE, R.TDI_SITE_STATUS, R.TDI_PWR_STATUS, R.TDI_PWR_GRANT]; omega

/-- A site's reset asserts its SITE_RST. -/
theorem State.siteReset_resetSite (d : Nat) : (s.resetSite d).siteReset d = true := by
  have hp : R.TDI_SITE_STATUS d ≠ R.TDI_PWR_STATUS d := by simp [R.TDI_SITE_STATUS, R.TDI_PWR_STATUS]
  have hg : R.TDI_SITE_STATUS d ≠ R.TDI_PWR_GRANT d := by simp [R.TDI_SITE_STATUS, R.TDI_PWR_GRANT]
  simp only [State.siteReset, State.flag, State.resetSite, State.forceGrant, State.fld_setFld_ne _ _ _ _ hp,
    State.fld_setFld_ne _ _ _ _ hg, State.fld_setFld _ _ F.TDI_SITE_STATUS_RESET _ (by decide) (by decide)]
  decide

/-- It leaves the SITE_RST of another site as it is. -/
theorem State.siteReset_resetSite_ne {d e : Nat} (h : e ≠ d) : (s.resetSite d).siteReset e = s.siteReset e := by
  unfold State.siteReset State.flag State.fld
  rw [State.reg_resetSite_ne]
  all_goals simp only [R.TDI_SITE_STATUS, R.TDI_PWR_STATUS, R.TDI_PWR_GRANT, ne_eq]; omega

theorem State.siteIdle_resetSite (d e : Nat) : (s.resetSite d).siteIdle e = s.siteIdle e := by
  have hs : (s.resetSite d).sites = s.sites := by
    rw [State.resetSite, State.forceGrant, State.setFld_sites, State.setFld_sites, State.setFld_sites, State.setFld_sites]
  unfold State.siteIdle State.sitePort
  rw [hs]

/-- Of some sites, each that is idle is put in reset, and no other's reset ends. -/
theorem State.foldl_resetSite (l : List Nat) (s : State) :
    let t := l.foldl (fun s d => if s.siteIdle d then s.resetSite d else s) s
    t.topState = s.topState ∧ (∀ d, t.siteIdle d = s.siteIdle d) ∧
      ∀ d, d ∈ l ∧ s.siteIdle d = true ∨ s.siteReset d = true → t.siteReset d = true := by
  induction l generalizing s with
  | nil => exact ⟨rfl, fun _ => rfl, fun d hd => hd.resolve_left fun h => nomatch h.1⟩
  | cons e l ih =>
    by_cases he : s.siteIdle e = true
    · obtain ⟨htop, hidle, hreset⟩ := ih (s.resetSite e)
      simp only [List.foldl_cons, if_pos he]
      refine ⟨htop.trans (State.topState_resetSite e), fun d => (hidle d).trans (State.siteIdle_resetSite e d),
        fun d hd => hreset d ?_⟩
      by_cases hde : d = e
      · exact .inr (by rw [hde, State.siteReset_resetSite])
      · rw [State.siteReset_resetSite_ne hde, State.siteIdle_resetSite]
        exact hd.imp (fun h => ⟨(List.mem_cons.1 h.1).resolve_left hde, h.2⟩) id
    · obtain ⟨htop, hidle, hreset⟩ := ih s
      simp only [List.foldl_cons, if_neg he]
      refine ⟨htop, hidle, fun d hd => hreset d (hd.imp (fun h => ⟨(List.mem_cons.1 h.1).resolve_left ?_, h.2⟩) id)⟩
      rintro rfl
      exact he h.2

/-- Once the sites have settled, each that is idle in QUIESCED and FAULT is in reset. -/
theorem State.sitesHeld_settleSites (s : State) : s.settleSites.sitesHeld := by
  unfold State.settleSites
  split
  case isTrue hq =>
    split
    case isTrue hall =>
      exact fun _ d _ => List.all_eq_true.1 hall d (List.mem_range.2 d.isLt)
    case isFalse =>
      obtain ⟨-, hidle, hreset⟩ := State.foldl_resetSite (List.range 8) s
      exact fun _ d hd => hreset d (.inl ⟨List.mem_range.2 d.isLt, (hidle d).symm.trans hd⟩)
  case isFalse hq => exact fun h => absurd h hq

theorem State.sitesHeld_settle (s : State) : s.settle.sitesHeld := State.sitesHeld_settleSites _

end Sites

section Tick

variable {s : State}

/-- Without power of the management domain no time passes (log 1). -/
theorem State.tick_of_off (h : s.power.on = false) : s.tick = s := by
  rw [State.tick, h]; rfl

@[simp] theorem State.bump_now (off : Nat) (f : Fld) (k : Nat) : (s.bump off f k).now = s.now := rfl

@[simp] theorem State.setEngine_now (n : Nat) (e : EngineState) : (s.setEngine n e).now = s.now := rfl

@[simp] theorem State.setSlice_now (m : Nat) (x : SliceState) : (s.setSlice m x).now = s.now := by
  rw [State.setSlice, State.mscShow, State.setFld_now, State.setFld_now, State.setFld_now, State.setFld_now]

theorem State.now_engineTick (s : State) (n : Nat) : (s.engineTick n).now = s.now := by
  unfold State.engineTick
  dsimp only
  rw [apply_ite State.now, apply_ite State.now, State.bump_now, State.setEngine_now, ite_self, ite_self]

theorem State.now_mscSweepCycle (s : State) (m : Nat) : (s.mscSweepCycle m).now = s.now := by
  unfold State.mscSweepCycle
  dsimp only
  split
  · exact State.setSlice_now _ _
  · rfl

/-- With power local time goes on by one fabric cycle (log 1). -/
theorem State.now_tick_of_on (h : s.power.on = true) : s.tick.now = s.now + 1 := by
  have keeps {f : State → Nat → State} (hf : ∀ u n, (f u n).now = u.now) (l : List Nat) (u : State) :
      (l.foldl f u).now = u.now :=
    List.foldlRecOn l f (motive := fun x => x.now = u.now) rfl fun x hx n _ => (hf x n).trans hx
  rw [State.tick, if_pos h]
  exact (keeps State.now_mscSweepCycle _ _).trans (keeps State.now_engineTick _ _)

end Tick

section Step

variable {s : State} {rest : List Instr}

theorem step_of_command (c : Instr) (h : s.pending = c :: rest) : step s = exec c { s with pending := rest } := by
  simp only [step, h]

theorem step_of_idle (h : s.pending = []) : step s = .next s.tick.settle := by
  simp only [step, h]

/-- A command answers a next state in which the queue is as it was, and which what ends every command has left. -/
theorem exec_next (c : Instr) (s : State) :
    ∃ u : State, exec c s = .next { u.settle with pending := s.pending } := by
  obtain ⟨f, hf⟩ := exists_exec_eq_act c s
  exact ⟨f s, hf⟩

/-- The state that a step answers has its sites held as R409 says: what waits in the queue is no part of that. -/
theorem State.sitesHeld_of_step {t : State} (h : step s = .next t) : t.sitesHeld := by
  cases hp : s.pending with
  | nil =>
    rw [step_of_idle hp] at h
    cases h
    exact State.sitesHeld_settle _
  | cons c rest =>
    obtain ⟨u, hu⟩ := exec_next c { s with pending := rest }
    rw [step_of_command c hp, hu] at h
    cases h
    exact State.sitesHeld_settle u

end Step

end Sys2Proof.Machine
end

section
/-!
The statements of the step, settled from the lemmas above.
-/
namespace Sys2Proof.Steps
open Sys2Proof.Machine

/-- Settles O7: a step ends in what settles the sites, and each idle one is then in reset. -/
theorem stepKeepsSitesHeld : Obligations.StepKeepsSitesHeld := fun _ _ h => State.sitesHeld_of_step h

/-- Settles O1: a queue with a command at its front is one that a step takes it from. -/
theorem stepRunsFront : Obligations.StepRunsFront := fun c s => step_of_command (s := { s with pending := c :: s.pending }) c rfl

/-- Settles O2: an idle step is a tick, and no stage of a tick but the first moves local time. -/
theorem idleStep : Obligations.IdleStep :=
  fun _ h => ⟨step_of_idle h, State.tick_of_off, State.now_tick_of_on⟩

/-- Settles O3: each command is an effect with what ends every command. -/
theorem everyCommandAnswers : Obligations.EveryCommandAnswers := by
  intro c s
  obtain ⟨u, hu⟩ := exec_next c s
  exact ⟨_, hu, rfl⟩

/-- Settles O5: what ends every command finds nothing to do. -/
theorem settleCalm : Obligations.SettleCalm := by
  intro u hu
  have hs := calm_settle u hu
  refine ⟨hs, fun i s hd => ?_⟩
  rw [hd.next, hs]

end Sys2Proof.Steps
end

section
/-!
The header of a husk (R379 to R382). Its fields stand side by side: those common to every type in the low 57 bits, those of
its type above them. Where every field fits its place, each reads back as it was written.
-/
namespace Sys2Proof.Husk

variable {h : Husk}

/-- The part of the header that a type of its own gives, from bit 57 on (R381, R382). -/
def typeBits (h : Husk) : Nat :=
  if isRequest h.typ then h.rid % 16384 + h.addr % 2 ^ 41 * 2 ^ 14 + h.ctx % 4096 * 2 ^ 55 + h.opx % 16 * 2 ^ 67
  else if h.typ = RSP then h.status % 256 + (if h.mc then 2 ^ 8 else 0)
  else if h.typ = CRD then h.freed.1 % 65536 * 2 ^ 7 + h.freed.2.1 % 65536 * 2 ^ 23 + h.freed.2.2 % 65536 * 2 ^ 39
  else if h.typ = CTL then (if h.link then 1 else 0)
  else 0

theorem commonBits_lt (h : Husk) : h.commonBits < 2 ^ 57 := by
  unfold commonBits
  omega

theorem typeBits_lt (h : Husk) : h.typeBits < 2 ^ 71 := by
  unfold typeBits
  repeat' split
  all_goals omega

theorem toNat_header (h : Husk) : h.header.toNat = h.commonBits + 2 ^ 57 * h.typeBits := by
  have hc := h.commonBits_lt
  have ht := h.typeBits_lt
  have he : h.header = BitVec.ofNat 128 (h.commonBits + 2 ^ 57 * h.typeBits) := by
    unfold header typeBits
    congr 2
    split
    · omega
    · split
      · split <;> omega
      · split
        · omega
        · split <;> simp
  rw [he, BitVec.toNat_ofNat, Nat.mod_eq_of_lt (by omega)]

/-- A field below bit 57 is one of the common part. -/
theorem slice_header_low (h : Husk) {hi lo : Nat} (hl : lo ≤ hi) (hh : hi < 57) :
    Word.slice h.header.toNat hi lo = Word.slice h.commonBits hi lo := by
  have e : (2 : Nat) ^ 57 = 2 ^ lo * (2 ^ (hi - lo + 1) * 2 ^ (56 - hi)) := by
    rw [← Nat.pow_add, ← Nat.pow_add]; congr 1; omega
  rw [toNat_header, Word.slice, Word.slice, e, Nat.mul_assoc, Nat.add_mul_div_left _ _ (Nat.two_pow_pos lo),
    Nat.mul_assoc, Nat.add_mul_mod_self_left]

/-- A field from bit 57 on is one of the type's part. -/
theorem slice_header_high (h : Husk) (hi lo : Nat) :
    Word.slice h.header.toNat (57 + hi) (57 + lo) = Word.slice h.typeBits hi lo := by
  rw [toNat_header, Word.slice, Word.slice, Nat.pow_add, ← Nat.div_div_eq_div_mul, Nat.add_mul_div_left _ _ (by decide),
    Nat.div_eq_of_lt h.commonBits_lt, Nat.zero_add, Nat.add_sub_add_left]

/-! What it means that the fields fit (R379 to R382): the common ones, then those of the type. -/

theorem lt_of_fits (hf : h.fits = true) : h.typ < 16 ∧ h.dest < 64 ∧ h.src < 64 ∧ h.tag < 4096 ∧ h.epoch < 16 ∧
    h.cls < 16 ∧ h.len < 32768 ∧ h.hops < 64 := by
  simp only [fits, Bool.and_eq_true, decide_eq_true_eq] at hf
  exact hf.1.1.1.1

theorem request_of_fits (hf : h.fits = true) :
    if isRequest h.typ then h.rid < 16384 ∧ h.addr < 2 ^ 41 ∧ h.ctx < 4096 ∧ h.opx < 16
    else h.rid = 0 ∧ h.addr = 0 ∧ h.ctx = 0 ∧ h.opx = 0 := by
  simp only [fits, Bool.and_eq_true] at hf
  simpa only [Bool.ite_eq_true_distrib, decide_eq_true_eq] using hf.1.1.1.2

theorem response_of_fits (hf : h.fits = true) :
    if h.typ = RSP then h.status < 256 else h.status = 0 ∧ h.mc = false := by
  simp only [fits, Bool.and_eq_true] at hf
  simpa only [Bool.ite_eq_true_distrib, decide_eq_true_eq] using hf.1.1.2

theorem credit_of_fits (hf : h.fits = true) :
    if h.typ = CRD then h.freed.1 < 65536 ∧ h.freed.2.1 < 65536 ∧ h.freed.2.2 < 65536 else h.freed = (0, 0, 0) := by
  simp only [fits, Bool.and_eq_true] at hf
  simpa only [Bool.ite_eq_true_distrib, decide_eq_true_eq] using hf.1.2

theorem control_of_fits (hf : h.fits = true) : h.typ = CTL ∨ h.link = false := by
  simp only [fits, Bool.and_eq_true] at hf
  obtain ⟨-, hl⟩ := hf
  split at hl
  · exact .inl ‹_›
  · exact .inr (by simpa using hl)

/-! Each field as the header spells it. -/

theorem slice_commonBits (hf : h.fits = true) :
    Word.slice h.commonBits 3 0 = h.typ ∧ Word.slice h.commonBits 9 4 = h.dest ∧
      Word.slice h.commonBits 15 10 = h.src ∧ Word.slice h.commonBits 27 16 = h.tag ∧
      Word.slice h.commonBits 31 28 = h.epoch ∧ Word.slice h.commonBits 35 32 = h.cls ∧
      Word.slice h.commonBits 50 36 = h.len ∧ Word.slice h.commonBits 56 51 = h.hops := by
  obtain ⟨ht, hd, hs, hg, he, hc, hl, hh⟩ := lt_of_fits hf
  simp only [Word.slice, commonBits, Nat.mod_eq_of_lt, ht, hd, hs, hg, he, hc, hl, hh]
  omega

section Types

theorem not_request_of_response (ht : h.typ = RSP) : isRequest h.typ = false := by rw [ht]; rfl

theorem not_request_of_credit (ht : h.typ = CRD) : isRequest h.typ = false := by rw [ht]; rfl

theorem not_request_of_control (ht : h.typ = CTL) : isRequest h.typ = false := by rw [ht]; rfl

theorem slice_typeBits_of_request (ht : isRequest h.typ = true) (hf : h.fits = true) :
    Word.slice h.typeBits 13 0 = h.rid ∧ Word.slice h.typeBits 54 14 = h.addr ∧
      Word.slice h.typeBits 66 55 = h.ctx ∧ Word.slice h.typeBits 70 67 = h.opx := by
  have hr := request_of_fits hf
  rw [if_pos ht] at hr
  obtain ⟨hi, ha, hc, ho⟩ := hr
  simp only [Word.slice, typeBits, if_pos ht, Nat.mod_eq_of_lt, hi, ha, hc, ho]
  omega

theorem slice_typeBits_of_response (ht : h.typ = RSP) (hf : h.fits = true) :
    Word.slice h.typeBits 7 0 = h.status ∧ (decide (Word.slice h.typeBits 8 8 = 1)) = h.mc := by
  have hr := response_of_fits hf
  rw [if_pos ht] at hr
  simp only [Word.slice, typeBits, not_request_of_response ht, if_pos ht, Nat.mod_eq_of_lt hr, Bool.false_eq_true,
    if_false]
  cases h.mc
  · simp; omega
  · simp; omega

theorem slice_typeBits_of_credit (ht : h.typ = CRD) (hf : h.fits = true) :
    (Word.slice h.typeBits 22 7, Word.slice h.typeBits 38 23, Word.slice h.typeBits 54 39) = h.freed := by
  have hr := credit_of_fits hf
  rw [if_pos ht] at hr
  obtain ⟨h0, h1, h2⟩ := hr
  have hn : h.typ ≠ RSP := by rw [ht]; decide
  simp only [Word.slice, typeBits, not_request_of_credit ht, if_neg hn, if_pos ht, Nat.mod_eq_of_lt, h0, h1, h2,
    Bool.false_eq_true, if_false]
  refine Prod.ext ?_ (Prod.ext ?_ ?_)
  all_goals dsimp only; omega

theorem slice_typeBits_of_control (ht : h.typ = CTL) : decide (Word.slice h.typeBits 0 0 = 1) = h.link := by
  have hr : h.typ ≠ RSP := by rw [ht]; decide
  have hc : h.typ ≠ CRD := by rw [ht]; decide
  simp only [Word.slice, typeBits, not_request_of_control ht, if_neg hr, if_neg hc, if_pos ht, Bool.false_eq_true, if_false]
  cases h.link <;> rfl

end Types

/-! A field that only one type has reads as it was written there, and as 0 in every other type. -/

section Reads

variable (hf : h.fits = true)
include hf

theorem read_request :
    (if isRequest h.typ then Word.slice h.header.toNat 70 57 else 0) = h.rid ∧
      (if isRequest h.typ then Word.slice h.header.toNat 111 71 else 0) = h.addr ∧
      (if isRequest h.typ then Word.slice h.header.toNat 123 112 else 0) = h.ctx ∧
      (if isRequest h.typ then Word.slice h.header.toNat 127 124 else 0) = h.opx := by
  have hr := request_of_fits hf
  by_cases hq : isRequest h.typ = true
  · simp only [if_pos hq]
    obtain ⟨h1, h2, h3, h4⟩ := slice_typeBits_of_request hq hf
    exact ⟨(h.slice_header_high 13 0).trans h1, (h.slice_header_high 54 14).trans h2,
      (h.slice_header_high 66 55).trans h3, (h.slice_header_high 70 67).trans h4⟩
  · simp only [if_neg hq] at hr ⊢
    obtain ⟨h1, h2, h3, h4⟩ := hr
    exact ⟨h1.symm, h2.symm, h3.symm, h4.symm⟩

theorem read_response :
    (if h.typ = RSP then Word.slice h.header.toNat 64 57 else 0) = h.status ∧
      (decide (h.typ = RSP) && decide (Word.slice h.header.toNat 65 65 = 1)) = h.mc := by
  have hr := response_of_fits hf
  by_cases hq : h.typ = RSP
  · rw [if_pos hq, h.slice_header_high 7 0, h.slice_header_high 8 8, decide_eq_true hq, Bool.true_and]
    exact slice_typeBits_of_response hq hf
  · rw [if_neg hq] at hr
    rw [if_neg hq, decide_eq_false hq, Bool.false_and]
    exact ⟨hr.1.symm, hr.2.symm⟩

theorem read_credit :
    (if h.typ = CRD then (Word.slice h.header.toNat 79 64, Word.slice h.header.toNat 95 80,
      Word.slice h.header.toNat 111 96) else (0, 0, 0)) = h.freed := by
  have hr := credit_of_fits hf
  by_cases hq : h.typ = CRD
  · rw [if_pos hq, h.slice_header_high 22 7, h.slice_header_high 38 23, h.slice_header_high 54 39]
    exact slice_typeBits_of_credit hq hf
  · rw [if_neg hq] at hr ⊢
    exact hr.symm

theorem read_control : (decide (h.typ = CTL) && decide (Word.slice h.header.toNat 57 57 = 1)) = h.link := by
  by_cases hq : h.typ = CTL
  · rw [h.slice_header_high 0 0, decide_eq_true hq, Bool.true_and]
    exact slice_typeBits_of_control hq
  · rw [decide_eq_false hq, Bool.false_and]
    exact ((control_of_fits hf).resolve_left hq).symm

/-- The header of a husk whose fields fit reads back as the husk. -/
theorem parse_header : parse h.header h.payload = h := by
  obtain ⟨ht, hd, hs, hg, he, hc, hl, hh⟩ := slice_commonBits hf
  obtain ⟨hrid, haddr, hctx, hopx⟩ := read_request hf
  obtain ⟨hstatus, hmc⟩ := read_response hf
  simp only [parse, h.slice_header_low, ht, hd, hs, hg, he, hc, hl, hh, hrid, haddr, hctx, hopx, hstatus, hmc,
    read_credit hf, read_control hf, Nat.reduceLeDiff, Nat.reduceLT, Nat.le_refl, Nat.zero_le]

end Reads

end Sys2Proof.Husk
end

section
/-!
The statement of the husk's header, settled from the lemmas above.
-/
namespace Sys2Proof.Thegief
open Sys2Proof.Machine

/-- Settles O22: a header reads back field by field, so husks with one header and one payload are what it reads back as. -/
theorem huskRoundTrip : Obligations.HuskRoundTrip := by
  refine ⟨fun h hf => Husk.parse_header hf, fun h g hh hg he hp => ?_⟩
  rw [← Husk.parse_header hh, ← Husk.parse_header hg, he, hp]

end Sys2Proof.Thegief
end

section
/-!
What a write's stored fields leave as it was: every register but the one that they are stored in, and every other part of
the state.
-/
namespace Sys2Proof.Machine

variable {s : State} {off r : Nat} {v : Word} {f : Fld}

theorem State.reg_written_ne (h : r ≠ storeOf off) : (s.written off v).reg r = s.reg r := State.reg_setReg_ne _ _ h

theorem State.fld_written_ne (h : r ≠ storeOf off) : (s.written off v).fld r f = s.fld r f := State.fld_setReg_ne _ _ _ h

theorem State.flag_written_ne (h : r ≠ storeOf off) : (s.written off v).flag r f = s.flag r f := by
  rw [State.flag, State.fld_written_ne h, State.flag]

end Sys2Proof.Machine
end

section
/-!
The request ports of a site (R411 to R421, R428): what a port takes, how far a port with one command goes, and how the
command at its front ends.
-/
namespace Sys2Proof.Machine

section Takes

variable {s : State} {d k : Nat} {w : BitVec 128}

@[simp] theorem State.sitePort_setSitePort (k : Nat) (x : SitePort) : (s.setSitePort k x).sitePort k = x := by
  rw [State.sitePort, State.setSitePort, State.setFld_sites, Tab.get_set_self]

/-- A command word without a violation joins the port's commands (R413, R414, R420, R421). -/
theorem State.siteCommand_of_sound (hf : s.siteFenced k = false) (hq : (s.sitePort k).queue.length < 64)
    (hc : Word.slice w.toNat 127 120 = tdChk w) (ht : (s.sitePort k).tagBusy (tdTag w) = false)
    (hw : (s.sitePort k).waits < 16) :
    s.siteCommand k w =
      s.setSitePort k { s.sitePort k with queue := (s.sitePort k).queue ++ [⟨w, [], false, false⟩] } := by
  simp [State.siteCommand, hf, hc, ht, Nat.not_le.2 hq, Nat.not_le.2 hw]

/-- An open site takes a word of its own row, and the port goes on. -/
theorem State.tdiCommand_of_open {p op : Nat} {u : State} (ho : s.siteOpen d = true) (hop : tdOp w = op)
    (hu : s.siteCommand (64 * d + p) w = u) : s.tdiCommand d p op w = u.siteGo (64 * d + p) := by
  rw [State.tdiCommand, ← hu]
  exact if_pos ⟨ho, .inl hop⟩

/-- A data flit goes to the first command that waits for one (R411). -/
theorem State.tdiFlit_of_lacking {p : Nat} {data : BitVec 512} {mask : BitVec 64} {par : Byte} (ho : s.siteOpen d = true)
    (hf : s.siteFenced (64 * d + p) = false)
    (hh : ((s.sitePort (64 * d + p)).queue.map SiteCommand.held).sum < 256)
    (hl : (s.sitePort (64 * d + p)).queue.any SiteCommand.lacking = true) :
    s.tdiFlit d p data mask par = (s.setSitePort (64 * d + p) { s.sitePort (64 * d + p) with
      queue := giveFlit (flitBytes data mask) (flitParity data.toNat != par) (s.sitePort (64 * d + p)).queue }).siteGo
        (64 * d + p) := by
  rw [State.tdiFlit, if_pos ho, State.siteFlit, hf, if_neg Bool.false_ne_true, if_neg (Nat.not_le.2 hh), if_pos hl]

/-- The command of each row takes a word of the row's OP (R414). -/
theorem does_tdiRows (d : Fin 8) (p : Fin 64) (w : BitVec 128) (s : State) :
    ∀ x ∈ ([(tdRD, .tdiRd d p w), (tdWR, .tdiWr d p w), (tdAT, .tdiAt d p w), (tdATR, .tdiAtr d p w),
      (tdFENCE, .tdiFence d p w), (tdWAITTOK, .tdiWaittok d p w)] : List (Nat × Instr)),
      Does x.2 s (s.tdiCommand d.val p.val x.1 w) := by
  simp only [List.forall_mem_cons]
  exact ⟨does_tdiRd _ _ _ rfl, does_tdiWr _ _ _ rfl, does_tdiAt _ _ _ rfl, does_tdiAtr _ _ _ rfl,
    does_tdiFence _ _ _ rfl, does_tdiWaittok _ _ _ rfl, List.forall_mem_nil _⟩

end Takes

section Single

/-! A port with one command and no request out. -/

variable {s u : State} {k : Nat} {c : SiteCommand} (hp : s.sitePort k = ⟨[c], []⟩)
include hp

theorem State.siteGo_of_single : s.siteGo k = s.sitePump 2 k := by
  rw [State.siteGo, hp]; rfl

theorem State.siteStep_of_single (hw : tdOp c.word ≠ tdWAITTOK) : s.siteStep k = s.siteHead k c := by
  have hn : (⟨[c], []⟩ : SitePort).openWaits = [] := by
    refine List.filter_eq_nil_iff.2 fun x hx => ?_
    rw [List.mem_singleton.1 ((List.takeWhile_sublist _).subset hx)]
    simpa using hw
  rw [State.siteStep, hp]
  simp only [hn, List.find?_nil]

/-- A command that goes leaves the port to go on with what is left in it. -/
theorem State.siteGo_of_went (hw : tdOp c.word ≠ tdWAITTOK) (hh : s.siteHead k c = (true, u)) :
    s.siteGo k = u.sitePump 1 k := by
  rw [State.siteGo_of_single hp, State.sitePump, State.siteStep_of_single hp hw, hh]; rfl

theorem State.siteGo_of_held (hw : tdOp c.word ≠ tdWAITTOK) (hh : s.siteHead k c = (false, s)) : s.siteGo k = s := by
  rw [State.siteGo_of_single hp, State.sitePump, State.siteStep_of_single hp hw, hh]; rfl


/-! A WAITTOK that passes its checks begins to wait; one that waits ends when its token has come (R420). -/

omit hp in
theorem openWaits_of_waittok (hw : tdOp c.word = tdWAITTOK) : (⟨[c], []⟩ : SitePort).openWaits = [c] := by
  simp [SitePort.openWaits, hw, tdWAITTOK, tdFENCE]

theorem State.siteStep_of_unchecked (hw : tdOp c.word = tdWAITTOK) (hn : c.waiting = false) :
    s.siteStep k = (true, if s.tdCheck k c = scDONE then s.siteWait k c else s.siteEnd k c (s.tdCheck k c) []) := by
  rw [State.siteStep, hp]
  simp only [openWaits_of_waittok hw, List.find?_cons, hn, Bool.not_false, Bool.true_or, Bool.false_eq_true, if_false]

theorem State.siteStep_of_token (hw : tdOp c.word = tdWAITTOK) (hn : c.waiting = true) (ht : s.siteToken c.word = true) :
    s.siteStep k = (true, s.siteEnd k c scDONE []) := by
  rw [State.siteStep, hp]
  simp only [openWaits_of_waittok hw, List.find?_cons, hn, ht, Bool.or_true, if_true]

theorem State.siteStep_of_noToken (hw : tdOp c.word = tdWAITTOK) (hn : c.waiting = true)
    (ht : s.siteToken c.word = false) : s.siteStep k = (false, s) := by
  rw [State.siteStep, hp]
  simp only [openWaits_of_waittok hw, List.find?_cons, hn, ht, Bool.not_true, Bool.or_false, List.find?_nil, State.siteHead,
    hw, true_or, if_true]

theorem State.siteWait_of_single : s.siteWait k c = s.setSitePort k ⟨[{ c with waiting := true }], []⟩ := by
  rw [State.siteWait, hp]
  simp

end Single

section Head

/-! How the command at the front ends (R412, R415, R416, R418, R419), where its flits have come. -/

variable {s : State} {k : Nat} {c : SiteCommand}

theorem State.siteHead_of_lacking (hl : c.lacking = true) : s.siteHead k c = (false, s) := if_pos (.inr hl)

variable (hw : tdOp c.word ≠ tdWAITTOK) (hl : c.lacking = false)
include hw hl

theorem State.siteHead_of_rejected (hc : s.tdCheck k c ≠ scDONE) :
    s.siteHead k c = (true, s.siteEnd k c (s.tdCheck k c) []) := by
  simp [State.siteHead, hw, hl, hc]

theorem State.siteHead_of_passed (hc : s.tdCheck k c = scDONE) :
    s.siteHead k c =
      if tdOp c.word = tdFENCE then
        if s.siteFenceKept k (tdAop c.word) then (true, s.siteEnd k c scDONE []) else (false, s)
      else if s.siteRegHeld k c.word then (false, s)
      else if tdAddr c.word / 2 ^ 41 = s.ownId ∧ regionOf (tdAddr c.word % 2 ^ 41) ≠ .host then (true, s.siteLocal k c)
      else (true, s.siteSend k c) := by
  have hgo : ¬ (tdOp c.word = tdWAITTOK ∨ c.lacking = true) := by simp [hw, hl]
  rw [State.siteHead]
  dsimp only
  rw [if_neg hgo, if_neg (fun h => h hc)]

theorem State.siteHead_of_fence (hc : s.tdCheck k c = scDONE) (hop : tdOp c.word = tdFENCE) :
    s.siteHead k c = if s.siteFenceKept k (tdAop c.word) then (true, s.siteEnd k c scDONE []) else (false, s) :=
  (State.siteHead_of_passed hw hl hc).trans (if_pos hop)

variable (hop : tdOp c.word ≠ tdFENCE) (ho : (s.sitePort k).out = [])
include hop ho

/-- With no request out, nothing holds an access of a register (R101, R102): a request goes. -/
theorem State.siteHead_of_request (hc : s.tdCheck k c = scDONE) :
    s.siteHead k c =
      if tdAddr c.word / 2 ^ 41 = s.ownId ∧ regionOf (tdAddr c.word % 2 ^ 41) ≠ .host then (true, s.siteLocal k c)
      else (true, s.siteSend k c) := by
  have hr : ¬ s.siteRegHeld k c.word = true := by simp [State.siteRegHeld, ho]
  exact (State.siteHead_of_passed hw hl hc).trans ((if_neg hop).trans (if_neg hr))

theorem State.siteHead_of_local (hc : s.tdCheck k c = scDONE) (ha : tdAddr c.word / 2 ^ 41 = s.ownId)
    (hh : regionOf (tdAddr c.word % 2 ^ 41) ≠ .host) : s.siteHead k c = (true, s.siteLocal k c) :=
  (State.siteHead_of_request hw hl hop ho hc).trans (if_pos ⟨ha, hh⟩)

theorem State.siteHead_of_away (hc : s.tdCheck k c = scDONE)
    (ha : tdAddr c.word / 2 ^ 41 ≠ s.ownId ∨ regionOf (tdAddr c.word % 2 ^ 41) = .host) :
    s.siteHead k c = (true, s.siteSend k c) :=
  (State.siteHead_of_request hw hl hop ho hc).trans (if_neg fun h => ha.elim (· h.1) h.2)

end Head

section Requests

/-! What a request does that is carried out (R415, R418). -/

variable {s : State} {k : Nat} {c : SiteCommand}

theorem State.siteLocal_of_read (hop : tdOp c.word = tdRD) : s.siteLocal k c = s.siteRead k c := if_pos hop

theorem State.siteLocal_of_write (hop : tdOp c.word = tdWR) : s.siteLocal k c = s.siteWrite k c :=
  (if_neg (by rw [hop]; decide)).trans (if_pos hop)

theorem State.siteLocal_of_atomic (hop : tdOp c.word = tdAT ∨ tdOp c.word = tdATR)
    (hb : regionOf (tdAddr c.word % 2 ^ 41) = .buffer) : s.siteLocal k c = s.siteAtomic k c := by
  have hr : tdOp c.word ≠ tdRD := by rcases hop with h | h <;> rw [h] <;> decide
  have hw : tdOp c.word ≠ tdWR := by rcases hop with h | h <;> rw [h] <;> decide
  rw [State.siteLocal, if_neg hr, if_neg hw, if_neg (fun h => h hb)]

theorem State.siteSend_of_read (hop : tdOp c.word = tdRD) :
    s.siteSend k c =
      (let u := s.siteTake k c
       let u := u.setSitePort k { u.sitePort k with
         out := (u.sitePort k).out ++ [⟨tdTag c.word, tdRD, tdToReg c.word, 1, scDONE, []⟩] }
       u.sendRequest (s.siteHusk k Husk.RD (tdAddr c.word) (tdBytes c.word) (tdHint c.word) [])
         (.site (k / 64) (k % 64) (tdTag c.word))) := by
  simp [State.siteSend, State.siteHusks, hop]

end Requests

section Registers

variable {s : State} {k d : Nat} {v old : Word}

theorem State.siteUnfence_of_fenced (hf : s.siteFenced k = true)
    (ho : s.fld (tdStatus k) F.TDI_PORT_STATUS_OUTSTANDING = 0) :
    s.siteUnfence k = (s.setFld (tdStatus k) F.TDI_PORT_STATUS_FENCED 0).countFenced (k / 64) false := by
  simp [State.siteUnfence, hf, ho]

/-- ARM is taken on a site that is no cap, and NEXT_W where it does not pass MAX_W (R423, R427). -/
theorem State.grantWritten_of_within (hv : F.TDI_PWR_GRANT_ARM.isSet v = true) (hk : s.siteKind d ≠ 2)
    (hw : F.TDI_PWR_GRANT_NEXT_W.of v ≤ s.fld (R.TDI_PWR_LIMIT d) F.TDI_PWR_LIMIT_MAX_W) :
    s.grantWritten d v old = s.setFld (R.TDI_PWR_GRANT d) F.TDI_PWR_GRANT_ARMED 1 := by
  simp [State.grantWritten, State.armGrant, hv, hk, Nat.not_lt.2 hw]

/-! Writes of TDI_PORT_CFG and of TDI_PWR_GRANT store into registers of their own. -/

theorem tdStatus_ne_storeOf_cfg :
    ∀ (d : Fin 8) (p : Fin 64), tdStatus (64 * d.val + p.val) ≠ storeOf (R.TDI_PORT_CFG d.val p.val) := by
  decide +kernel

theorem siteStatus_ne_storeOf_grant : ∀ d : Fin 8, R.TDI_SITE_STATUS d.val ≠ storeOf (R.TDI_PWR_GRANT d.val) := by
  decide +kernel

theorem limit_ne_storeOf_grant : ∀ d : Fin 8, R.TDI_PWR_LIMIT d.val ≠ storeOf (R.TDI_PWR_GRANT d.val) := by
  decide +kernel

end Registers
end Sys2Proof.Machine
end

section
/-!
The statements of the request ports and the sites, settled from the lemmas above.
-/
namespace Sys2Proof.TopDies
open Sys2Proof.Machine

/-- A command word that an empty, open port takes, and what the port then does with it. -/
theorem does_word {s u : State} {d : Fin 8} {p : Fin 64} {w : BitVec 128} {op : Nat} {i : Instr}
    (ho : s.siteOpen d.val = true) (hf : s.siteFenced (64 * d.val + p.val) = false)
    (hs : s.sitePort (64 * d.val + p.val) = ⟨[], []⟩) (hc : Word.slice w.toNat 127 120 = tdChk w)
    (hx : (op, i) ∈ ([(tdRD, .tdiRd d p w), (tdWR, .tdiWr d p w), (tdAT, .tdiAt d p w), (tdATR, .tdiAtr d p w),
      (tdFENCE, .tdiFence d p w), (tdWAITTOK, .tdiWaittok d p w)] : List (Nat × Instr)))
    (hop : tdOp w = op)
    (hu : (s.setSitePort (64 * d.val + p.val) ⟨[⟨w, [], false, false⟩], []⟩).siteGo (64 * d.val + p.val) = u) :
    Does i s u := by
  have taken : s.siteCommand (64 * d.val + p.val) w =
      s.setSitePort (64 * d.val + p.val) ⟨[⟨w, [], false, false⟩], []⟩ := by
    rw [State.siteCommand_of_sound hf (by simp [hs]) hc (by simp [hs, SitePort.tagBusy]) (by simp [hs, SitePort.waits]), hs]
    rfl
  have h := does_tdiRows d p w s (op, i) hx
  rwa [State.tdiCommand_of_open ho hop taken, hu] at h

/-- Settles O43: a word alone in its port is the command at the front, and goes or waits by its OP and its checks; the flit
that completes a command makes it one that goes. -/
theorem siteRequests : Obligations.SiteRequests := by
  intro s d p w k c t a mine next
  refine ⟨fun ho hf hs hc => ?words, fun flits data mask parity => ?flits⟩
  case words =>
    have hp : t.sitePort k = ⟨[c], []⟩ := State.sitePort_setSitePort k _
    have hout : (t.sitePort k).out = [] := congrArg SitePort.out hp
    have noFlits (hn : tdFlits w = 0) : c.lacking = false := by simp [SiteCommand.lacking, c, hn]
    have read (hop : tdOp w = tdRD) {u : State} (hh : t.siteHead k c = (true, u)) : Does (.tdiRd d p w) s (next u) :=
      does_word ho hf hs hc (by simp) hop (State.siteGo_of_went hp (hop ▸ by decide) hh)
    have hread (hop : tdOp w = tdRD) : tdOp c.word ≠ tdWAITTOK ∧ tdOp c.word ≠ tdFENCE ∧ c.lacking = false :=
      ⟨hop ▸ by decide, hop ▸ by decide, noFlits (by simp [tdFlits, hop, tdRD, tdWR, tdAT, tdATR])⟩
    refine ⟨?rejected, ?memory, ?register, ?away, ?fence, ?flitless, ?tokenRejected, ?token⟩
    case rejected =>
      intro x hx hop hc'
      simp only [List.mem_cons, List.not_mem_nil, or_false] at hx
      rcases hx with rfl | rfl
      · obtain ⟨hw, -, hl⟩ := hread hop
        exact read hop (State.siteHead_of_rejected hw hl hc')
      · have hop : tdOp w = tdFENCE := hop
        have hw : tdOp c.word ≠ tdWAITTOK := hop ▸ by decide
        have hl : c.lacking = false := noFlits (by simp [tdFlits, hop, tdFENCE, tdWR, tdAT, tdATR])
        exact does_word ho hf hs hc (by simp) hop (State.siteGo_of_went hp hw (State.siteHead_of_rejected hw hl hc'))
    case memory =>
      intro hop hc' hm hh hr r
      obtain ⟨hw, hf', hl⟩ := hread hop
      refine read hop ((State.siteHead_of_local hw hl hf' hout hc' hm hh).trans ?_)
      rw [State.siteLocal_of_read hop]
      exact congrArg (Prod.mk true) (if_neg hr)
    case register =>
      intro hop hc' hm hr r
      obtain ⟨hw, hf', hl⟩ := hread hop
      refine read hop ((State.siteHead_of_local hw hl hf' hout hc' hm (by rw [hr]; decide)).trans ?_)
      rw [State.siteLocal_of_read hop]
      exact congrArg (Prod.mk true) (if_pos hr)
    case away =>
      intro hop hc' ha u u'
      obtain ⟨hw, hf', hl⟩ := hread hop
      refine read hop ((State.siteHead_of_away hw hl hf' hout hc' ha).trans ?_)
      rw [State.siteSend_of_read hop]
      rfl
    case fence =>
      intro hop hc'
      have hw : tdOp c.word ≠ tdWAITTOK := hop ▸ by decide
      have hl : c.lacking = false := noFlits (by simp [tdFlits, hop, tdFENCE, tdWR, tdAT, tdATR])
      have hh := State.siteHead_of_fence hw hl hc' hop
      exact ⟨fun hk => does_word ho hf hs hc (by simp) hop (State.siteGo_of_went hp hw (hh.trans (if_pos hk))),
        fun hk => does_word ho hf hs hc (by simp) hop
          (State.siteGo_of_held hp hw (hh.trans (if_neg (Bool.eq_false_iff.1 hk))))⟩
    case flitless =>
      intro x hx hop
      have hw : tdOp c.word ≠ tdWAITTOK ∧ c.lacking = true := by
        simp only [List.mem_cons, List.not_mem_nil, or_false] at hx
        have hop : tdOp w = tdWR ∨ tdOp w = tdAT ∨ tdOp w = tdATR := by rcases hx with rfl | rfl | rfl <;> simp_all
        rcases hop with h | h | h
        all_goals exact ⟨h ▸ by decide, by simp [SiteCommand.lacking, c, tdFlits, h, tdWR, tdAT, tdATR]⟩
      refine does_word ho hf hs hc ?_ hop (State.siteGo_of_held hp hw.1 (State.siteHead_of_lacking hw.2))
      simp only [List.mem_cons, List.not_mem_nil, or_false] at hx ⊢
      rcases hx with rfl | rfl | rfl <;> simp
    case tokenRejected =>
      intro hop hc'
      refine does_word ho hf hs hc (by simp) hop ?_
      rw [State.siteGo_of_single hp, State.sitePump, State.siteStep_of_unchecked hp hop rfl, if_neg hc']
      rfl
    case token =>
      intro hop hc' c' u
      have hu : u.sitePort k = ⟨[c'], []⟩ := State.sitePort_setSitePort k _
      have begun : t.siteGo k = u.sitePump 1 k := by
        rw [State.siteGo_of_single hp, State.sitePump, State.siteStep_of_unchecked hp hop rfl, if_pos hc',
          State.siteWait_of_single hp]
        rfl
      refine ⟨fun ht => does_word ho hf hs hc (by simp) hop (begun.trans ?_),
        fun ht => does_word ho hf hs hc (by simp) hop (begun.trans ?_)⟩
      · rw [State.sitePump, State.siteStep_of_token hu hop rfl ht]; rfl
      · rw [State.sitePump, State.siteStep_of_noToken hu hop rfl ht]; rfl
  case flits =>
    intro c bs c' t' ho hf hs hh hn hw
    have hp : t'.sitePort k = ⟨[c'], []⟩ := State.sitePort_setSitePort k _
    have hout : (t'.sitePort k).out = [] := congrArg SitePort.out hp
    have lacked : c.lacking = true := by simp only [SiteCommand.lacking, c, decide_eq_true_eq]; omega
    have hl : c'.lacking = false := by
      simp only [SiteCommand.lacking, c', List.length_append, List.length_cons, List.length_nil, decide_eq_false_iff_not]
      omega
    have hfence : tdOp w ≠ tdFENCE := fun h => by simp [tdFlits, h, tdFENCE, tdWR, tdAT, tdATR] at hn
    have went {u : State} (hu : t'.siteHead k c' = (true, u)) : Does (.tdiDataFlit d p data mask parity) s (next u) := by
      refine does_tdiDataFlit d p data mask parity
        ((State.tdiFlit_of_lacking ho hf (by simpa [hs, k] using hh) (by simpa [hs, k] using lacked)).trans ?_)
      have given : s.setSitePort k { s.sitePort k with
          queue := giveFlit (flitBytes data mask) (flitParity data.toNat != parity) (s.sitePort k).queue } = t' := by
        rw [hs]
        simp only [giveFlit, lacked, if_true, t', c', c, bs, Bool.false_or]
      exact (congrArg (fun x => State.siteGo x k) given).trans (State.siteGo_of_went hp hw hu)
    refine ⟨fun hc' => went (State.siteHead_of_rejected hw hl hc'), ?write, ?atomic⟩
    case write =>
      intro hop hc' hm hh' hr r
      refine went ((State.siteHead_of_local hw hl hfence hout hc' hm hh').trans ?_)
      rw [State.siteLocal_of_write hop]
      exact congrArg (Prod.mk true) (if_neg hr)
    case atomic =>
      intro hop hc' hm hb o o' r
      refine went ((State.siteHead_of_local hw hl hfence hout hc' hm (by rw [hb]; decide)).trans ?_)
      rw [State.siteLocal_of_atomic hop hb]
      rfl

/-- Settles O44: a sound word and an awaited flit go into the port, and each write does what its register does. -/
theorem siteCommands : Obligations.SiteCommands := by
  intro s d p v by'
  refine ⟨?word, fun data mask parity ho hf hh hl => does_tdiDataFlit d p data mask parity
    (State.tdiFlit_of_lacking ho hf hh hl), fun tag c hc => ?timeout, ?unfence, fun hv => ?clear, ?arm⟩
  case word =>
    intro w op i hx hop ho hf hq hc ht hw
    have h := does_tdiRows d p w s (op, i) hx
    rwa [State.tdiCommand_of_open ho hop (State.siteCommand_of_sound hf hq hc ht hw)] at h
  case timeout =>
    refine does_tdiWaittokTimeout d p tag ?_
    rw [State.siteWaitTimeout, hc]
  case unfence =>
    intro hv hf ho
    refine does_tdiUnfence d p v by' ?_
    rw [State.write_TDI_PORT_CFG, if_pos hv, State.siteUnfence_of_fenced]
    · rw [State.siteFenced, State.flag_written_ne (tdStatus_ne_storeOf_cfg d p)]; exact hf
    · rw [State.fld_written_ne (tdStatus_ne_storeOf_cfg d p)]; exact ho
  case clear =>
    exact does_tdiCntClr d v ((State.write_TDI_CTL s d v _).trans (if_pos hv))
  case arm =>
    intro hv hk hw
    refine does_grantArm d v by' ?_
    rw [State.write_TDI_PWR_GRANT, State.grantWritten_of_within hv]
    · rw [State.siteKind, State.fld_written_ne (siteStatus_ne_storeOf_grant d)]; exact hk
    · rw [State.fld_written_ne (limit_ne_storeOf_grant d)]; exact hw

end Sys2Proof.TopDies
end

section
/-!
The sideband (R577, R581 to R584): when REFCLK's return starts the germ, what the I3C port does in a powered module, and
what BSCAN_EN decides for the TAP.
-/
namespace Sys2Proof.Machine

variable {s : State}

theorem State.refclkReturn_of_waiting (hr : s.pins.refclk = false) (hp : s.power.on = true) (ht : s.topState = stGERM) :
    s.refclkReturn = (s.onPins fun x => { x with refclk := true }).germBoot := if_pos ⟨hr, hp, ht⟩

theorem State.refclkReturn_of_past (ht : s.topState ≠ stGERM) :
    s.refclkReturn = s.onPins fun x => { x with refclk := true } := if_neg fun h => ht h.2.2

theorem State.i3cLive_of_on {act : State → State} (hp : s.power.on = true) : s.i3cLive act = act s := if_pos hp

section Words

variable {bytes : List Byte} {off : Nat} (ho : i3cOffset bytes = some off)
include ho

theorem State.i3cWrite_of_write (hl : bytes.length = 13) (hc : fieldAt bytes 0 1 = 2) :
    s.i3cWrite bytes =
      s.regWrite off (BitVec.ofNat 64 (fieldAt bytes 5 8)) ⟨0, BitVec.ofNat 6 s.ownId, false, true⟩ := by
  rw [State.i3cWrite, hl, hc, ho]
  rfl

theorem State.i3cWrite_of_read (hl : bytes.length = 5) (hc : fieldAt bytes 0 1 = 1) :
    s.i3cWrite bytes =
      (s.regRead off 8).2.i3cReply (some (scDONE, BitVec.ofNat 64 (Word.ofBytes (s.regRead off 8).1))) := by
  rw [State.i3cWrite, hl, hc, ho]
  rfl

end Words

theorem State.i3cRead_of_reply {c : Nat} {w : Word} (h : s.pins.reply = some (c, w)) :
    s.i3cRead = (s.i3cReply none).emit (.answer .i3c c (Word.bytes 1 c ++ Word.bytes 8 w.toNat)) := by
  rw [State.i3cRead, h]
  rfl

theorem State.i3cEntdaa_of_unassigned {a : BitVec 7} (h : s.pins.dynamic = none) :
    s.i3cEntdaa a = s.onPins fun x => { x with dynamic := some a } := if_pos (by rw [h]; rfl)

theorem State.i3cSetdasa_of_static {static a : BitVec 7} (h : static.toNat = 0x28 + s.pins.straps.toNat) :
    s.i3cSetdasa static a = s.onPins fun x => { x with dynamic := some a } := if_pos h

theorem State.tapExtest_of_bscan {pins load : BitVec 20} (h : s.pins.bscan = true) :
    s.tapExtest pins load = s.tapChain tapEXTEST pins load := if_pos h

theorem State.tapExtest_of_noBscan {pins load : BitVec 20} (h : s.pins.bscan = false) :
    s.tapExtest pins load = s.tapTake tapBYPASS := if_neg (Bool.eq_false_iff.1 h)

end Sys2Proof.Machine
end

section
/-!
The statement of the sideband, settled from the lemmas above.
-/
namespace Sys2Proof.Sideband
open Sys2Proof.Machine

/-- Settles O49: a powered module's I3C port does what each command asks, and the TAP takes each instruction. -/
theorem sidebandCommands : Obligations.SidebandCommands := by
  intro s
  refine ⟨does_refclkLoss rfl, fun hr hp ht => does_refclkReturn (State.refclkReturn_of_waiting hr hp ht),
    fun ht => does_refclkReturn (State.refclkReturn_of_past ht), fun hp => ?i3c, does_bypass rfl, does_idcode rfl,
    fun pins load => does_samplePreload pins load rfl,
    fun pins load h => does_extest pins load (State.tapExtest_of_bscan h),
    fun pins load h => does_extest pins load (State.tapExtest_of_noBscan h)⟩
  case i3c =>
    have live {act : State → State} : s.i3cLive act = act s := State.i3cLive_of_on hp
    exact ⟨fun bytes off hl hc ho => does_i3cRegisterWrite bytes (live.trans (State.i3cWrite_of_write ho hl hc)),
      fun bytes off hl hc ho => does_i3cReadRequest bytes (live.trans (State.i3cWrite_of_read ho hl hc)),
      fun c w h => does_i3cPrivateRead (live.trans (State.i3cRead_of_reply h)),
      fun a h => does_entdaa a (live.trans (State.i3cEntdaa_of_unassigned h)),
      fun static a h => does_setdasa static a (live.trans (State.i3cSetdasa_of_static h)),
      does_rstdaa live, does_enec live, does_disec live, does_getpid live, does_getbcr live, does_getdcr live,
      does_getstatus live, does_getmwl live, does_getmrl live⟩

end Sys2Proof.Sideband
end

section
/-!
Beats (R29 to R46): which edge starts a beat, what a good set with the next number does, and the sets of a latency probe.
-/
namespace Sys2Proof.Machine

section Master

variable {s : State} {e : EdgeSites} {cycles : Nat}

theorem State.masterEdge_of_due (hm : s.isMaster = true) (hb : s.beatState = bsMASTER)
    (hd : s.beat.source = 0 ∨ s.beat.edgeDue = true) : s.masterEdge e = s.masterBeat e :=
  if_pos (by simpa [hm, hb] using hd)

section BeatIn

variable (hm : s.isMaster = true) (hs : s.beat.source = 1)
include hm hs

theorem State.beatInEdge_of_accepted (hc : 40 ≤ cycles) :
    s.beatInEdge cycles =
      (s.onBeat fun b => { b with edgeDue := true, interval := some (min beatMax cycles), inMissed := 0 }).setBeat
        F.TGL_BEAT_STATUS_STATE bsMASTER :=
  (if_pos (by simp [hm, hs])).trans (if_neg (Nat.not_lt.2 hc))

theorem State.beatInEdge_of_early (hc : cycles < 40) :
    s.beatInEdge cycles = s.bump R.TGL_BEAT_CNT F.TGL_BEAT_CNT_IN_REJECT :=
  (if_pos (by simp [hm, hs])).trans (if_pos hc)

theorem State.beatInMissed_of_awaited (hb : s.beatState = bsMASTER) (hd : s.beat.edgeDue = false) :
    s.beatInMissed e =
      (let u := (s.onBeat fun b => { b with inMissed := b.inMissed + 1 }).masterBeat e
       if u.beat.inMissed = 4 then
         ((u.setBeat F.TGL_BEAT_STATUS_STATE bsFREE_RUN).bump R.TGL_BEAT_CNT F.TGL_BEAT_CNT_FREE_RUN).raise 772
       else u) := if_pos (by simp [hm, hs, hb, hd])

end BeatIn

theorem State.beatCtl_of_clear {v : Word} (h : F.TGL_BEAT_CTL_CNT_CLR.isSet v = true) :
    s.beatCtl v = s.setReg R.TGL_BEAT_CNT 0 := if_pos h

theorem State.freeRunEdge_of_master (hb : s.beatState = bsFREE_RUN) (hm : s.isMaster = true) :
    s.freeRunEdge e = s.masterBeat e := (if_pos hb).trans (if_pos hm)

end Master

section Member

variable {s : State} {e : EdgeSites} {p : Nat}

theorem State.freeRunEdge_of_member (hb : s.beatState = bsFREE_RUN) (hm : s.isMaster = false) :
    s.freeRunEdge e = s.ownBeat s.beat.held e := (if_pos hb).trans (if_neg (Bool.eq_false_iff.1 hm))

theorem State.missedBeat_of_tracking (hb : s.beatState = bsTRACKING) (hm : s.isMaster = false) :
    s.missedBeat e =
      (let u := s.ownBeat (if s.beat.heldExt then beatMax else s.beat.held) e
       if u.fld R.TGL_BEAT_STATUS F.TGL_BEAT_STATUS_MISSED = 4 then
         ((u.setBeat F.TGL_BEAT_STATUS_STATE bsFREE_RUN).bump R.TGL_BEAT_CNT F.TGL_BEAT_CNT_FREE_RUN).raise 768
       else u) := if_pos ⟨hb, by simp [hm]⟩

theorem State.rejoinRequired_of_lost (hb : s.beatState = bsFREE_RUN ∨ s.beatState = bsHOLD) (hm : s.isMaster = false) :
    s.rejoinRequired = (s.onBeat fun b => { b with rejoin := true }).toMaster .beatQuery := if_pos ⟨hb, by simp [hm]⟩

theorem State.upstreamFollow_of_moved {q : Nat} (hp : s.podState = psMEMBER) (hr : s.route s.masterId = some q)
    (hv : s.flag R.TGL_BEAT_STATUS F.TGL_BEAT_STATUS_UP_VALID = true)
    (hu : s.fld R.TGL_BEAT_STATUS F.TGL_BEAT_STATUS_UPSTREAM ≠ q) :
    s.upstreamFollow = ((s.setFld R.TGL_BEAT_STATUS F.TGL_BEAT_STATUS_UP_VALID 1).setFld R.TGL_BEAT_STATUS
      F.TGL_BEAT_STATUS_UPSTREAM q).raise 774 := by
  simp [State.upstreamFollow, hp, hr, hv, hu]

/-- A good set on the upstream port of a member that need not rejoin is followed; one that is not the next is noted
(R38, R44). -/
theorem State.beatSetRx_of_good {copies : List (List Byte)} {l : List Byte} (hc : s.portCarries p = true)
    (hg : setGood 0x01 copies = some l) (hm : s.isMaster = false) (hi : s.hasId = true) (hr : s.beat.rejoin = false)
    (hv : s.flag R.TGL_BEAT_STATUS F.TGL_BEAT_STATUS_UP_VALID = true)
    (hu : s.fld R.TGL_BEAT_STATUS F.TGL_BEAT_STATUS_UPSTREAM = p) :
    s.beatSetRx p copies e =
      (if rebuild s.beatNow ((l.getD 1 0).toNat + 256 * (l.getD 2 0).toNat) = s.beatNow + 1 then s
        else s.auditSet p 11 copies).followSet l e := by
  simp only [State.beatSetRx, hc, hg, hm, hi, hr, hv, hu, beq_self_eq_true, Bool.not_true, Bool.and_self,
    Bool.false_eq_true, or_self, if_false]

/-- A set with the next number is the next beat (R44). -/
theorem State.followSet_of_next {l : List Byte}
    (hn : rebuild s.beatNow ((l.getD 1 0).toNat + 256 * (l.getD 2 0).toNat) = s.beatNow + 1) :
    s.followSet l e =
      (let flags := (l.getD 3 0).toNat
       let period := (l.getD 4 0).toNat + 256 * (l.getD 5 0).toNat
       (((s.levelSet period (bit flags 0)).onBeat fun b => { b with held := period, heldExt := bit flags 2 }).track).localEdge
        (s.beatNow + 1) 0 period flags e) := by
  have hz : s.beatNow + 1 - s.beatNow - 1 = 0 := by omega
  rw [State.followSet]
  dsimp only [Nat.add_one_sub_one, Nat.reduceSub]
  rw [hn, if_pos (Nat.lt_succ_self _), if_pos rfl, hz]

end Member

section Probe

variable {s : State} {p : Nat} {copies : List (List Byte)} {l : List Byte} (hc : s.portCarries p = true)
include hc

theorem State.latencyProbe_of_carries {stamp : BitVec 16} :
    s.latencyProbe p stamp =
      (s.setPort p { s.port p with probe := some stamp.toNat }).emit (.orderedSet p
        (orderedSet [0x02, BitVec.ofNat 8 stamp.toNat, BitVec.ofNat 8 (stamp.toNat / 256), 0, 0, 0])) := if_pos hc

theorem State.probeRx_of_good (hg : setGood 0x02 copies = some l) :
    s.probeRx p copies = s.emit (.orderedSet p (orderedSet [0x03, l.getD 1 0, l.getD 2 0, 0, 0, 0])) := by
  rw [State.probeRx, if_pos hc, hg]

theorem State.echoRx_of_own {counter : BitVec 16} (hg : setGood 0x03 copies = some l)
    (hp : (s.port p).probe = some ((l.getD 1 0).toNat + 256 * (l.getD 2 0).toNat)) :
    s.echoRx p copies counter =
      ((s.setPort p { s.port p with probe := none }).setFld (R.TGL_BEAT_LAT p) F.TGL_BEAT_LAT_VALID 1).setFld
        (R.TGL_BEAT_LAT p) F.TGL_BEAT_LAT_LATENCY
        (((counter.toNat + 65536 - ((l.getD 1 0).toNat + 256 * (l.getD 2 0).toNat)) % 65536 - 64) * 6400 / 33) := by
  rw [State.echoRx, if_pos hc, hg]
  exact if_pos hp

end Probe

end Sys2Proof.Machine
end

section
/-!
The statement of the commands of beats, settled from the lemmas above.
-/
namespace Sys2Proof.Beats
open Sys2Proof.Machine

/-- Settles O20: an edge starts a beat by the source of the master and the state of the member, a good set with the next
number is the next beat, and the sets of a probe answer one another. -/
theorem beatCommands : Obligations.BeatCommands := by
  intro s e v by'
  exact ⟨fun hm hb hd => does_masterEdge e (State.masterEdge_of_due hm hb hd),
    fun cycles hm hs hc => does_beatInEdge cycles (State.beatInEdge_of_accepted hm hs hc),
    fun cycles hm hs hc => does_beatInEdge cycles (State.beatInEdge_of_early hm hs hc),
    fun hm hs hb hd => does_beatInMissed e (State.beatInMissed_of_awaited hm hs hb hd),
    fun hv => does_beatCntClr v by' ((State.write_TGL_BEAT_CTL s v by').trans (by rw [State.beatCtl_of_clear hv])),
    does_beatPeriodWrite v by' (State.write_TGL_BEAT_PERIOD s v by'),
    does_swStretchWrite v by' (State.write_TGL_BEAT_STRETCH s v by'),
    fun p copies l hc hg hm hi hr hv hu hn => does_beatSetRx p copies e
      ((State.beatSetRx_of_good hc hg hm hi hr hv hu).trans (by rw [if_pos hn, State.followSet_of_next hn])),
    fun hb hm => does_missedBeat e (State.missedBeat_of_tracking hb hm),
    fun hb hm => does_freeRunEdge e (State.freeRunEdge_of_master hb hm),
    fun hb hm => does_freeRunEdge e (State.freeRunEdge_of_member hb hm),
    fun hb hm => does_beatRejoinRequired (State.rejoinRequired_of_lost hb hm),
    fun p hp hr hv hu => does_upstreamSwitch (State.upstreamFollow_of_moved hp hr hv hu),
    fun p stamp hc => does_latencyProbe p stamp (State.latencyProbe_of_carries hc),
    fun p copies l hc hg => does_probeRx p copies (State.probeRx_of_good hc hg),
    fun p copies counter l hc hg hp => does_echoRx p copies counter (State.echoRx_of_own hc hg hp)⟩

end Sys2Proof.Beats
end

section
/-!
The interrupt controller (R430 to R443): which source messages act, what a claim reads, and which events of a host vector
have an effect.
-/
namespace Sys2Proof.Machine

variable {s : State} {v : Word}

section Doorbell

variable (hl : 32 ≤ F.EIC_DOORBELL_SRC.of v) (hh : F.EIC_DOORBELL_SRC.of v < 832)
include hl hh

theorem State.eicDoorbell_of_assert (hd : F.EIC_DOORBELL_DEASSERT.isSet v = false) :
    s.eicDoorbell v = s.raise (F.EIC_DOORBELL_SRC.of v) := by
  rw [State.eicDoorbell, hd]
  exact (if_neg (by omega)).trans (if_neg Bool.false_ne_true)

theorem State.eicDoorbell_of_deassert (hd : F.EIC_DOORBELL_DEASSERT.isSet v = true)
    (hs : State.sourceIsLevel (F.EIC_DOORBELL_SRC.of v) = true) :
    s.eicDoorbell v = s.lower (F.EIC_DOORBELL_SRC.of v) :=
  (if_neg (by omega)).trans ((if_pos hd).trans (if_pos hs))

end Doorbell

theorem State.eicCDoorbell_of_assert {c : Nat} (hl : F.EIC_C_DOORBELL_SRC.of v < 32)
    (hd : F.EIC_C_DOORBELL_DEASSERT.isSet v = false) :
    s.eicCDoorbell c v = (s.setReg (R.EIC_C_PEND_SET c) (s.reg (R.EIC_C_PEND_SET c) |||
      BitVec.ofNat 64 (2 ^ F.EIC_C_DOORBELL_SRC.of v))).eicSettle := if_neg (by simp [hd, hl])

theorem claimAt_claim : ∀ c : Fin 11, claimAt (R.EIC_C_CLAIM c.val) = some c.val ∧ R.EIC_C_CLAIM c.val % 8 = 0 := by
  decide +kernel

/-- A core's aligned read of its claim register claims (R435). -/
theorem State.readClaim_of_word (c : Fin 11) :
    s.readClaim c.val 0 8 = (s.claim c.val).2.emit (.answer (.core c.val) scDONE (Word.bytes 8 (s.claim c.val).1.toNat)) := by
  obtain ⟨hc, ha⟩ := claimAt_claim c
  rw [State.readClaim, State.regRead, Nat.add_zero, if_pos ⟨rfl, ha⟩, hc]

theorem State.eoi_of_active {c : Nat} (h : s.activeAt c (F.EIC_C_EOI_SRC.of v) = true) :
    s.eoi c v = s.endInterrupt c (F.EIC_C_EOI_SRC.of v) := if_pos h

theorem State.coreSleep_of_running {c : Nat} (h : (s.core c).state = csRUNNING) :
    s.coreSleep c = (s.setFld (R.EIC_C_STATUS c) F.EIC_C_STATUS_ASLEEP 1).eicCore c := if_pos h

theorem State.hvCeiling_of_counted {k : Nat} (h : s.fld (R.EIC_HV_STATUS k) F.EIC_HV_STATUS_COUNT ≠ 0) :
    s.hvCeiling k = (s.setVec k { s.vec k with ceiling := true }).hvTry k := if_neg h

theorem State.hvRetry_of_failed {k : Nat} (h : (s.vec k).failed = true) :
    s.hvRetry k = (s.setVec k { s.vec k with due := true }).hvTry k := if_pos h

theorem State.eicCntClr_of_set (h : F.EIC_CTL_CNT_CLR.isSet v = true) :
    s.eicCntClr v =
      s.liveVectors.foldl (fun u k => u.setFld (R.EIC_HV_STATUS k) F.EIC_HV_STATUS_RETRIES 0) (s.setReg R.EIC_CNT 0) :=
  if_pos h

end Sys2Proof.Machine
end

section
/-!
The statement of the commands of the interrupt controller, settled from the lemmas above.
-/
namespace Sys2Proof.Interrupts
open Sys2Proof.Machine

/-- Settles O45: a write acts by the register that it goes to, and an event of a core or a vector where its rule lets it. -/
theorem interruptCommands : Obligations.InterruptCommands := by
  intro s v by' c
  refine ⟨fun hl hh hd => does_eicDoorbellAssert v ?assert, fun hl hh hd hs => does_eicDoorbellDeassert v ?deassert,
    fun hl hd => does_eicCDoorbell c v ?own, fun w => ?shared,
    does_pendSet (.core c) v (State.write_EIC_C_PEND_SET s c v _), does_pendClr (.core c) v (State.write_EIC_C_PEND_CLR s c v _),
    does_enSet (.core c) v by' (State.write_EIC_C_EN_SET s c v by'),
    does_enClr (.core c) v by' (State.write_EIC_C_EN_CLR s c v by'), does_claim c 0 8 (State.readClaim_of_word c),
    fun h => does_eoi c v ((State.write_EIC_C_EOI s c v _).trans (State.eoi_of_active h)),
    does_maskSet c v (State.write_EIC_C_MASK_SET s c v _), does_maskClr c v (State.write_EIC_C_MASK_CLR s c v _),
    fun h => does_coreSleep c (State.coreSleep_of_running h), does_hvTrig v (State.write_EIC_HV_TRIG s v _),
    fun k h => does_hvCeiling k (State.hvCeiling_of_counted h), fun k h => does_hvRetry k (State.hvRetry_of_failed h),
    fun h => does_eicCntClr v ((State.write_EIC_CTL s v _).trans (State.eicCntClr_of_set h))⟩
  case assert => exact (State.write_EIC_DOORBELL s v _).trans (State.eicDoorbell_of_assert hl hh hd)
  case deassert => exact (State.write_EIC_DOORBELL s v _).trans (State.eicDoorbell_of_deassert hl hh hd hs)
  case own => exact (State.write_EIC_C_DOORBELL s c v _).trans (State.eicCDoorbell_of_assert hl hd)
  case shared =>
    exact ⟨does_pendSet (.shared w) v (State.write_EIC_PEND_SET s w v _),
      does_pendClr (.shared w) v (State.write_EIC_PEND_CLR s w v _),
      does_enSet (.shared w) v by' (State.write_EIC_EN_SET s w v by'),
      does_enClr (.shared w) v by' (State.write_EIC_EN_CLR s w v by')⟩

end Sys2Proof.Interrupts
end

section
/-!
Snapshots, the change journal's way out, and wear (R535 to R541, R546 to R550): what a write of each control register
starts, and what the end of each transfer leaves.
-/
namespace Sys2Proof.Machine

variable {s : State} {v : Word}

theorem State.snapArmed_of_arm (ha : F.SNP_ARM_ARM.isSet v = true) (hc : F.SNP_ARM_CANCEL.isSet v = false) :
    s.snapArmed v =
      (let u := s.snapArm (F.SNP_ARM_AT.of v) none
       if u.flag R.SNP_CTL F.SNP_CTL_POD_SEND then
         u.sendSnap (u.fld R.SNP_STATUS F.SNP_STATUS_NEXT_ID) (F.SNP_ARM_AT.of v)
       else u) := by
  rw [State.snapArmed, hc, ha]
  rfl

theorem State.snapArmed_of_cancel (ha : F.SNP_ARM_ARM.isSet v = false) (hc : F.SNP_ARM_CANCEL.isSet v = true) :
    s.snapArmed v =
      State.setFld { s with snap := { s.snap with armed := none } } R.SNP_STATUS F.SNP_STATUS_ARMED 0 := by
  rw [State.snapArmed, hc, ha]
  rfl

theorem State.snapTrig_of_go (h : F.SNP_TRIG_GO.isSet v = true) : s.snapTrig v = s.latch 2 none false := if_pos h

theorem State.snapPin_of_enabled (h : s.flag R.SNP_CTL F.SNP_CTL_PIN_EN = true) : s.snapPin = s.latch 3 none false :=
  if_pos h

section Release

variable (hr : F.SNP_CTL_RELEASE.isSet v = true)
include hr

theorem State.snapRelease_of_held (h : s.snapState = snHELD) :
    s.snapRelease v = s.setFld R.SNP_STATUS F.SNP_STATUS_STATE snEMPTY := by
  rw [State.snapRelease, hr]
  exact if_pos h

theorem State.snapRelease_of_dumping (h : s.snapState = snDUMPING) :
    s.snapRelease v = { s with snap := { s.snap with release := true } } := by
  rw [State.snapRelease, hr]
  exact (if_neg (by decide)).trans ((if_neg (by rw [h]; decide)).trans (if_pos h))

end Release

theorem State.snapDump_of_held (hg : F.SNP_DUMP_CTL_GO.isSet v = true) (h : s.snapState = snHELD) :
    s.snapDump v =
      (let image := s.snapImage (s.fld R.SNP_DUMP_CTL F.SNP_DUMP_CTL_LEN)
       let u := ((s.setFld R.SNP_STATUS F.SNP_STATUS_STATE snDUMPING).setFld R.SNP_STATUS F.SNP_STATUS_DUMP_DONE
         0).setFld R.SNP_STATUS F.SNP_STATUS_TRUNC 0
       let sent := u.dumpWrite (64 * u.fld R.SNP_DUMP_ADDR F.SNP_DUMP_ADDR_ADDR) image.2.2 (.dump false)
       { sent.2.2 with snap := { sent.2.2.snap with dump := some (image.1, image.2.1, sent.1, sent.2.1) } }) :=
  if_pos ⟨hg, h⟩

theorem State.snapDumpEnd_of_answered {n k status : Nat} (h : s.snap.dump = some (n, k, status, 0)) :
    s.snapDumpEnd =
      (let free := s.flag R.SNP_CTL F.SNP_CTL_AUTO_REL || s.snap.release
       ((((State.setFld { s with snap := { s.snap with dump := none, release := false } } R.SNP_STATUS F.SNP_STATUS_STATE
         (if free then snEMPTY else snHELD)).setFld R.SNP_STATUS F.SNP_STATUS_DUMP_DONE 1).setFld R.SNP_STATUS
         F.SNP_STATUS_TRUNC (if k < n then 1 else 0)).setFld R.SNP_STATUS F.SNP_STATUS_DUMP_STATUS status).raise 777) := by
  rw [State.snapDumpEnd, h]
  rfl

theorem State.journalFlush_of_flash {n : Nat} (h : s.flashOk = true) :
    s.journalFlush n = (s.jrnWaiting.take (min n (if s.jrnAt.2 < jrnEntries then jrnEntries - s.jrnAt.2
      else jrnEntries))).foldl State.jrnStore s := if_pos h

theorem State.journalDump_of_go (hg : F.JRN_DUMP_CTL_GO.isSet v = true)
    (hb : s.flag R.JRN_DUMP_CNT F.JRN_DUMP_CNT_BUSY = false) :
    s.journalDump v =
      (let want := s.fld R.JRN_DUMP_CTL F.JRN_DUMP_CTL_FIRST_SEQ
       let u := s.setFld R.JRN_DUMP_CNT F.JRN_DUMP_CNT_BUSY 1
       if u.fld R.JRN_STATUS F.JRN_STATUS_NEXT_SEQ ≤ want then
         State.journalDumpEnd { u with snap := { u.snap with journalDump := some (want, scDONE, 0) } }
       else
         let l := (u.journal.reverse.filter fun e => decide (want ≤ e.seq)).take
           (u.fld R.JRN_DUMP_CNT F.JRN_DUMP_CNT_COUNT)
         let sent := u.dumpWrite (64 * u.fld R.JRN_DUMP_ADDR F.JRN_DUMP_ADDR_ADDR) (l.flatMap JournalEntry.bytes)
           (.dump true)
         { sent.2.2 with snap := { sent.2.2.snap with
             journalDump := some ((l.head?.map JournalEntry.seq).getD want, sent.1, sent.2.1) } }) := if_pos ⟨hg, hb⟩

theorem State.journalDumpEnd_of_answered {first status : Nat} (h : s.snap.journalDump = some (first, status, 0)) :
    s.journalDumpEnd =
      (((State.setFld { s with snap := { s.snap with journalDump := none } } R.JRN_DUMP_CNT F.JRN_DUMP_CNT_BUSY 0).setFld
        R.JRN_DUMP_CNT F.JRN_DUMP_CNT_STATUS status).setFld R.JRN_DUMP_STATUS F.JRN_DUMP_STATUS_FIRST first).raise 785 := by
  rw [State.journalDumpEnd, h]
  rfl

/-- The control registers of snapshots and of the journal's dump store nothing where their status stands. -/
theorem snapStatus_ne_storeOf : R.SNP_STATUS ≠ storeOf R.SNP_CTL ∧ R.SNP_STATUS ≠ storeOf R.SNP_DUMP_CTL ∧
    R.JRN_DUMP_CNT ≠ storeOf R.JRN_DUMP_CTL := by decide +kernel

theorem State.snapState_written {off : Nat} (h : R.SNP_STATUS ≠ storeOf off) : (s.written off v).snapState = s.snapState :=
  State.fld_setReg_ne _ _ _ h

end Sys2Proof.Machine
end

section
/-!
The statement of the commands of snapshots, the journal and wear, settled from the lemmas above.
-/
namespace Sys2Proof.Archive
open Sys2Proof.Machine

/-- Settles O48: a control register's write starts what the store's state allows, and a transfer whose writes are all
answered ends. -/
theorem archiveCommands : Obligations.ArchiveCommands := by
  intro s v by'
  obtain ⟨hctl, hdump, hjrn⟩ := snapStatus_ne_storeOf
  refine ⟨fun ha hc => does_snapArm v by' ((State.write_SNP_ARM s v by').trans ?arm),
    fun hc ha => does_snapCancel v by' ((State.write_SNP_ARM s v by').trans ?cancel),
    fun h => does_snapTrig v ((State.write_SNP_TRIG s v _).trans (State.snapTrig_of_go h)),
    fun h => does_snapIn (State.snapPin_of_enabled h),
    fun hr h => does_snapRelease v by' ((State.write_SNP_CTL s v by').trans ?release),
    fun hr h => does_snapRelease v by' ((State.write_SNP_CTL s v by').trans ?releaseLater),
    fun hg h => does_snapDump v ((State.write_SNP_DUMP_CTL s v _).trans
      (State.snapDump_of_held hg ((State.snapState_written hdump).trans h))),
    fun n k status h => does_snapDumpDone (State.snapDumpEnd_of_answered h),
    fun n h => does_journalFlush n (State.journalFlush_of_flash h),
    fun hg hb => does_journalDump v ((State.write_JRN_DUMP_CTL s v _).trans
      (State.journalDump_of_go hg ((State.flag_written_ne hjrn).trans hb))),
    fun first status h => does_journalDumpDone (State.journalDumpEnd_of_answered h),
    fun h => does_wearEolCompute (if_neg (Bool.eq_false_iff.1 h)), fun h => does_wearRecordFlush (if_pos h),
    fun values => does_wearDailyValue values rfl⟩
  case arm => rw [State.snapArmed_of_arm ha hc]
  case cancel => rw [State.snapArmed_of_cancel ha hc]; rfl
  case release => rw [State.snapRelease_of_held hr ((State.snapState_written hctl).trans h)]
  case releaseLater => rw [State.snapRelease_of_dumping hr ((State.snapState_written hctl).trans h)]; rfl

end Sys2Proof.Archive
end

section
/-!
The mailboxes and the firmware cores (R446 to R481): GO and ACK of a mailbox, the requests that a serving core admits, the
course of QUIESCE, the edge of an activation, and a core's restart.
-/
namespace Sys2Proof.Machine

variable {s : State} {v : Word} {i : Nat}

/-- At an idle mailbox whose SEQ is new, a request that is not refused is handed over. -/
theorem State.mbGo_of_new (hb : s.mbState i ≠ mbBUSY)
    (hl : s.flag (R.MBX_STATUS i) F.MBX_STATUS_LAST_VALID = false)
    (hr : ((s.setMbState i mbBUSY).raise (800 + i)).mbRefusal i = none) :
    s.mbGo i = (s.setMbState i mbBUSY).raise (800 + i) := by
  refine (if_neg hb).trans ((if_neg ?_).trans ?_)
  · rw [hl, Bool.false_and]
    exact Bool.false_ne_true
  · dsimp only
    rw [hr]

theorem State.mbCtl_of_go (hg : F.MBX_CTL_GO.isSet v = true) (ha : F.MBX_CTL_ACK.isSet v = false) :
    s.mbCtl i v = s.mbGo i := by
  rw [State.mbCtl, if_neg (c := F.MBX_CTL_ACK.isSet v = true ∧ _) (by simp [ha])]
  exact if_pos hg

theorem State.mbCtl_of_ack (hg : F.MBX_CTL_GO.isSet v = false) (ha : F.MBX_CTL_ACK.isSet v = true)
    (hd : s.mbState i = mbDONE) (hq : s.fw.quiesce = none) : s.mbCtl i v = s.setMbState i mbIDLE := by
  have hn : (s.setMbState i mbIDLE).fw.quiesce = none := hq
  rw [State.mbCtl, if_pos (c := F.MBX_CTL_ACK.isSet v = true ∧ _) ⟨ha, hd⟩]
  dsimp only
  rw [hn]
  exact if_neg (Bool.eq_false_iff.1 hg)

/-- A request stands in a mailbox, its core runs, and no check refuses it. -/
def State.mbAdmits (s : State) (i op : Nat) : Prop :=
  s.mbState i = mbBUSY ∧ s.mbOpcode i = op ∧ (s.core (s.serves op)).state = csRUNNING ∧ s.mbRefusal i = none

/-- An admitted request is served. -/
theorem State.mbServe_of_admitted {op : Nat} (act : State → State) (h : s.mbAdmits i op) : s.mbServe i op act = act s := by
  obtain ⟨hb, ho, hc, hr⟩ := h
  rw [State.mbServe, if_pos ⟨hb, ho, hc⟩, hr]

theorem State.mbHello_of_deferred {straps : Nat} (h : s.mbAdmits i opHELLO) (hs : s.fw.session = none)
    (hf : s.fw.running = none) :
    s.mbHello i straps =
      (let u : State := { s with fw := { s.fw with deferred := some (s.mbMajor i) } }
       u.mbRespond i scDONE rsOK (u.helloBytes hvDEFERRED)) := by
  rw [State.mbHello, State.mbServe_of_admitted _ h, hs, hf]

theorem State.mbHello_of_supported {straps : Nat} (h : s.mbAdmits i opHELLO) (hs : s.fw.session = none)
    (hf : s.fw.running.isSome = true) (hm : s.supports (s.mbMajor i) = true) :
    s.mbHello i straps =
      (let u : State := { s with fw := { s.fw with session := some (s.mbMajor i) } }
       (u.mbRespond i scDONE rsOK (u.helloBytes hvACCEPTED)).enterTraining straps) := by
  obtain ⟨info, hf⟩ := Option.isSome_iff_exists.1 hf
  rw [State.mbHello, State.mbServe_of_admitted _ h, hs, hf]
  exact if_pos hm

theorem State.mbAttest_of_first (h : s.mbAdmits i opATTEST) (hp : fieldAt (s.mbBytes i 72) 64 1 = 0) :
    s.mbAttest i =
      (let nonce := (s.mbBytes i 72).take 64
       State.mbRespond { s with fw := { s.fw with report := some (s.report nonce, nonce) } } i scDONE rsOK
         ((s.report nonce).take 4096)) := by
  rw [State.mbAttest, State.mbServe_of_admitted _ h]
  dsimp only
  rw [hp]
  rfl

theorem State.mbActivate_of_staged (h : s.mbAdmits i opFW_ACTIVATE) (ha : s.fw.act ≠ acACTIVATING)
    (hs : s.fw.staged.isSome = true) (hv : bit (fieldAt (s.mbBytes i 8) 0 8) 63 = false) :
    s.mbActivate i = State.mbRespond { s with fw := { s.fw with
      act := acARMED, actAt := fieldAt (s.mbBytes i 8) 0 8 % 2 ^ 48 } } i scDONE rsOK [] := by
  rw [State.mbActivate, State.mbServe_of_admitted _ h]
  exact (if_neg ha).trans ((if_neg (Bool.eq_false_iff.1 hv)).trans (if_neg (by simp [Option.isSome_iff_ne_none.1 hs])))

theorem State.mbQuiesce_of_limit (h : s.mbAdmits i opQUIESCE) (hq : s.fw.quiesce = none)
    (hlo : 0 < fieldAt (s.mbBytes i 8) 0 8 / 2 ^ 32) (hhi : fieldAt (s.mbBytes i 8) 0 8 / 2 ^ 32 ≤ 60000) :
    s.mbQuiesce i =
      (let u : State := { s with fw := { s.fw with quiesce := some (i, 0, false) } }
       let u := u.liveQueues.foldl (fun u k => u.setRing k { u.ring k with limit := some (u.qTail k) }) u
       if bit (fieldAt (s.mbBytes i 8) 0 8) 0 then u.resetWork else u) := by
  rw [State.mbQuiesce, State.mbServe_of_admitted _ h]
  exact (if_neg (by simp [hq])).trans (if_neg (by omega))

section Load

variable {straps : Nat} (h : s.mbAdmits mbBULK opFW_LOAD) (hn : s.fw.bulk = none) (ha : s.fw.act = acNONE)
  (hb : s.bulkAllowed (s.mbBulk mbBULK) = true)
include h hn ha hb

theorem State.fwLoad_of_inHouse (hi : s.inHouse (s.mbBulk mbBULK) = true) :
    s.fwLoad straps =
      (let r := s.memRead ⟨0, s.fwClass, 0, 300001⟩ (s.mbBulk mbBULK % 2 ^ 41) ((s.mbLen mbBULK + 63) / 64 * 64) true
       if r.1 = scDONE then r.2.2.loadImage (r.2.1.take (s.mbLen mbBULK)) straps
       else r.2.2.mbRespond mbBULK r.1 0 []) := by
  rw [State.fwLoad, State.mbServe_of_admitted _ h, hn]
  exact (if_neg (not_not_intro ha)).trans ((if_neg (by simp [hb])).trans (if_pos hi))

theorem State.fwLoad_of_elsewhere (hi : s.inHouse (s.mbBulk mbBULK) = false) (hl : 0 < s.mbLen mbBULK) :
    s.fwLoad straps = s.bulkReads (s.mbBulk mbBULK) ((s.mbLen mbBULK + 63) / 64 * 64) := by
  have hn0 : (s.mbLen mbBULK + 63) / 64 * 64 ≠ 0 := by omega
  rw [State.fwLoad, State.mbServe_of_admitted _ h, hn]
  exact (if_neg (not_not_intro ha)).trans ((if_neg (by simp [hb])).trans
    ((if_neg (Bool.eq_false_iff.1 hi)).trans (if_neg hn0)))

end Load

theorem State.quiesceLimit_of_running {n : Nat} (h : s.fw.quiesce = some (i, n, false)) :
    s.quiesceLimit = s.resetWork := by
  rw [State.quiesceLimit, h]

theorem State.quiesceDone_of_quiet {n : Nat} (h : s.fw.quiesce = some (i, n, false))
    (hq : s.liveQueues.all s.quietQueue = true) (ht : s.tagsFree = true) :
    s.quiesceDone = State.mbRespond { s with fw := { s.fw with quiesce := some (i, n, true) } } i scDONE rsOK
      (Word.bytes 8 (n % 2 ^ 32)) := by
  rw [State.quiesceDone, h]
  exact if_pos (by rw [hq, ht]; rfl)

theorem State.quiesceLeave_of_answered {n : Nat} (h : s.fw.quiesce = some (i, n, true)) :
    s.quiesceLeave = State.leavePod { s with fw := { s.fw with quiesce := none } } := by
  rw [State.quiesceLeave, h]

section Activation

variable (ha : s.fw.act = acARMED) (hat : s.fw.actAt ≤ s.beatNow)
include ha hat

theorem State.actEdge_of_calm (he : s.emergency = false) : s.actEdge = s.actBegin :=
  (if_pos ⟨ha, hat⟩).trans (if_neg (Bool.eq_false_iff.1 he))

theorem State.actEdge_of_emergency (he : s.emergency = true) :
    s.actEdge = State.raise { s with fw := { s.fw with act := acPENDING } } 819 :=
  (if_pos ⟨ha, hat⟩).trans (if_pos he)

end Activation

theorem State.watchdog_of_calm {c : Nat} {fault : Bool} (hr : (s.core c).state = csRUNNING) (he : s.emergency = false) :
    s.watchdog c fault = s.coreRestart c (if fault then crCORE_FAULT else crWATCHDOG) :=
  (if_neg (not_not_intro hr)).trans (if_neg (by simp [he]))

theorem State.coreRuns_of_alone {c : Nat} (hr : (s.core c).state = csRESTARTING) (ha : s.fw.act ≠ acACTIVATING) :
    s.coreRuns c =
      (let t := s.setCoreState c csRUNNING
       let t := if c = t.coreFor 2 then t.doorbellsResume else t
       if c = t.ctlCore then t.ctlResume else t) :=
  (if_neg (not_not_intro hr)).trans (if_neg fun h => ha h.1)

end Sys2Proof.Machine
end

section
/-!
The statement of the commands of the mailboxes and the firmware cores, settled from the lemmas above.
-/
namespace Sys2Proof.Mailboxes
open Sys2Proof.Machine

/-- Settles O46: a control write acts on its mailbox, an admitted request is answered as its opcode says, and the cores'
events have their one case each. -/
theorem mailboxCommands : Obligations.MailboxCommands := by
  intro s v
  refine ⟨?go, ?ack, fun i => ⟨?version, ?deferred, ?accepted, ?attest, ?idKey, ?activate, ?status, ?defects, ?quiesce⟩,
    ?load, ?quiesceEnd, fun i n h => does_quiesceEnter (State.quiesceLeave_of_answered h),
    fun ha hat he => does_fwActivation (State.actEdge_of_calm ha hat he),
    fun ha hat he => does_fwActivation (State.actEdge_of_emergency ha hat he),
    fun ha he => does_fwActivationDeferredStart (if_pos ⟨ha, he⟩),
    fun c fault hr he => does_watchdogExpiry c fault (State.watchdog_of_calm hr he),
    fun c hr ha => does_coreRunsAgain c (State.coreRuns_of_alone hr ha)⟩
  case go =>
    intro i hg ha u hb hl hr
    exact does_mbxGo i v ((State.write_MBX_CTL s i v _).trans ((State.mbCtl_of_go hg ha).trans (State.mbGo_of_new hb hl hr)))
  case ack =>
    intro i hg ha u hd hq
    exact does_mbxAck i v ((State.write_MBX_CTL s i v _).trans (State.mbCtl_of_ack hg ha hd hq))
  case version => exact fun h => does_mbxVersion i (State.mbServe_of_admitted _ h)
  case deferred => exact fun straps h hs hf => does_mbxHello i straps (State.mbHello_of_deferred h hs hf)
  case accepted => exact fun straps h hs hf hm => does_mbxHello i straps (State.mbHello_of_supported h hs hf hm)
  case attest => exact fun h hp => does_attest i (State.mbAttest_of_first h hp)
  case idKey => exact fun h => does_idKey i (State.mbServe_of_admitted _ h)
  case activate => exact fun h ha hs hv => does_fwActivate i (State.mbActivate_of_staged h ha hs hv)
  case status => exact fun h => does_fwStatus i (State.mbServe_of_admitted _ h)
  case defects => exact fun h => does_defects i (State.mbServe_of_admitted _ h)
  case quiesce => exact fun h hq hlo hhi => does_quiesce i (State.mbQuiesce_of_limit h hq hlo hhi)
  case load =>
    intro straps hb ho hc hr hn ha hp
    exact ⟨fun hi => does_fwLoad straps (State.fwLoad_of_inHouse ⟨hb, ho, hc, hr⟩ hn ha hp hi),
      fun hi hl => does_fwLoad straps (State.fwLoad_of_elsewhere ⟨hb, ho, hc, hr⟩ hn ha hp hi hl)⟩
  case quiesceEnd =>
    exact fun i n h => ⟨does_quiesceLimit (State.quiesceLimit_of_running h),
      fun hq ht => does_quiesceDone (State.quiesceDone_of_quiet h hq ht)⟩

end Sys2Proof.Mailboxes
end

section
/-!
Power and thermal (R512 to R525): the one case of each event in which it acts.
-/
namespace Sys2Proof.Machine

variable {s : State} {v : Word}

theorem State.stageFault_of_on {n : Nat} (h : bit (s.fld R.PWR_STATUS F.PWR_STATUS_STAGES_OK) n = true) :
    s.stageFault n = (s.setFld R.PWR_STATUS F.PWR_STATUS_STAGES_OK
      (clearBit (s.fld R.PWR_STATUS F.PWR_STATUS_STAGES_OK) n)).raise 36 := if_pos h

theorem State.railTimeout_of_raised (h : s.topState ∈ [stGERM, stSPROUT, stTRAINING]) :
    s.railTimeout = s.fail fcTIMEOUT := if_pos (List.contains_iff_mem.2 h)

/-- A reading of an enabled channel that no stack reports is shown and then meets the channel's limits. -/
theorem State.measure_of_reading {d j reading written : Nat} (he : s.flag (R.HKP_CH_CFG d j) F.HKP_CH_CFG_EN = true)
    (h0 : s.fld (R.HKP_CH_CFG d j) F.HKP_CH_CFG_KIND ≠ 0) (h3 : s.fld (R.HKP_CH_CFG d j) F.HKP_CH_CFG_KIND ≠ 3) :
    s.measure d j (some reading) written =
      (let u := if j ≤ 1 then s.diodeReading d j (some reading) else s
       let u := ((u.setFld (R.HKP_CH_VAL d j) F.HKP_CH_VAL_VALID 1).setFld (R.HKP_CH_VAL d j) F.HKP_CH_VAL_FAULT 0).setFld
         (R.HKP_CH_VAL d j) F.HKP_CH_VAL_VALUE reading
       let u := if 44 ≤ j then u.moduleReading (4 * d + (j - 44)) (some reading) else u
       let u := (u.noteHot d j reading).channelLimits d j reading written
       if d = 7 ∧ j = 47 then u.roundEnd else u) := by
  have hgo : (s.flag (R.HKP_CH_CFG d j) F.HKP_CH_CFG_EN && s.fld (R.HKP_CH_CFG d j) F.HKP_CH_CFG_KIND != 0) = true := by
    simp [he, h0]
  rw [State.measure]
  dsimp only
  rw [if_pos hgo, if_neg h3]
  simp only [isModuleChannel, decide_eq_true_eq]

/-- The round of R518 for one site: its grant is armed when its share is another one than it has. -/
theorem State.budgetRound_of_automatic (hm : s.budget.flag R.PWR_BUDGET F.PWR_BUDGET_MANUAL = false)
    (hc : (s.budget.core s.budget.pwrCore).state = csRUNNING) :
    s.budgetRound = s.budget.topDies.foldl (fun u d =>
      let now := if u.flag (R.TDI_PWR_GRANT d) F.TDI_PWR_GRANT_ARMED then
          u.fld (R.TDI_PWR_GRANT d) F.TDI_PWR_GRANT_NEXT_W
        else u.fld (R.TDI_PWR_STATUS d) F.TDI_PWR_STATUS_SCHED_W
      if u.shareOf d = now ∨ u.siteReset d = true then u
      else u.coreWrite u.pwrCore (R.TDI_PWR_GRANT d) (BitVec.ofNat 64 (2 ^ 62 + 2 ^ 48 * u.shareOf d +
        (u.beatNow + u.fld R.PWR_BUDGET F.PWR_BUDGET_LEAD) % 2 ^ 48))) s.budget := by
  refine (if_neg (by simp [hm, hc])).trans ?_
  simp only [Bool.or_eq_true, decide_eq_true_eq]

theorem State.comparator_of_absent {c : Nat} (h : s.limitPresent c = false) :
    s.comparator c = s.limitAct c (List.range 8) := if_neg (Bool.eq_false_iff.1 h)

theorem State.limiterRelease_of_cooled {d : Fin 8} {j : Fin 48}
    (ho : s.flag (R.HKP_CH_VAL d j) F.HKP_CH_VAL_OVER_THR = true)
    (ht : asSigned 16 (s.fld (R.HKP_CH_VAL d j) F.HKP_CH_VAL_VALUE) ≤
      asSigned 16 (s.fld (R.HKP_CH_CFG d j) F.HKP_CH_CFG_THR) - 80) :
    s.limiterRelease (.channel d j) = s.otEnd d j := if_pos (by rw [ho, Bool.true_and]; exact decide_eq_true ht)

theorem State.limiterExpire_of_calm (ha : s.acting = true) (hp : s.fld R.PWR_LIM_STATUS F.PWR_LIM_STATUS_PRESENT = 0) :
    s.limiterExpire =
      (((List.range 8).foldl (fun u d => (u.unclamp d).gateEngines d false) s).setFld R.PWR_STATUS F.PWR_STATUS_ACTING
        0).setFld R.THM_STATUS F.THM_STATUS_THROTTLED 0 := if_pos (by rw [ha, hp]; rfl)

/-- An emergency in which the limiter no longer acts is cleared. -/
theorem State.emergencyEnd_of_idle (byHw : Bool) (he : s.emergency = true) (ha : s.acting = false) :
    s.emergencyEnd byHw =
      ((((s.setFld R.PWR_STATUS F.PWR_STATUS_EMERGENCY 0).setFld R.PWR_EMERG F.PWR_EMERG_BY_HW
        (if byHw then 1 else 0)).setFld R.TGL_BEAT_STRETCH F.TGL_BEAT_STRETCH_LIMITER_LEVEL
        0).stretchPump.raise 33).releaseRestart := if_pos (by rw [he, ha]; rfl)

theorem pwrStatus_ne_storeOf : R.PWR_STATUS ≠ storeOf R.PWR_EMERG := by decide +kernel

theorem lossCode_ne_thermal : ∀ cause, (lossCode cause == loTHERMAL) = false
  | .inputLoss => rfl
  | .overvoltage => rfl
  | .removed => rfl

theorem State.inputLoss_of_powered {cause : LossCause} {written : Nat} (hl : s.power.lost = false)
    (ho : s.power.on = true) :
    s.inputLoss (lossCode cause) 0 written =
      (let u := State.shedLoads { s with power := { s.power with closed := false, lost := true, locked := false } }
       (u.setReg R.PWR_LAST_OFF (BitVec.ofNat 64 (lossCode cause * 2 ^ 60 + u.beatNow))).holdupFlush written) := by
  rw [State.inputLoss, if_neg (by simp [hl, ho]), lossCode_ne_thermal]
  simp only [Nat.zero_mul, Nat.add_zero]
  rfl

section Return

variable {pins : PowerPins} (hk : s.power.locked = false)
include hk

theorem State.inputReturn_of_off (ho : s.power.on = false) : s.inputReturn pins = s.coldReset pins :=
  (if_neg (Bool.eq_false_iff.1 hk)).trans (if_pos ho)

theorem State.inputReturn_of_lost (ho : s.power.on = true) (hl : s.power.lost = true) :
    s.inputReturn pins = State.warmReset { s with power := { s.power with closed := true, lost := false } } :=
  (if_neg (Bool.eq_false_iff.1 hk)).trans ((if_neg (by rw [ho]; decide)).trans (if_pos hl))

end Return

theorem State.holdupChange_of_new {ready : Bool} (h : s.flag R.PWR_STATUS F.PWR_STATUS_HOLDUP_READY ≠ ready) :
    s.holdupChange ready =
      (s.setFld R.PWR_STATUS F.PWR_STATUS_HOLDUP_READY (if ready then 1 else 0)).showHoldup.raise 35 :=
  if_neg (by simpa using h)

end Sys2Proof.Machine
end

section
/-!
The statement of the commands of power and thermal, settled from the lemmas above.
-/
namespace Sys2Proof.Supply
open Sys2Proof.Machine

/-- Settles O47: each event of the power domain acts in the case that its rule names. -/
theorem supplyCommands : Obligations.SupplyCommands := by
  intro s v by'
  refine ⟨fun n h => does_powerStageFault n (State.stageFault_of_on h),
    fun h => does_railRegulationTimeout (State.railTimeout_of_raised h),
    fun d j reading written he h0 h3 =>
      does_housekeepingMeasure d j (some reading) written (State.measure_of_reading he h0 h3),
    fun hm hc => does_budgetRound (State.budgetRound_of_automatic hm hc),
    fun h => does_limiterUv (State.comparator_of_absent h),
    fun h => does_limiterOc (State.comparator_of_absent h),
    does_limiterRelease .uv rfl, does_limiterRelease .oc rfl,
    fun d j ho ht => does_limiterRelease (.channel d j) (State.limiterRelease_of_cooled ho ht),
    fun ha hp => does_limiterHoldExpiry (State.limiterExpire_of_calm ha hp),
    ⟨?clear, fun he ha => does_emergencyAutoClear (State.emergencyEnd_of_idle true he ha)⟩,
    fun cause written hl ho => does_inputLoss cause written (State.inputLoss_of_powered hl ho),
    fun h => does_holdupEnd (if_pos h),
    fun pins hk ho => does_inputReturn pins (State.inputReturn_of_off hk ho),
    fun pins hk ho hl => does_inputReturn pins (State.inputReturn_of_lost hk ho hl),
    fun ready h => does_holdupReadyChange ready (State.holdupChange_of_new h)⟩
  case clear =>
    intro hv he ha
    have he' : (s.written R.PWR_EMERG v).emergency = true := (State.flag_written_ne pwrStatus_ne_storeOf).trans he
    have ha' : (s.written R.PWR_EMERG v).acting = false := (State.flag_written_ne pwrStatus_ne_storeOf).trans ha
    exact does_emergencyClear v by' ((State.write_PWR_EMERG s v by').trans
      ((if_pos hv).trans (State.emergencyEnd_of_idle false he' ha')))

end Sys2Proof.Supply
end

section
/-!
Start-up and configuration (R464 to R507): the state in which each start-up command acts, what the sprout finds, and the
commands of the boot flash.
-/
namespace Sys2Proof.Machine

variable {s : State} {v : Word}

theorem State.switchClose_of_open {fell : Bool} (hc : s.power.closed = false) (hl : s.power.lost = false)
    (hf : s.power.locked = true → fell = true) :
    s.switchClose fell = { s with power := { s.power with closed := true, locked := false } } := by
  refine if_neg ?_
  rw [hc, hl]
  cases hk : s.power.locked
  · exact Bool.false_ne_true
  · rw [hf hk]
    exact Bool.false_ne_true

theorem State.stateTimeout_of_starting (ht : s.topState ∈ [stGERM, stSPROUT, stTRAINING, stFILLING, stSELFTEST])
    (he : s.emergency = false) (hb : s.pins.bscan = false) : s.stateTimeout = s.fail fcTIMEOUT :=
  if_pos (by rw [List.contains_iff_mem.2 ht, he, hb]; rfl)

/-- The unit pass of a module whose rings pass places its units and judges its links. -/
theorem State.unitPass_of_rings {r : UnitTests} (ht : s.topState = stSELFTEST) (hr : r.ring = 0) :
    s.unitPass r =
      (let t := (List.range 16).foldl (fun u n => u.showKat r n) s
       let banks := fun (d : Nat) => t.mergeAll dkBANK d 4224 (found r.banks d)
       let movers := fun (d : Nat) => t.mergeAll dkDATA_MOVER d 34 (found r.movers d)
       let rows := fun (n : Nat) => t.mergeAll dkROW_UNIT n 100 (found r.rows n)
       let u := (List.range 8).foldl (fun u d => (State.placeDie u d (banks d)).placeMovers d (movers d)) t
       let u := (List.range 16).foldl (fun u n => State.placeRows u n (rows n)) u
       let u := u.addDefects ((List.range 8).flatMap (fun d => banks d ++ movers d) ++
         (List.range 16).flatMap fun n => rows n ++ vacantEngine n (rows n))
       let u : State := { u with buffer := { u.buffer with placed := true } }
       let u := u.sbClearAll.checkPlaces.showUnits.showMet
       if u.linksMet then u.enterReady else u.enterTop stLINKS_DEGRADED) :=
  (if_neg (not_not_intro ht)).trans (if_neg (not_not_intro hr))

/-- The sprout's work is on the first Ezkai slot whose image passes. -/
theorem State.sproutBoot_of_sprout {bridges : BitVec 10} (ht : s.topState = stSPROUT) :
    s.sproutBoot bridges.toNat =
      (match (match s.ezSlot 0 with
          | some x => some (0, x)
          | none => (s.ezSlot 1).map fun x => (1, x)) with
      | none => s.fail fcEZKAI
      | some (slot, l, t) =>
        let u : State := { s with
          fw := { s.fw with ezkai := Sha3.sha3 l, unified := fieldAt (Tab.get (fun _ => []) t esMODE) 0 1 == 1 }
          boot := { s.boot with image := t } }
        let u := ((u.setFld R.TOP_STATUS F.TOP_STATUS_EZKAI_SLOT slot).setFld R.TOP_STATUS F.TOP_STATUS_IMAGE_ID
          (fieldAt l 12 4)).wearRestore
        let u := match u.power.lastOff with
          | some w => u.setReg R.PWR_LAST_OFF w
          | none => u
        let u := ((u.ezApply esPOD).ezApply esBEAT).ezLinks
        if bridges ≠ 0 then u.fail fcBRIDGE else u.enterTop stAWAIT_FULL) := by
  have hb : bridges.toNat = 0 ↔ bridges = 0 := (BitVec.toNat_eq (y := 0#10)).symm
  refine (if_neg (not_not_intro ht)).trans ?_
  simp only [ne_eq, hb] <;> rfl

section FlashStart

variable (hb : s.flag R.TOP_FLASH_STATUS F.TOP_FLASH_STATUS_BUSY = false)
include hb

/-- A flash command that its start forbids for no reason begins. -/
theorem State.flashStart_of_read :
    s.flashStart foREAD =
      (State.setFld { s with boot := { s.boot with flash := some (foREAD, s.fld R.TOP_FLASH_ADDR F.TOP_FLASH_ADDR_ADDR,
        s.fld R.TOP_FLASH_CTL F.TOP_FLASH_CTL_LEN, frOK) } } R.TOP_FLASH_STATUS F.TOP_FLASH_STATUS_BUSY 1) :=
  if_neg (by rw [hb]; decide)

theorem State.flashStart_of_program (hw : s.flashOk = true)
    (hp : flashProtected (s.fld R.TOP_FLASH_ADDR F.TOP_FLASH_ADDR_ADDR) (s.fld R.TOP_FLASH_CTL F.TOP_FLASH_CTL_LEN) =
      false) :
    s.flashStart foPROGRAM =
      (State.setFld { s with boot := { s.boot with flash := some (foPROGRAM, s.fld R.TOP_FLASH_ADDR F.TOP_FLASH_ADDR_ADDR,
        s.fld R.TOP_FLASH_CTL F.TOP_FLASH_CTL_LEN, frOK) } } R.TOP_FLASH_STATUS F.TOP_FLASH_STATUS_BUSY 1) := by
  simp [State.flashStart, hb, hw, hp, foPROGRAM, foREAD, foERASE]

theorem State.flashStart_of_erase (hw : s.flashOk = true)
    (hp : flashProtected (s.fld R.TOP_FLASH_ADDR F.TOP_FLASH_ADDR_ADDR) flashSector = false)
    (ha : s.fld R.TOP_FLASH_ADDR F.TOP_FLASH_ADDR_ADDR % flashSector = 0) :
    s.flashStart foERASE =
      (State.setFld { s with boot := { s.boot with flash := some (foERASE, s.fld R.TOP_FLASH_ADDR F.TOP_FLASH_ADDR_ADDR,
        flashSector, frOK) } } R.TOP_FLASH_STATUS F.TOP_FLASH_STATUS_BUSY 1) := by
  simp [State.flashStart, hb, hw, hp, ha, foREAD, foERASE]

end FlashStart

/-- A flash command that no device error ends does what it started as. -/
theorem State.flashDone_of_ok {op a n : Nat} (h : s.boot.flash = some (op, a, n, frOK)) :
    s.flashDone false =
      (let u := s.flashAct op a n false
       (State.setFld { u with boot := { u.boot with flash := none } } R.TOP_FLASH_STATUS F.TOP_FLASH_STATUS_BUSY 0).setFld
         R.TOP_FLASH_STATUS F.TOP_FLASH_STATUS_RESULT frOK) := by
  rw [State.flashDone, h]
  rfl

theorem State.flushDefects_of_allowed (hw : s.flashOk = true) (hc : (s.core (s.coreFor 2)).state = csRUNNING) :
    s.flushDefects = s.defectFlush (defectRoom - s.boot.recorded) := if_pos (by rw [hw, hc]; rfl)

theorem flashStatus_ne_storeOf : R.TOP_FLASH_STATUS ≠ storeOf R.TOP_FLASH_CTL := by decide +kernel

end Sys2Proof.Machine
end

section
/-!
The statements of the commands of start-up and of configuration, settled from the lemmas above.
-/
namespace Sys2Proof.Startup
open Sys2Proof.Machine

/-- Settles O10: each start-up command acts in the state that its rule names. -/
theorem startupCommands : Obligations.StartupCommands := by
  intro s
  exact ⟨fun fell hc hl hf => does_inputSwitchClose fell (State.switchClose_of_open hc hl hf),
    fun pins h => does_powerGood pins (if_pos h),
    fun v by' hw hk => does_warmReset v by' ((State.write_TOP_CTL s v by').trans (if_pos ⟨hw, hk⟩)),
    fun ht he hb => does_stateTimeout (State.stateTimeout_of_starting ht he hb),
    fun m r ht hm => does_stackTrainingDone m r (if_pos ⟨ht, hm⟩),
    fun slices ht h0 => does_memoryPass slices (if_pos ⟨ht, h0⟩),
    fun times ht => does_fillDone times (if_pos ht),
    fun r ht hr => does_unitPass r (State.unitPass_of_rings ht hr)⟩

/-- Settles O11: the sprout, the writes that judge the links again, and a flash command from its start to its end. -/
theorem configurationCommands : Obligations.ConfigurationCommands := by
  intro s v by'
  refine ⟨fun bridges ht => does_sproutBoot bridges (State.sproutBoot_of_sprout ht),
    does_reqLinksWrite v by' (State.write_TOP_REQ_LINKS s v by'),
    does_reqWidthWrite v by' (State.write_TOP_REQ_WIDTH s v by'), ?start, fun a n => ⟨?read, ?program, ?erase⟩,
    fun hw hc => does_defectFlush (State.flushDefects_of_allowed hw hc)⟩
  case start =>
    intro u a n started hb
    have hu : u.flag R.TOP_FLASH_STATUS F.TOP_FLASH_STATUS_BUSY = false :=
      (State.flag_written_ne flashStatus_ne_storeOf).trans hb
    have hwrite := State.write_TOP_FLASH_CTL s v by' hb
    refine ⟨fun ho => does_flashRead v by' ?_, fun ho hw hp => does_flashProgram v by' ?_,
      fun ho hw hp ha => does_flashErase v by' ?_⟩
    · rw [hwrite, ho, State.flashStart_of_read hu]
    · rw [hwrite, ho, State.flashStart_of_program hu hw hp]
    · rw [hwrite, ho, State.flashStart_of_erase hu hw hp ha]
  case read => exact fun h => does_flashCommandDone false (State.flashDone_of_ok h)
  case program => exact fun h => does_flashCommandDone false (State.flashDone_of_ok h)
  case erase => exact fun h => does_flashCommandDone false (State.flashDone_of_ok h)

end Sys2Proof.Startup
end

section
/-!
Admission (R65 to R92): owner entries, contexts, the walk of an admission, fault records and invalidations, one lemma for
each case in which a command acts.
-/
namespace Sys2Proof.Machine

variable {s : State} {v : Word}

section Owners

/-- A write of an owner entry that its block does not discard changes it under the checkers' old one (R65). -/
theorem State.regWrite_owner {off : Nat} {name : String} {ix : List Nat} {by' : Origin}
    (hn : name = "ADT_OWN_FRAME" ∨ name = "ADT_OWN_PART") (h : Reg.kindOf off = some (name, ix, true))
    (hm : inMail off = false) (hs : storeOf off = off) (ht : off ≠ R.TOP_CTL)
    (hp : off < 0x100000 ∨ 0x200000 ≤ off ∧ off < 0xA00000) (hd : s.discards name ix = false) :
    s.regWrite off v by' = (s.setOwner off (Reg.writeFields ((Reg.lookup off).elim [] fun x => x.1.fields)
      (s.reg off) v)).journalled s off by' := by
  simp only [Reg.kindOf, Option.map_eq_some_iff, Prod.mk.injEq] at h
  obtain ⟨⟨d, ix'⟩, hl, rfl, rfl, hc⟩ := h
  dsimp only at hc hn hd
  have hat : off - d.shows = off := by simpa [storeOf, hl] using hs
  have hi : injectElsewhere d.name ix' v = false := by
    rcases hn with hn | hn <;> rw [hn] <;> rfl
  have he : ∀ u : State, u.effectPackage d.name ix' v = u := by
    intro u
    rcases hn with hn | hn <;> rw [hn] <;> rfl
  simp [State.regWrite, hl, hm, hd, hi, ht, hs, hat, State.storeReg, hn, State.journalWrite, hc, State.journalled,
    State.effect_package hp, he]

theorem kind_ADT_OWN_FRAME : ∀ f : Fin 720, Reg.kindOf (R.ADT_OWN_FRAME f) = some ("ADT_OWN_FRAME", [f.val], true) ∧
    inMail (R.ADT_OWN_FRAME f) = false ∧ storeOf (R.ADT_OWN_FRAME f) = R.ADT_OWN_FRAME f ∧
    R.ADT_OWN_FRAME f ≠ R.TOP_CTL ∧ (R.ADT_OWN_FRAME f < 0x100000 ∨ 0x200000 ≤ R.ADT_OWN_FRAME f ∧
      R.ADT_OWN_FRAME f < 0xA00000) := by decide +kernel

theorem kind_ADT_OWN_PART : ∀ p : Fin 96, Reg.kindOf (R.ADT_OWN_PART p) = some ("ADT_OWN_PART", [p.val], true) ∧
    inMail (R.ADT_OWN_PART p) = false ∧ storeOf (R.ADT_OWN_PART p) = R.ADT_OWN_PART p ∧
    R.ADT_OWN_PART p ≠ R.TOP_CTL ∧ (R.ADT_OWN_PART p < 0x100000 ∨ 0x200000 ≤ R.ADT_OWN_PART p ∧
      R.ADT_OWN_PART p < 0xA00000) := by decide +kernel

theorem State.write_ADT_OWN_FRAME (s : State) (f : Fin 720) (v : Word) (by' : Origin)
    (hd : s.flag (R.ADT_OWN_FRAME f) F.ADT_OWN_FRAME_ABSENT = false) :
    s.regWrite (R.ADT_OWN_FRAME f) v by' =
      (s.setOwner (R.ADT_OWN_FRAME f) (Reg.writeFields ((Reg.lookup (R.ADT_OWN_FRAME f)).elim [] fun x => x.1.fields)
        (s.reg (R.ADT_OWN_FRAME f)) v)).journalled s (R.ADT_OWN_FRAME f) by' := by
  obtain ⟨hk, hm, hs, ht, hp⟩ := kind_ADT_OWN_FRAME f
  exact State.regWrite_owner (.inl rfl) hk hm hs ht hp hd

/-- The block of an absent frame's entry discards the write (R60). -/
theorem State.write_ADT_OWN_FRAME_absent (s : State) (f : Fin 720) (v : Word) (by' : Origin)
    (hd : s.flag (R.ADT_OWN_FRAME f) F.ADT_OWN_FRAME_ABSENT = true) : s.regWrite (R.ADT_OWN_FRAME f) v by' = s := by
  obtain ⟨hk, hm, -⟩ := kind_ADT_OWN_FRAME f
  simp only [Reg.kindOf, Option.map_eq_some_iff, Prod.mk.injEq] at hk
  obtain ⟨⟨d, ix⟩, hl, hn, rfl, -⟩ := hk
  dsimp only at hn
  refine State.regWrite_discarded hl hm ?_
  rw [hn, Bool.or_eq_true]
  exact .inl hd

theorem State.write_ADT_OWN_PART (s : State) (p : Fin 96) (v : Word) (by' : Origin) :
    s.regWrite (R.ADT_OWN_PART p) v by' =
      (s.setOwner (R.ADT_OWN_PART p) (Reg.writeFields ((Reg.lookup (R.ADT_OWN_PART p)).elim [] fun x => x.1.fields)
        (s.reg (R.ADT_OWN_PART p)) v)).journalled s (R.ADT_OWN_PART p) by' := by
  obtain ⟨hk, hm, hs, ht, hp⟩ := kind_ADT_OWN_PART p
  exact State.regWrite_owner (.inr rfl) hk hm hs ht hp rfl

end Owners

section Contexts

variable {c : Nat}

theorem State.ctxState_written_cmd (s : State) (v : Word) (c : Nat) : (s.written R.ADT_CTX_CMD v).ctxState c = s.ctxState c := by
  have hs : storeOf R.ADT_CTX_CMD = 0x900008 := by decide +kernel
  refine State.fld_written_ne ?_
  rw [hs, R.ADT_CTX_STATUS]
  omega

theorem State.ctxCommand_of_activate (hv : F.ADT_CTX_CMD_CMD.of v = 1) (h0 : F.ADT_CTX_CMD_CTX.of v ≠ 0)
    (hc : s.ctxState (F.ADT_CTX_CMD_CTX.of v) = cxFREE ∨ s.ctxState (F.ADT_CTX_CMD_CTX.of v) = cxRETIRED) :
    s.ctxCommand v = (s.setFld (R.ADT_CTX_STATUS (F.ADT_CTX_CMD_CTX.of v)) F.ADT_CTX_STATUS_STATE cxACTIVE).dropCached
      ⟨F.ADT_CTX_CMD_CTX.of v, true, 0, 0, none, [], false⟩ := by
  rw [State.ctxCommand, hv]
  exact if_pos ⟨h0, hc⟩

theorem State.ctxCommand_of_retire (hv : F.ADT_CTX_CMD_CMD.of v = 2) (h0 : F.ADT_CTX_CMD_CTX.of v ≠ 0)
    (hc : s.ctxState (F.ADT_CTX_CMD_CTX.of v) = cxACTIVE) :
    s.ctxCommand v =
      (let c := F.ADT_CTX_CMD_CTX.of v
       let u := s.setFld (R.ADT_CTX_STATUS c) F.ADT_CTX_STATUS_STATE cxRETIRING
       let u := (u.adt.faults.filter fun e => e.work.ctx == c).foldl (fun u e => u.resumeWork e true) u
       { u with adt := { u.adt with invals := u.adt.invals ++ [⟨c, true, 0, 0, none, [], false⟩] } }) := by
  rw [State.ctxCommand, hv]
  exact if_neg (not_or.2 ⟨h0, not_not_intro hc⟩)

/-- A RETIRE whose invalidation is over and whose entries are clear ends. -/
theorem State.retireStep_of_clear (hc : s.ctxState c = cxRETIRING)
    (hi : (s.adt.invals.any fun x => x.seq.isNone && x.ctx == c) = false) (ho : s.ownedBy c = [])
    (hp : s.flag R.ADT_OWN_STATUS F.ADT_OWN_STATUS_PENDING = false) :
    s.retireStep c = (s.setFld (R.ADT_CTX_STATUS c) F.ADT_CTX_STATUS_STATE cxRETIRED).raise 746 := by
  refine (if_neg (not_or.2 ⟨not_not_intro hc, Bool.eq_false_iff.1 hi⟩)).trans ?_
  dsimp only
  rw [ho]
  exact (if_neg (by decide)).trans (if_neg (Bool.eq_false_iff.1 hp))

end Contexts

section Walk

variable {d : Nat} {w : Admission} {rest : List Admission} (hw : s.admissions d = w :: rest)
include hw

theorem State.admitStart_of_rejected (hr : w.reading = none)
    (hc : (s.bump R.ADT_CNT F.ADT_CNT_ADMISSIONS).ctxState w.ctx ≠ cxACTIVE) :
    s.admitStart d = some (.ended scCONTEXT_REJECT, w, (s.bump R.ADT_CNT F.ADT_CNT_ADMISSIONS).setAdmissions d rest) := by
  rw [State.admitStart, hw]
  exact (if_neg (by rw [hr]; decide)).trans (if_pos hc)

theorem State.admitStart_of_active (hr : w.reading = none)
    (hc : (s.bump R.ADT_CNT F.ADT_CNT_ADMISSIONS).ctxState w.ctx = cxACTIVE) :
    s.admitStart d = some ((s.bump R.ADT_CNT F.ADT_CNT_ADMISSIONS).admitGo d w rest) := by
  rw [State.admitStart, hw]
  exact (if_neg (by rw [hr]; decide)).trans (if_neg (not_not_intro hc))

variable {n : Nat} (hr : w.reading = some n)
include hr

/-- The table read that an admission waits for, and what its answer makes of the admission. -/
theorem State.admitRead_of_reading :
    s.admitRead d =
      (let r := s.memRead ⟨0, w.cls, 2, 400000 + d⟩ (s.tableAddr w n).1 (s.tableAddr w n).2 false
       if r.1 ≠ scDONE then some (.ended r.1, w, r.2.2.setAdmissions d rest)
       else some ((r.2.2.tableFill d w n r.2.1).2.admitGo d (r.2.2.tableFill d w n r.2.1).1 rest)) := by
  rw [State.admitRead, hw]
  dsimp only
  rw [hr]

end Walk

section FaultRecords

variable {d : Nat}

theorem State.faultCopy_of_space (hw : s.adt.writing = none) (hf : s.faultSpace = true) (hr : s.schRestarts = false)
    (hn : s.nextFaultDie = some d) : s.faultCopy = State.faultWrite { s with adt := { s.adt with turn := d } } d := by
  rw [State.faultCopy, if_pos ⟨by rw [hw]; rfl, hf, Bool.eq_false_iff.1 hr⟩, hn]
  rfl

theorem State.faultWritten_of_done (hw : s.adt.writing = some (d, .answered scDONE)) :
    s.faultWritten =
      (let u := State.popFault { s with adt := { s.adt with writing := none } } d
       u.setFld R.ADT_FAULT_HEAD F.ADT_FAULT_HEAD_HEAD (u.fld R.ADT_FAULT_HEAD F.ADT_FAULT_HEAD_HEAD + 1)) := by
  rw [State.faultWritten, hw]
  exact if_pos rfl

theorem State.faultWritten_of_failed {c : Nat} (hw : s.adt.writing = some (d, .answered c)) (hc : c ≠ scDONE) :
    s.faultWritten = { s with adt := { s.adt with writing := some (d, .repeated) } } := by
  rw [State.faultWritten, hw]
  exact if_neg hc

theorem State.faultAgain_of_space (hw : s.adt.writing = some (d, .repeated)) (hf : s.faultSpace = true)
    (hr : s.schRestarts = false) : s.faultAgain = s.faultWrite d := by
  rw [State.faultAgain, hw]
  exact if_pos ⟨hf, Bool.eq_false_iff.1 hr⟩

theorem State.resumeWrite_of_found {e : FaultEntry} {abort : Bool}
    (he : (s.adt.faults.find? fun e => e.id == F.ADT_RESUME_FAULT_ID.of v) = some e)
    (ha : F.ADT_RESUME_ABORT.isSet v = abort) : s.resumeWrite v = s.resumeWork e abort := by
  rw [State.resumeWrite, he, ← ha]

end FaultRecords

section Invalidations

variable {x : Invalidation}

theorem State.invalEnqueue_of_room (h : s.fld R.ADT_INV_STATUS F.ADT_INV_STATUS_QUEUED < 16) :
    s.invalEnqueue v =
      (let q := (s.fld R.ADT_INV_STATUS F.ADT_INV_STATUS_ISSUED_SEQ + 1) % 65536
       (State.setFld { s with adt := { s.adt with invals := s.adt.invals ++ [⟨F.ADT_INV_ARG1_CTX.of v,
         F.ADT_INV_ARG1_ALL.isSet v, s.fld R.ADT_INV_ARG0 F.ADT_INV_ARG0_PAGE, F.ADT_INV_ARG1_PAGES.of v, some q, [],
         false⟩] } } R.ADT_INV_STATUS F.ADT_INV_STATUS_ISSUED_SEQ q).showQueued.invalPump 17) :=
  if_neg (Nat.not_le.2 h)

/-- The command at the head starts: what it covers is dropped, and the movers that hold it stop issuing. -/
theorem State.invalidateRun_of_held {rest : List Invalidation} (hi : s.adt.invals = x :: rest) (hx : x.running = false)
    (hu : (s.moverHolders x ++ s.engineHolders x).isEmpty = false) :
    s.invalidateRun =
      (let us := s.moverHolders x ++ s.engineHolders x
       (us.filter fun u => decide (u < 256)).foldl (fun u g => u.moverHold { x with running := true, waiting := us } g)
         { (s.dropCached x).markLate x with
           adt := { ((s.dropCached x).markLate x).adt with invals := { x with running := true, waiting := us } :: rest } }) := by
  have hrun : (s.invalRun fun v => s.moverHolders v ++ s.engineHolders v) =
      { (s.dropCached x).markLate x with
        adt := { ((s.dropCached x).markLate x).adt with
          invals := { x with running := true, waiting := s.moverHolders x ++ s.engineHolders x } :: rest } } := by
    rw [State.invalRun, hi]
    exact (if_neg (Bool.eq_false_iff.1 hx)).trans (if_neg (Bool.eq_false_iff.1 hu))
  rw [State.invalidateRun, hrun]
  rfl

variable (hx : s.invalHead = some x)
include hx

/-- A mover under no covered admission and with nothing held that has not drained acknowledges, and the rest of what it
held is admitted afresh. -/
theorem State.moverAck_of_drained {g : Nat} (hg : x.waiting.contains g = true)
    (hb : ∀ e ∈ (s.moverHold x g).adt.work, ∀ w ∈ e.2, ∀ k number, w.who = .queue k number →
      (s.moverHold x g).runsOn k = g → admissionCovered x w = false)
    (hd : (((s.moverHold x g).inProgress g).any fun y => (y.held || y.status == scUNIT_LOST) && !y.drained) = false) :
    s.moverAck g =
      (let t := (s.moverHold x g).invalAck g
       (t.movers.transfers.map Prod.fst).foldl (fun t k => (t.transfers k).foldl (fun t y =>
         if y.unit = g && y.held && shadowCovered x (t.qCtx k) y.shadow then
           (t.setTransfer k { y with admitted := false, held := false, shadow := [] }).submit (dieOf k)
             ⟨.queue k y.number, t.qCtx k, t.qClass k, (dOperands y.words).filterMap Operand.pages,
               (0, moverOf k, k % 16, t.qSlot k y.number), none, [], none, false⟩
         else t) t) t) := by
  rw [State.moverAck, hx]
  refine (if_neg (by rw [hg]; decide)).trans (if_neg ?_)
  rw [hd, Bool.or_false, Bool.not_eq_true, List.any_eq_false]
  intro e he
  rw [Bool.not_eq_true, List.any_eq_false]
  intro w hw
  split
  next k number hwho =>
    by_cases hk : (s.moverHold x g).runsOn k = g
    · simp [hb e he w hw k number hwho hk]
    · simp [hk]
  next => exact Bool.false_ne_true

theorem State.engineAck_of_idle {n : Nat} (hn : x.waiting.contains (256 + n) = true) (ha : s.engineAdmitting x n = false)
    (hj : s.jobAt n = none) : s.engineAck n = s.invalAck (256 + n) := by
  rw [State.engineAck, hx]
  refine (if_neg (by rw [hn, ha]; decide)).trans ?_
  rw [hj]

theorem State.invalidateExpire_of_running :
    s.invalidateExpire =
      ((x.waiting.foldl (fun t u => (if u < 256 then t.moverLost u else t.nmeLost (u - 256)).invalAck u) s).setFld
        R.ADT_INV_STATUS F.ADT_INV_STATUS_FENCED 1).raise 745 := by
  rw [State.invalidateExpire, hx]
  rfl

end Invalidations

theorem State.ringConnectionFail_of_errors {n : Nat} (ht : s.topState ≠ stFAULT)
    (he : 16 ≤ Tab.get (fun _ => 0) s.nme.ring.errors (2 * n + 1) ∨
      16 ≤ Tab.get (fun _ => 0) s.nme.ring.errors (2 * westOf n)) :
    s.ringConnectionFail n = (s.noteLoss dkRING n 0).fail fcRING := if_pos ⟨ht, by simpa using he⟩

end Sys2Proof.Machine
end

section
/-!
The statement of the commands of admission, settled from the lemmas above.
-/
namespace Sys2Proof.Admissions
open Sys2Proof.Machine

/-- Settles O24: each command of admission acts in the case that its rule names. -/
theorem admissionCommands : Obligations.AdmissionCommands := by
  intro s v by'
  refine ⟨⟨fun f h => does_ownerEntryWrite (.frame f) v by' (State.write_ADT_OWN_FRAME s f v by' h),
      fun f h => does_ownerEntryWrite (.frame f) v by' (State.write_ADT_OWN_FRAME_absent s f v by' h),
      fun p => does_ownerEntryWrite (.part p) v by' (State.write_ADT_OWN_PART s p v by')⟩,
    does_ownerEntryApplied rfl, ⟨?activate, ?retire⟩,
    fun c hc hi ho hp => does_contextRetired c (State.retireStep_of_clear hc hi ho hp),
    fun d w rest hw => ⟨?rejected, ?walks, ?reads⟩,
    fun d hw hf hr hn => does_faultRecordCopy (State.faultCopy_of_space hw hf hr hn),
    fun d c hw => ⟨?written, fun hc => does_faultRecordWriteDone (State.faultWritten_of_failed hw hc)⟩,
    fun d hw hf hr => does_faultRecordRetry (State.faultAgain_of_space hw hf hr), ?resume, ?enqueue,
    fun x rest hi hx hu => does_invalidateRun (State.invalidateRun_of_held hi hx hu),
    fun x hx => ⟨?moverAck, ?engineAck, does_invalidateTimeout (State.invalidateExpire_of_running hx)⟩,
    fun b ht => does_bridgeFailure b (if_neg ht),
    fun n ht he => does_ringConnectionFail n (State.ringConnectionFail_of_errors ht he)⟩
  case activate =>
    intro hv h0 hc
    have hcmd := State.ctxCommand_of_activate (s := s.written R.ADT_CTX_CMD v) hv h0
      (by simpa only [State.ctxState_written_cmd] using hc)
    exact does_ctxActivate v by' ((State.write_ADT_CTX_CMD s v by').trans (by rw [hcmd]))
  case retire =>
    intro hv h0 hc
    have hcmd := State.ctxCommand_of_retire (s := s.written R.ADT_CTX_CMD v) hv h0
      ((State.ctxState_written_cmd s v _).trans hc)
    exact does_ctxRetire v by' ((State.write_ADT_CTX_CMD s v by').trans (by rw [hcmd]))
  case rejected => exact fun hr hc => does_admit d (by rw [State.admitStart_of_rejected hw hr hc])
  case walks => exact fun hr hc => does_admit d (by rw [State.admitStart_of_active hw hr hc])
  case reads =>
    intro n hr
    exact ⟨fun hc => does_admitTableReadDone d (congrArg s.admitted
        ((State.admitRead_of_reading hw hr).trans (if_neg (not_not_intro hc)))),
      fun hc => does_admitTableReadDone d (congrArg s.admitted ((State.admitRead_of_reading hw hr).trans (if_pos hc)))⟩
  case written =>
    rintro rfl
    exact does_faultRecordWriteDone (State.faultWritten_of_done hw)
  case resume =>
    exact fun e he => ⟨fun ha => does_faultResume v ((State.write_ADT_RESUME s v _).trans
        (State.resumeWrite_of_found he ha)),
      fun ha => does_faultAbort v ((State.write_ADT_RESUME s v _).trans (State.resumeWrite_of_found he ha))⟩
  case enqueue =>
    exact ⟨fun h => does_invalidateEnqueue v ((State.write_ADT_INV_ARG1 s v _).trans (if_pos h)),
      fun h => does_invalidateEnqueue v ((State.write_ADT_INV_ARG1 s v _).trans (State.invalEnqueue_of_room h))⟩
  case moverAck =>
    intro u g hu hlt hg t hb hd
    subst hu
    exact does_invalidateAck u ((if_pos hlt).trans (State.moverAck_of_drained hx hg hb hd))
  case engineAck =>
    intro u n hu hn ha hj
    refine does_invalidateAck u ?_
    rw [hu, State.invalidateAck, if_neg (by omega), Nat.add_sub_cancel_left, State.engineAck_of_idle hx hn ha hj]

end Sys2Proof.Admissions
end

section
/-!
The shared buffer (R124 to R143): when a request at a bank waits, what one that is admitted answers, and what the upkeep
of a die does.
-/
namespace Sys2Proof.Machine

variable {s : State} {v : Word} {a : Nat} {hit : Upset}

section Waiting

variable {i : Instr} (act : State → State)

theorem State.holdBuffer_of_clearing (hr : regionOf a = .buffer) (hc : s.clearing (sbDie a) = true) :
    s.holdBuffer a i act = { s with buffer := { s.buffer with held := s.buffer.held ++ [i] } } := if_pos ⟨hr, hc⟩

theorem State.holdBuffer_of_free (h : ¬ (regionOf a = .buffer ∧ s.clearing (sbDie a) = true)) :
    s.holdBuffer a i act = act s := if_neg h

end Waiting

theorem not_waiting_of_clear (h : s.clearing (sbDie a) = false) :
    ¬ (regionOf a = .buffer ∧ s.clearing (sbDie a) = true) := fun hw => Bool.eq_false_iff.1 h hw.2

section Requests

variable {len ctx op size x y : Nat} {data : List (Option Byte)} {returning : Bool} (hp : s.sbAbsent a = false)
include hp

theorem State.bufferRead_of_rejected (hr : bufferRun a len = true) (ha : s.admits a ctx false = false) :
    s.bufferRead a len ctx hit = s.emit (.answer (.buffer a) scCONTEXT_REJECT []) := by
  rw [State.bufferRead, if_pos hr, State.sbRead, if_neg (by simp [hp, ha])]
  rfl

omit hp in
theorem State.bufferRead_of_admitted (hr : bufferRun a len = true) (ha : s.admits a ctx false = true) :
    s.bufferRead a len ctx hit =
      (let u := (unitsOf 64 a len).foldl (fun u b => u.sbVote hit 0 b) (s.sbUpset hit)
       let r := u.sbReadData 0 a len
       r.2.2.emit (.answer (.buffer a) r.1 (if r.1 = scDONE ∨ r.1 = scDATA_ERROR then r.2.1 else []))) := by
  rw [State.bufferRead, if_pos hr, State.sbRead, if_pos (.inr ha)]
  rfl

theorem State.bufferWrite_of_rejected (hr : bufferRun a data.length = true) (ha : s.admits a ctx true = false) :
    s.bufferWrite a data ctx hit = s.emit (.answer (.buffer a) scCONTEXT_REJECT []) := by
  rw [State.bufferWrite, if_pos hr, State.sbWrite, if_neg (Bool.eq_false_iff.1 hp), if_neg (Bool.eq_false_iff.1 ha)]
  rfl

theorem State.bufferWrite_of_admitted (hr : bufferRun a data.length = true) (ha : s.admits a ctx true = true) :
    s.bufferWrite a data ctx hit =
      (let r := (splitUnits 64 a data).foldl (fun (acc : Nat × State) b =>
         let q := acc.2.sbWriteBlock hit b.1 b.2
         (worse acc.1 q.1, q.2)) (scDONE, s.sbUpset hit)
       r.2.emit (.answer (.buffer a) r.1 [])) := by
  rw [State.bufferWrite, if_pos hr, State.sbWrite, if_neg (Bool.eq_false_iff.1 hp), if_pos ha]
  rfl

theorem State.bufferAtomic_of_admitted (hr : bufferRun a size = true) (hv : atomicValid a op size = true)
    (ha : s.admits a ctx true = true) :
    s.bufferAtomic a op size x y returning ctx hit =
      (let r := ((s.sbUpset hit).sbVote hit 2 a).sbAtomicAt a op size x y
       r.2.2.emit (.answer (.buffer a) r.1 (if returning then r.2.1 else []))) := by
  rw [State.bufferAtomic, if_pos hr, State.sbAtomic, if_neg (by simp [hv]), if_neg (Bool.eq_false_iff.1 hp), if_pos ha]
  rfl

end Requests

theorem State.bufferRead_of_outside {len ctx : Nat} (hr : bufferRun a len = false) :
    s.bufferRead a len ctx hit = s.emit (.answer (.buffer a) scDESCRIPTOR_ERROR []) := if_neg (Bool.eq_false_iff.1 hr)

section Upkeep

variable {d : Nat}

theorem State.partitionClear_of_mask (h : F.SBF_PART_CLR_MASK.of v ≠ 0) :
    s.partitionClear d v = (s.sbClear d (F.SBF_PART_CLR_MASK.of v)).setFld (R.SBF_PART_CLR d) F.SBF_PART_CLR_BUSY 1 :=
  if_neg h

theorem State.partitionClear_of_empty (h : F.SBF_PART_CLR_MASK.of v = 0) : s.partitionClear d v = s := if_pos h

/-- A clear that no request waits for ends with its BUSY bit. -/
theorem State.partitionCleared_of_none (hc : s.clearing d = true) (hh : s.buffer.held = []) :
    s.partitionCleared d = s.setFld (R.SBF_PART_CLR d) F.SBF_PART_CLR_BUSY 0 := by
  have hkeep : ∀ f : Instr → Bool, s.buffer.held.filter f = s.buffer.held := fun f => by rw [hh]; rfl
  refine (if_pos hc).trans ?_
  dsimp only
  rw [hkeep, hkeep, hh, List.foldl_nil, ← hh]

section Scrub

variable (hr : regionOf a = .buffer) (he : s.flag (R.SBF_SCRUB_CTL (sbDie a)) F.SBF_SCRUB_CTL_EN = true)
include hr he

theorem State.bufferScrub_of_enabled (last : Bool) :
    s.bufferScrub a last hit =
      (if last then (s.sbScrubBlock a hit).bump (R.SBF_SCRUB_CTL (sbDie a)) F.SBF_SCRUB_CTL_PASSES
        else s.sbScrubBlock a hit) := if_pos ⟨hr, he⟩

end Scrub

theorem State.bankLost_of_unfenced {src : Nat} (hr : regionOf a = .buffer) (hp : s.sbAbsent a = false)
    (hf : s.sbFenced a = false) : s.bankLost a src = (s.sbFence a src).emit (.answer (.buffer a) scTIMEOUT []) :=
  if_pos ⟨hr, hp, hf⟩

theorem State.sbfPop_of_set (h : F.SBF_ERR_POP_POP.isSet v = true) :
    s.sbfPop d v = s.setSbRecords d ((s.sbRecords d).drop 1) := if_pos h

theorem State.sbfPop_of_clear (h : F.SBF_ERR_POP_POP.isSet v = false) : s.sbfPop d v = s := if_neg (Bool.eq_false_iff.1 h)

theorem State.sbfCntClr_of_set (h : F.SBF_ERR_CTL_CNT_CLR.isSet v = true) :
    s.sbfCntClr d v = (s.setReg (R.SBF_ERR_CNT d) 0).clearFields (R.SBF_BANK d 0) (R.SBF_BANK d 4224)
      [F.SBF_BANK_UE, F.SBF_BANK_CE] := if_pos h

theorem not_injectElsewhere (hr : regionOf (8 * F.SBF_INJECT_ADDR.of v) = .buffer)
    (hd : sbDie (8 * F.SBF_INJECT_ADDR.of v) = d) : injectElsewhere "SBF_INJECT" [d] v = false := by
  simp [injectElsewhere, hr, hd]

end Upkeep

end Sys2Proof.Machine
end

section
/-!
The statement of the commands of the shared buffer, settled from the lemmas above.
-/
namespace Sys2Proof.SharedBuffer
open Sys2Proof.Machine

/-- Settles O25: a request waits for a clear or is answered from its blocks, and the upkeep of a die acts on its own
registers. -/
theorem bufferCommands : Obligations.BufferCommands := by
  intro s v by'
  refine ⟨fun a len data op size x y returning ctx hit => ⟨?waits, ?served, ?outside⟩, fun d => ⟨?clear, ?clearNone⟩,
    fun d hc hh => does_partitionClearDone d (State.partitionCleared_of_none hc hh),
    fun a hit hr he => ⟨does_sbfScrub a false hit (State.bufferScrub_of_enabled hr he false),
      does_sbfScrub a true hit (State.bufferScrub_of_enabled hr he true)⟩,
    fun a src hr hp hf => does_bankFence a src (State.bankLost_of_unfenced hr hp hf), fun d => ⟨?pop, ?popNone⟩,
    fun d hv => does_sbfCntClr d v by' ((State.write_SBF_ERR_CTL s d v by').trans (by rw [State.sbfCntClr_of_set hv])),
    fun d hr hd => does_sbfInjectArm d v by' (State.write_SBF_INJECT s d v by' (not_injectElsewhere hr hd))⟩
  case waits =>
    intro hr hc
    exact ⟨does_sbfRead a len ctx hit (State.holdBuffer_of_clearing _ hr hc),
      does_sbfWrite a data ctx hit (State.holdBuffer_of_clearing _ hr hc),
      does_sbfAtomic a op size x y returning ctx hit (State.holdBuffer_of_clearing _ hr hc)⟩
  case served =>
    intro hc hp
    have hw := not_waiting_of_clear hc
    exact ⟨fun hr ha => does_sbfRead a len ctx hit
        ((State.holdBuffer_of_free _ hw).trans (State.bufferRead_of_rejected hp hr ha)),
      fun hr ha => does_sbfRead a len ctx hit
        ((State.holdBuffer_of_free _ hw).trans (State.bufferRead_of_admitted hr ha)),
      fun hr ha => does_sbfWrite a data ctx hit
        ((State.holdBuffer_of_free _ hw).trans (State.bufferWrite_of_rejected hp hr ha)),
      fun hr ha => does_sbfWrite a data ctx hit
        ((State.holdBuffer_of_free _ hw).trans (State.bufferWrite_of_admitted hp hr ha)),
      fun hr hv ha => does_sbfAtomic a op size x y returning ctx hit
        ((State.holdBuffer_of_free _ hw).trans (State.bufferAtomic_of_admitted hp hr hv ha))⟩
  case outside =>
    exact fun hr hb => does_sbfRead a len ctx hit
      ((State.holdBuffer_of_free _ fun hw => hb hw.1).trans (State.bufferRead_of_outside hr))
  case clear =>
    exact fun h => does_partitionClear d v by' ((State.write_SBF_PART_CLR s d v by').trans
      (by rw [State.partitionClear_of_mask h]; rfl))
  case clearNone =>
    exact fun h => does_partitionClear d v by' ((State.write_SBF_PART_CLR s d v by').trans
      (by rw [State.partitionClear_of_empty h]))
  case pop => exact fun h => does_sbfErrPop d v ((State.write_SBF_ERR_POP s d v _).trans (State.sbfPop_of_set h))
  case popNone => exact fun h => does_sbfErrPop d v ((State.write_SBF_ERR_POP s d v _).trans (State.sbfPop_of_clear h))

end Sys2Proof.SharedBuffer
end

section
/-!
The stack controllers (R155 to R172): what a request behind the owner check answers, the double refresh, and how parity
errors and lost reads fence a pseudo-channel.
-/
namespace Sys2Proof.Machine

variable {s : State} {v : Word} {a : Nat}

section Requests

variable {len ctx cls : Nat} {parts : List (Option Byte)} {hit : DramUpset}

theorem State.stackRead_of_rejected (hr : stackRun a len = true)
    (h : s.frameAbsent a = true ∨ s.admits a ctx false = false) :
    s.stackRead a len ctx cls hit = s.emit (.answer (.stack a) scCONTEXT_REJECT []) := by
  rw [State.stackRead, if_pos hr, State.stkRead]
  dsimp only
  rw [if_pos (h.imp_right fun h => by rw [h]; rfl)]
  rfl

theorem State.stackRead_of_outside (hr : stackRun a len = false) :
    s.stackRead a len ctx cls hit = s.emit (.answer (.stack a) scDESCRIPTOR_ERROR []) := if_neg (Bool.eq_false_iff.1 hr)

theorem State.stackWrite_of_rejected (hr : stackRun a parts.length = true)
    (h : s.frameAbsent a = true ∨ s.admits a ctx true = false) :
    s.stackWrite a parts ctx cls hit = s.emit (.answer (.stack a) scCONTEXT_REJECT []) := by
  rw [State.stackWrite, if_pos hr, State.stkWrite, if_pos (h.imp_right fun h => by rw [h]; rfl)]
  rfl

variable (hf : s.frameAbsent a = false)
include hf

theorem State.stackRead_of_admitted (hr : stackRun a len = true) (ha : s.admits a ctx false = true) :
    s.stackRead a len ctx cls hit =
      (let r := (s.stkUpset hit (s.stackOf a)).stkReadData a len cls
       r.2.2.emit (.answer (.stack a) r.1 (if r.1 = scDONE ∨ r.1 = scDATA_ERROR then r.2.1 else []))) := by
  rw [State.stackRead, if_pos hr, State.stkRead]
  dsimp only
  rw [if_neg (by simp [hf, ha])]
  rfl

theorem State.stackWrite_of_admitted (hr : stackRun a parts.length = true) (ha : s.admits a ctx true = true) :
    s.stackWrite a parts ctx cls hit =
      (let r := (splitUnits 64 a parts).foldl (fun (acc : Nat × State) b =>
         let q := acc.2.stkWriteBlock (acc.2.stackKey b.1) cls b.2
         (worse acc.1 q.1, q.2)) (scDONE, s.stkUpset hit (s.stackOf a))
       r.2.emit (.answer (.stack a) r.1 [])) := by
  rw [State.stackWrite, if_pos hr, State.stkWrite, if_neg (by simp [hf, ha])]
  rfl

end Requests

section Temperature

variable {m t : Nat}

/-- The state with a stack's count of cool readings replaced. -/
def State.setCool (s : State) (m n : Nat) : State :=
  { s with stackState := { s.stackState with cool := Tab.set (fun _ => 0) s.stackState.cool m n } }

/-- What a reading does once TEMP shows it: by whether double refresh is on and how many cool readings, this one
included, are in a row (R161). -/
def State.judgeTemp (u : State) (m t : Nat) : State :=
  let cool := if t ≤ 82 then Tab.get (fun _ => 0) u.stackState.cool m + 1 else 0
  if u.flag (R.STK_STATUS m) F.STK_STATUS_REFRESH then
    if 10 ≤ cool then (((u.setCool m 0).setFld (R.STK_STATUS m) F.STK_STATUS_REFRESH 0).raise (98 + 4 * m)).stkRecap m
    else u.setCool m (min cool 10)
  else if 85 < t then
    (((u.setCool m 0).setFld (R.STK_STATUS m) F.STK_STATUS_REFRESH 1).raise (98 + 4 * m)).stkRecap m
  else u.setCool m 0

theorem State.stkTemp_eq_judgeTemp (s : State) (m t : Nat) :
    s.stkTemp m t = (s.setFld (R.STK_STATUS m) F.STK_STATUS_TEMP t).judgeTemp m t := by
  rw [State.stkTemp]
  generalize s.setFld (R.STK_STATUS m) F.STK_STATUS_TEMP t = u
  rfl

section Single

variable (hr : s.flag (R.STK_STATUS m) F.STK_STATUS_REFRESH = false)
include hr

theorem State.judgeTemp_of_hot (ht : 85 < t) :
    s.judgeTemp m t =
      (((s.setCool m 0).setFld (R.STK_STATUS m) F.STK_STATUS_REFRESH 1).raise (98 + 4 * m)).stkRecap m :=
  (if_neg (Bool.eq_false_iff.1 hr)).trans (if_pos ht)

theorem State.judgeTemp_of_normal (ht : t ≤ 85) : s.judgeTemp m t = s.setCool m 0 :=
  (if_neg (Bool.eq_false_iff.1 hr)).trans (if_neg (Nat.not_lt.2 ht))

end Single

section Double

variable (hr : s.flag (R.STK_STATUS m) F.STK_STATUS_REFRESH = true)
include hr

theorem State.judgeTemp_of_warm (ht : 82 < t) : s.judgeTemp m t = s.setCool m 0 := by
  rw [State.judgeTemp, if_neg (Nat.not_le.2 ht)]
  exact if_pos hr

theorem State.judgeTemp_of_cooling (ht : t ≤ 82) (hn : Tab.get (fun _ => 0) s.stackState.cool m + 1 < 10) :
    s.judgeTemp m t = s.setCool m (Tab.get (fun _ => 0) s.stackState.cool m + 1) := by
  rw [State.judgeTemp, if_pos ht]
  rw [if_pos hr, if_neg (Nat.not_le.2 hn), Nat.min_eq_left hn.le]

theorem State.judgeTemp_of_cooled (ht : t ≤ 82) (hn : 10 ≤ Tab.get (fun _ => 0) s.stackState.cool m + 1) :
    s.judgeTemp m t =
      (((s.setCool m 0).setFld (R.STK_STATUS m) F.STK_STATUS_REFRESH 0).raise (98 + 4 * m)).stkRecap m := by
  rw [State.judgeTemp, if_pos ht]
  exact (if_pos hr).trans (if_pos hn)

end Double

end Temperature

theorem State.stkRefresh_of_unfenced {m pc bank : Nat} (h : s.pcFenced m pc = false) :
    s.stkRefresh m pc bank = (s.stkPrecharge m pc bank).emit (.refresh m pc bank false) := if_neg (Bool.eq_false_iff.1 h)

theorem State.stackScrub_of_enabled {m pc bank row : Nat} {hit : DramUpset} (last : Bool)
    (h : s.flag (R.STK_SCRUB_CTL m) F.STK_SCRUB_CTL_EN = true) :
    s.stackScrub m pc bank row last hit =
      (if last then (s.stkScrubRow m pc bank row hit).bump (R.STK_SCRUB_CTL m) F.STK_SCRUB_CTL_PASSES
        else s.stkScrubRow m pc bank row hit) := if_pos h

section Failures

/-- The state with a pseudo-channel's count of parity failures in a row replaced. -/
def State.setFailures (s : State) (k n : Nat) : State :=
  { s with stackState := { s.stackState with failures := Tab.set (fun _ => 0) s.stackState.failures k n } }

variable {src : Nat} (hi : inStack a = true) (hf : s.frameAbsent a = false) {p : RowPlace}
  (hp : s.blockPlace (s.stackKey a) = p) (hu : s.pcFenced p.m p.pc = false)
include hi hf hp hu

theorem State.stackParity_of_retry (hn : Tab.get (fun _ => 0) s.stackState.failures (64 * p.m + p.pc) < 3) :
    s.stackParity a src =
      (s.setFailures (64 * p.m + p.pc) (Tab.get (fun _ => 0) s.stackState.failures (64 * p.m + p.pc) + 1)).bump
        (R.STK_ERR_CNT2 p.m) F.STK_ERR_CNT2_RETRY := by
  have hretry : s.stkParity a src = (false, (s.setFailures (64 * p.m + p.pc)
      (Tab.get (fun _ => 0) s.stackState.failures (64 * p.m + p.pc) + 1)).bump (R.STK_ERR_CNT2 p.m)
        F.STK_ERR_CNT2_RETRY) := by
    rw [State.stkParity, hp]
    exact (if_neg (Bool.eq_false_iff.1 hu)).trans (if_neg (Nat.not_le.2 (Nat.succ_lt_succ hn)))
  rw [State.stackParity, if_pos ⟨hi, hf⟩, hretry]
  rfl

theorem State.stackParity_of_fourth (hn : 3 ≤ Tab.get (fun _ => 0) s.stackState.failures (64 * p.m + p.pc)) :
    s.stackParity a src = ((s.setFailures (64 * p.m + p.pc) 0).stkFence p src).pcGone a := by
  have hfence : s.stkParity a src = (true, (s.setFailures (64 * p.m + p.pc) 0).stkFence p src) := by
    rw [State.stkParity, hp]
    exact (if_neg (Bool.eq_false_iff.1 hu)).trans (if_pos (Nat.succ_le_succ hn))
  rw [State.stackParity, if_pos ⟨hi, hf⟩, hfence]
  rfl

theorem State.pcLost_of_unfenced : s.pcLost a src = (s.stkFence p src).pcGone a := by
  rw [State.pcLost, hp]
  exact if_pos ⟨hi, hf, hu⟩

end Failures

theorem State.stkPop_of_set {m : Nat} (h : F.STK_ERR_POP_POP.isSet v = true) :
    s.stkPop m v = s.setStkRecords m ((s.stkRecords m).drop 1) := if_pos h

theorem State.stkPop_of_clear {m : Nat} (h : F.STK_ERR_POP_POP.isSet v = false) : s.stkPop m v = s :=
  if_neg (Bool.eq_false_iff.1 h)

theorem State.stkCntClr_of_set {m : Nat} (h : F.STK_ERR_CTL_CNT_CLR.isSet v = true) :
    s.stkCntClr m v = ((s.setReg (R.STK_ERR_CNT m) 0).setReg (R.STK_ERR_CNT2 m) 0).clearFields
      (R.STK_PC m 0) (R.STK_PC m 64) [F.STK_PC_UE, F.STK_PC_CE] := if_pos h

end Sys2Proof.Machine
end

section
/-!
The statement of the commands of the stack controllers, settled from the lemmas above.
-/
namespace Sys2Proof.StackControllers
open Sys2Proof.Machine

theorem allBytes_length (data : List Byte) : (allBytes data).length = data.length := List.length_map _

/-- Settles O26: a request answers as the owner check and its blocks say, and each event of a controller has its case. -/
theorem stackCommands : Obligations.StackCommands := by
  intro s v by'
  refine ⟨fun a len data parts ctx cls hit => ⟨fun hr h => does_stkRead a len ctx cls hit (State.stackRead_of_rejected hr h),
      fun hr hf ha => does_stkRead a len ctx cls hit (State.stackRead_of_admitted hf hr ha),
      fun hr => does_stkRead a len ctx cls hit (State.stackRead_of_outside hr),
      fun hr h => does_stkPartialWrite a parts ctx cls hit (State.stackWrite_of_rejected hr h),
      fun hf ha => ⟨fun hr => does_stkWrite a data ctx cls hit
          (State.stackWrite_of_admitted hf (by rw [allBytes_length]; exact hr) ha),
        fun hr => does_stkPartialWrite a parts ctx cls hit (State.stackWrite_of_admitted hf hr ha)⟩⟩,
    fun m pc bank => ⟨does_rowPrecharge m pc bank rfl,
      fun h => does_refresh m pc bank (State.stkRefresh_of_unfenced h)⟩,
    ?temperature,
    fun m pc bank row hit h => ⟨does_stkScrub m pc bank row false hit (State.stackScrub_of_enabled false h),
      does_stkScrub m pc bank row true hit (State.stackScrub_of_enabled true h)⟩,
    ?failures, fun m => ⟨?pop, ?popNone, ?clear, does_stkInjectArm m v by' (State.write_STK_INJECT s m v by')⟩⟩
  case temperature =>
    intro m t u count n
    have hu := State.stkTemp_eq_judgeTemp s m t.toNat
    have hcool : Tab.get (fun _ => 0) u.stackState.cool m = n := congrArg (fun x => Tab.get (fun _ => 0) x.cool m.val)
      (State.setFld_stackState ..)
    refine ⟨fun hr ht => does_stackTempRead m t (hu.trans (State.judgeTemp_of_hot hr ht)),
      fun hr ht => does_stackTempRead m t (hu.trans (State.judgeTemp_of_normal hr ht)),
      fun hr ht => does_stackTempRead m t (hu.trans (State.judgeTemp_of_warm hr ht)),
      fun hr ht hn => does_stackTempRead m t (hu.trans ?_),
      fun hr ht hn => does_stackTempRead m t (hu.trans (State.judgeTemp_of_cooled hr ht (hcool.symm ▸ hn)))⟩
    rw [← hcool] at hn ⊢
    exact State.judgeTemp_of_cooling hr ht hn
  case failures =>
    intro a src hi hf p k n count hu
    exact ⟨fun hn => does_parityRetry a src (State.stackParity_of_retry hi hf rfl hu hn),
      fun hn => does_parityRetry a src (State.stackParity_of_fourth hi hf rfl hu hn),
      does_pcFence a src (State.pcLost_of_unfenced hi hf rfl hu)⟩
  case pop => exact fun h => does_stkErrPop m v ((State.write_STK_ERR_POP s m v _).trans (State.stkPop_of_set h))
  case popNone => exact fun h => does_stkErrPop m v ((State.write_STK_ERR_POP s m v _).trans (State.stkPop_of_clear h))
  case clear =>
    exact fun h => does_stkCntClr m v by' ((State.write_STK_ERR_CTL s m v by').trans (by rw [State.stkCntClr_of_set h]))

end Sys2Proof.StackControllers
end

section
/-!
The statement of the commands of the memory-side cache, refuted. At an enabled slice its clause for a line on a fenced
pseudo-channel hands the whole write to the controller. The model does what R198 says: the bytes for the pseudo-channel
that still works enter the merging buffer, so that a write across both blocks of a half-fenced line leaves the array as it
was.
-/
namespace Sys2Proof.Cache
open Sys2Proof.Machine

/-- An enabled slice 0 over a frame that context 7 owns, with two pseudo-channels placed, the second of them fenced. -/
def halfFenced : State :=
  let s := (State.reset.setReg (R.ADT_OWN_FRAME 0) 0x10007).setReg (R.STK_PC_MASK 0) 3
  (s.setFld (R.MSC_CTL 0) F.MSC_CTL_EN 1).setFld (R.STK_PC 0 1) F.STK_PC_STATE 2

/-- The last byte of the first block of line 7, and the first byte of its second block, which is the fenced one. -/
def straddling : List (Option Byte) := [some 1, some 2]

/-- What a write of those bytes at the slice must meet in the statement's clause for fenced lines. -/
theorem halfFenced_meets_clause :
    (halfFenced.stackOf 959 = 0 ∧ stackRun 959 2 = true ∧ (halfFenced.slice 0).blocked = false ∧
      (halfFenced.slice 0).heldBefore (lineOf 959) 1 = false) ∧
    halfFenced.frameAbsent 959 = false ∧ halfFenced.admits 959 7 true = true ∧
    halfFenced.lineFenced 0 (lineOf 959) (959 % 128) (959 % 128 + 2) = true := by decide +kernel

/-- The stored bytes of stack memory in the state that a command answers. -/
def answeredDram : Host.Outcome State Fault Refusal → Tab Byte
  | .next t => t.dram
  | _ => []

/-- The model keeps the working block's byte in the merging buffer. -/
theorem write_halfFenced_dram : answeredDram (exec (.mscWrite 959 straddling 7 0 1 2 0) halfFenced) = [] := by
  decide +kernel

/-- The statement's clause stores it. -/
theorem clause_halfFenced_dram :
    (({ ((halfFenced.stkWriteData 959 straddling 0).2.emit (.answer (.slice 0 2)
      (halfFenced.stkWriteData 959 straddling 0).1 [])).settle with pending := halfFenced.pending } : State)).dram =
      [(959, 1)] := by decide +kernel

/-- Refutes O27: a write across both blocks of a half-fenced line, which the statement has stored at once. -/
theorem not_cacheCommands : ¬ Obligations.CacheCommands := by
  intro h
  obtain ⟨⟨hstack, hrun, hblocked, hheld⟩, hframe, hadmits, hfenced⟩ := halfFenced_meets_clause
  obtain ⟨hrequests, -⟩ := h halfFenced 0 ⟨0, 0, false, false⟩
  obtain ⟨-, -, -, -, -, hwrite⟩ := hrequests 959 0 straddling 7 0 0 1 2 0 false
  have hdoes := (hwrite ⟨hrun, by decide, by decide⟩ (hstack ▸ ⟨hblocked, hheld⟩) hframe hadmits).1 (.inr (hstack ▸ hfenced))
  have hdram := (congrArg answeredDram hdoes).symm.trans write_halfFenced_dram
  exact absurd (clause_halfFenced_dram.symm.trans hdram) (by decide)

end Sys2Proof.Cache
end

section
/-!
Queues and job rings (R203 to R232, R258): the cases of a doorbell, of a write of the control register, and of the end of a
reset's drain.
-/
namespace Sys2Proof.Machine

variable {s : State} {v : Word} {k : Nat}

section Doorbell

theorem State.doorbell_of_same (h : F.DMV_Q_TAIL_TAIL.of v = s.qTail k) : s.doorbell k v = s := if_pos h

/-- TAIL is not where the state of a queue stands. -/
theorem State.qState_setFld_tail (s : State) (k n : Nat) :
    (s.setFld (qTAIL k) F.DMV_Q_TAIL_TAIL n).qState k = s.qState k :=
  State.fld_setFld_ne s _ _ n (by unfold qSTATUS qTAIL; omega)

variable (hn : F.DMV_Q_TAIL_TAIL.of v ≠ s.qTail k)
include hn

section Live

variable (hl : s.qState k = qsRUNNING ∨ s.qState k = qsSUSPENDED)
include hl

theorem State.doorbell_of_room (hb : s.qBacklog k (F.DMV_Q_TAIL_TAIL.of v) ≤ 2 ^ s.qSize k)
    (hr : (s.setFld (qTAIL k) F.DMV_Q_TAIL_TAIL (F.DMV_Q_TAIL_TAIL.of v)).schRestarts = false) :
    s.doorbell k v =
      (let w := s.setFld (qTAIL k) F.DMV_Q_TAIL_TAIL (F.DMV_Q_TAIL_TAIL.of v)
       (w.setRing k { w.ring k with known := F.DMV_Q_TAIL_TAIL.of v }).showFifo k) := by
  have hpast : ¬ decide (2 ^ s.qSize k < s.qBacklog k (F.DMV_Q_TAIL_TAIL.of v)) = true := by simpa using hb
  rw [State.doorbell, if_neg hn]
  dsimp only
  rw [State.qState_setFld_tail, if_pos hl, if_neg hpast, if_neg (Bool.eq_false_iff.1 hr)]

theorem State.doorbell_of_past (hb : 2 ^ s.qSize k < s.qBacklog k (F.DMV_Q_TAIL_TAIL.of v)) :
    s.doorbell k v = (s.setFld (qTAIL k) F.DMV_Q_TAIL_TAIL (F.DMV_Q_TAIL_TAIL.of v)).qError k qrTAIL_RANGE := by
  rw [State.doorbell, if_neg hn]
  dsimp only
  rw [State.qState_setFld_tail, if_pos hl, if_pos (decide_eq_true hb)]

end Live

theorem State.doorbell_of_stopped (hs : s.qState k = qsDISABLED ∨ s.qState k = qsERROR) :
    s.doorbell k v = s.setFld (qTAIL k) F.DMV_Q_TAIL_TAIL (F.DMV_Q_TAIL_TAIL.of v) := by
  have hlive : ¬ (s.qState k = qsRUNNING ∨ s.qState k = qsSUSPENDED) := by
    rcases hs with hs | hs <;> rw [hs] <;> decide
  have hlost : s.qState k ≠ qsLOST := by
    rcases hs with hs | hs <;> rw [hs] <;> decide
  rw [State.doorbell, if_neg hn]
  dsimp only
  rw [State.qState_setFld_tail, if_neg hlive]
  exact if_neg fun h => hlost h.1

end Doorbell

section Control

variable {old : Word}

theorem State.queueCtl_of_plain (h : F.DMV_Q_CTL_RESET.isSet v = false) :
    s.queueCtl k v old =
      (if F.DMV_Q_CTL_EN.isSet v then (s.setReg (qCTL k) old).qEnable k else (s.setReg (qCTL k) old).qDisable k) := by
  rw [State.queueCtl, if_neg (c := F.DMV_Q_CTL_RESET.isSet v = true ∧ _) fun hr => Bool.eq_false_iff.1 h hr.1]

theorem State.queueCtl_of_reset (h : F.DMV_Q_CTL_RESET.isSet v = true) (ho : F.DMV_Q_CTL_RESET.isSet old = false) :
    s.queueCtl k v old =
      (let begun := if isJob k then (s.setReg (qCTL k) old).jobRingReset k else (s.setReg (qCTL k) old).queueReset k
       if F.DMV_Q_CTL_EN.isSet v then begun.qEnable k else begun.qDisable k) := by
  rw [State.queueCtl, if_pos (c := F.DMV_Q_CTL_RESET.isSet v = true ∧ _) ⟨h, Bool.eq_false_iff.1 ho⟩]

section Enable

variable (he : s.flag (qCTL k) F.DMV_Q_CTL_EN = false) (hs : s.qState k = qsDISABLED) (hz : s.qSize k ≠ 0)
  (hr : (s.ring k).resetting = false)
include he hs hz hr

/-- EN takes effect at a DISABLED queue with a size, and the rings decide what state it enters. -/
theorem State.qEnable_of_disabled :
    s.qEnable k =
      (let w := s.setFld (qCTL k) F.DMV_Q_CTL_EN 1
       if w.ringsAllowed k then (w.setQState k qsRUNNING).setRing k { w.ring k with known := w.qTail k }
       else w.qError k qrRING_ADDR) :=
  if_neg (by
    have hz' : (s.qSize k == 0) = false := beq_false_of_ne hz
    rw [he, hs, hz', hr]
    decide)

end Enable

theorem State.qDisable_of_running (h : s.qState k = qsRUNNING) :
    s.qDisable k =
      (let z := s.setFld (qCTL k) F.DMV_Q_CTL_EN 0
       (z.setQState k qsDISABLED).setRing k { z.ring k with fetched := none }) := if_pos h

theorem State.qDisable_of_stopped (h : s.qState k ≠ qsRUNNING) : s.qDisable k = s.setFld (qCTL k) F.DMV_Q_CTL_EN 0 :=
  if_neg h

end Control

theorem State.queueResetDone_of_drained (hr : (s.ring k).resetting = true)
    (hd : (s.transfers k).all Transfer.drained = true) :
    s.queueResetDone k =
      (let u := s.setTransfers k []
       (u.setRing k { u.ring k with due := (u.ring k).due ++ (s.transfers k).map Transfer.record }).records k) :=
  if_pos (by rw [hr, hd]; rfl)

theorem State.jobRingResetDone_of_drained (hr : (s.ring k).resetting = true)
    (hd : ((s.jobs k).all fun j => s.jobDrained k j) = true) :
    s.jobRingResetDone k =
      (let u := (s.jobs k).foldl (fun u j => u.freeFrom k j) (s.setJobs k [])
       ((u.setRing k { u.ring k with due := (u.ring k).due ++ (s.jobs k).map Job.record }).records k).showWaits k) :=
  if_pos (by rw [hr, hd]; rfl)

end Sys2Proof.Machine
end

section
/-!
The statement of the doorbells and control registers of queues and job rings, settled from the lemmas above. A queue and a
job ring differ only in the register that the command writes.
-/
namespace Sys2Proof.Queues
open Sys2Proof.Machine

/-- Settles O28: a doorbell and a control write by the state of the queue, once for a queue or ring of either kind. -/
theorem queueCommands : Obligations.QueueCommands := by
  intro s v by'
  refine ⟨?doorbells, ?controls, fun g q hr hd => does_queueResetDone g q (State.queueResetDone_of_drained hr hd),
    fun d r hr hd => does_jobRingResetDone d r (State.jobRingResetDone_of_drained hr hd)⟩
  case doorbells =>
    intro rung
    have hrung : ∀ k c, (∀ t, ((s.written (qTAIL k) v).setReg (qTAIL k) (s.reg (storeOf (qTAIL k)))).doorbell k v = t →
        Does c s t) → rung k c := fun k c hc =>
      ⟨fun h => hc _ (State.doorbell_of_same h), fun hn hl hb hr => hc _ (State.doorbell_of_room hn hl hb hr),
        fun hn hl hb => hc _ (State.doorbell_of_past hn hl hb), fun hn hs => hc _ (State.doorbell_of_stopped hn hs)⟩
    exact ⟨fun g q => hrung _ _ fun _ h => does_dmvDoorbell g q v ((State.write_DMV_Q_TAIL s g q v _).trans h),
      fun d r => hrung _ _ fun _ h => does_jobDoorbell d r v ((State.write_DSP_JR_TAIL s d r v _).trans h)⟩
  case controls =>
    intro ctl
    have hctl : ∀ k on off reset, (∀ i ∈ [on, off, reset], ∀ t,
        (s.written (qCTL k) v).queueCtl k v (s.reg (storeOf (qCTL k))) = t → Does i s (t.journalled s (qCTL k) by')) →
        ctl k on off reset := by
      intro k on off reset hi
      have hon := hi on (by simp)
      have hoff := hi off (by simp)
      have hreset := hi reset (by simp)
      refine ⟨fun hp hv he hs hz hr => ?_, fun hp hv => ?_,
        fun hv ho => hreset _ (State.queueCtl_of_reset hv ho)⟩
      · have henable := ((State.queueCtl_of_plain hp).trans (if_pos hv)).trans (State.qEnable_of_disabled he hs hz hr)
        exact ⟨fun ha => hon _ (henable.trans (if_pos ha)),
          fun ha => hon _ (henable.trans (if_neg (Bool.eq_false_iff.1 ha)))⟩
      · have hdisable := (State.queueCtl_of_plain (s := s.written (qCTL k) v) (k := k) (old := s.reg (storeOf (qCTL k)))
          hp).trans (if_neg (Bool.eq_false_iff.1 hv))
        exact ⟨fun h => hoff _ (hdisable.trans (State.qDisable_of_running h)),
          fun h => hoff _ (hdisable.trans (State.qDisable_of_stopped h))⟩
    refine ⟨fun g q => hctl _ _ _ _ fun i hi t ht => ?queue, fun d r => hctl _ _ _ _ fun i hi t ht => ?ring⟩
    case queue =>
      have hw := (State.write_DMV_Q_CTL s g q v by').trans (by rw [ht])
      simp only [List.mem_cons, List.not_mem_nil, or_false] at hi
      rcases hi with rfl | rfl | rfl
      · exact does_queueEnable g q v by' hw
      · exact does_queueDisable g q v by' hw
      · exact does_queueReset g q v by' hw
    case ring =>
      have hw := (State.write_DSP_JR_CTL s d r v by').trans (by rw [ht])
      simp only [List.mem_cons, List.not_mem_nil, or_false] at hi
      rcases hi with rfl | rfl | rfl
      · exact does_jobRingEnable d r v by' hw
      · exact does_jobRingEnable d r v by' hw
      · exact does_jobRingReset d r v by' hw

end Sys2Proof.Queues
end

section
/-!
The data movers (R104 to R232): the fetch, start and completion of a descriptor, the loss of a mover, and the notification
of a barrier, in the cases that the rules name.
-/
namespace Sys2Proof.Machine

variable {s : State} {v : Word} {g k : Nat}

/-- A queue's fetch from memory of this module is answered at once (R203, R207). -/
theorem State.fetchItem_of_inHouse (hk : isJob k = false)
    (hi : (s.countRead (s.runsOn k) 64).inHouse (s.itemAddr k (s.qStarted k)) = true) :
    s.fetchItem k =
      (let u := s.countRead (s.runsOn k) 64
       let r := u.memRead (u.qAccess k 0) (s.itemAddr k (s.qStarted k) % 2 ^ 41) 64 true
       r.2.2.fetchAnswer k r.1 r.2.1) := by
  have hn : itemBytes k = 64 := if_neg (Bool.eq_false_iff.1 hk)
  rw [State.fetchItem, hn, if_neg (c := isJob k = true) (Bool.eq_false_iff.1 hk)]
  exact if_pos hi

theorem State.moverFetch_of_picked (h : s.pickQueue g = some k) :
    s.moverFetch g =
      State.fetchItem { s with movers := { s.movers with last := Tab.set (fun _ => 4095) s.movers.last g k } } k := by
  rw [State.moverFetch, h]

section Start

/-- The state in which a fetched descriptor has been taken. -/
def State.taken (s : State) (k : Nat) : State := (s.setRing k { s.ring k with fetched := none }).startNext k

/-- What is kept of a descriptor that starts (R209, R229). -/
def State.started (s : State) (k : Nat) (ws : List Nat) : Transfer :=
  ⟨s.qStarted k, ws, scDONE, if (s.taken k).flag (qSTATUS k) F.DMV_Q_STATUS_ATTACHED then 16 else 0, 0, 0,
    (s.taken k).runsOn k, isIndexed (dType ws),
    cutMoves ws (if isIndexed (dType ws) then dIndexRuns ws else dRuns ws), [], none, 0, [], false, false, false, 0⟩

variable {ws : List Nat} (hf : (s.ring k).fetched = some ws) (hm : s.mayStart k ws = true)
include hf hm

theorem State.descStart_of_failing {reason : Nat} (hc : (s.taken k).descCheck ((s.taken k).qCtx k) ws = some reason) :
    s.descStart k = (s.taken k).recordDue k
      { (s.started k ws).record with status := scDESCRIPTOR_ERROR, detail := reason } := by
  rw [State.descStart, hf]
  refine (if_pos hm).trans ?_
  rw [State.taken] at hc
  dsimp only
  rw [hc]
  rfl

theorem State.descStart_of_sound (hc : (s.taken k).descCheck ((s.taken k).qCtx k) ws = none) :
    s.descStart k =
      ((s.taken k).setTransfers k ((s.taken k).transfers k ++ [s.started k ws])).submit (dieOf k)
        ⟨.queue k (s.qStarted k), (s.taken k).qCtx k, (s.taken k).qClass k, (dOperands ws).filterMap Operand.pages,
          (0, moverOf k, k % 16, (s.taken k).qSlot k (s.qStarted k)), none, [], none, false⟩ := by
  rw [State.descStart, hf]
  refine (if_pos hm).trans ?_
  rw [State.taken] at hc
  dsimp only
  rw [hc]
  rfl

end Start

theorem moverOf_queueKey (g : Nat) (q : Fin 16) : moverOf (queueKey g q) = g := by
  have hq := q.isLt
  simp only [moverOf, queueKey]
  omega

theorem queueKey_mod (g : Nat) (q : Fin 16) : queueKey g q % 16 = q := by
  have hq := q.isLt
  simp only [queueKey]
  omega

theorem State.descComplete_of_ended {t : Transfer} (ht : (s.transfers k).find? Transfer.ended = some t)
    (hr : (s.ring k).resetting = false) (hl : s.fld (R.DMV_STATUS t.unit) F.DMV_STATUS_STATE ≠ 1) :
    s.descComplete k =
      (s.setTransfers k ((s.transfers k).filter fun x => x.number != t.number)).recordDue k t.record := by
  rw [State.descComplete, ht]
  exact if_neg (by simp [hr, hl])

theorem State.moverLost_of_active (h : s.fld (R.DMV_STATUS g) F.DMV_STATUS_STATE = 0) :
    s.moverLost g =
      (let u := (s.setFld (R.DMV_STATUS g) F.DMV_STATUS_STATE 1).raise (256 + g)
       let u := u.noteLoss dkDATA_MOVER (g / 32) (u.fld (R.DMV_STATUS g) F.DMV_STATUS_PHYS)
       (u.movers.transfers.map Prod.fst).foldl (fun u k => u.fenceOff g k) u) := if_pos h

theorem State.moverDrained_of_drained (hs : s.fld (R.DMV_STATUS g) F.DMV_STATUS_STATE = 1)
    (hd : (s.inProgress g).all Transfer.drained = true) (hq : (s.queuesOf g).isEmpty = false) :
    s.moverDrained g =
      (let u := ((s.queuesOf g).foldl State.closeOut s).setFld (R.DMV_STATUS g) F.DMV_STATUS_ATTACHED 0
       let r := (s.queuesOf g).foldl (State.rehome g) ([], u)
       r.1.foldl (fun u h => u.raise (256 + h))
         (if (s.queuesOf g).any fun k => r.2.qState k == qsLOST then r.2.raise (256 + g) else r.2)) :=
  if_pos (by rw [hs, hd, hq]; rfl)

theorem State.dmvCntClr_of_set (h : F.DMV_CTL_CNT_CLR.isSet v = true) :
    s.dmvCntClr g v = (((s.setReg (R.DMV_CNT_RD g) 0).setReg (R.DMV_CNT_WR g) 0).setReg (R.DMV_CNT_DESC g) 0).setReg
      (R.DMV_CNT_STALL g) 0 := if_pos h

section Barrier

variable {p : Nat} {h : Husk} {rest : List Husk} (hb : (s.port p).barriers = h :: rest)
include hb

/-- A barrier that posts a token has no target to judge (R116). -/
theorem State.barrierNotify_of_token (ho : h.opx = 0) :
    s.barrierNotify p =
      (let u := s.setPort p { s.port p with barriers := rest }
       let n := Word.ofBytes ((if h.typ = Husk.MBAR then h.payload.drop 16 else h.payload).take 8)
       (u.tokPost (n / 2 ^ 16 % 8) (n / 2 ^ 4 % 2 ^ 12) (n % 16)).answerHusk h scDONE []) := by
  have hne : h.opx ≠ 1 := by rw [ho]; decide
  rw [State.barrierNotify, hb]
  refine (if_neg fun hx => hne hx.1).trans ((if_neg fun hx => hne hx.1).trans ?_)
  rw [State.notify, if_pos ho]

theorem State.barrierNotify_of_write (ho : h.opx = 1)
    (ht : (s.setPort p { s.port p with barriers := rest }).badTarget { h with typ := Husk.BAR } = false)
    (hr : (s.setPort p { s.port p with barriers := rest }).topState = stREADY) :
    s.barrierNotify p =
      (let u := s.setPort p { s.port p with barriers := rest }
       let body := if h.typ = Husk.MBAR then h.payload.drop 16 else h.payload
       let r := u.memWrite ⟨h.ctx, h.cls, 0, 0⟩ h.addr (allBytes (Word.bytes 8 (Word.ofBytes (body.take 8))))
       r.2.answerHusk h r.1 []) := by
  have hne : h.opx ≠ 0 := by rw [ho]; decide
  rw [State.barrierNotify, hb]
  refine (if_neg fun hx => Bool.eq_false_iff.1 ht hx.2).trans ((if_neg fun hx => hx.2 hr).trans ?_)
  rw [State.notify, if_neg hne]

end Barrier

end Sys2Proof.Machine
end

section
/-!
The statement of the commands of the data movers, settled from the lemmas above.
-/
namespace Sys2Proof.DataMovers
open Sys2Proof.Machine

/-- Settles O29: each command of a mover acts in the case that its rule names. -/
theorem moverCommands : Obligations.MoverCommands := by
  intro s v
  refine ⟨?fetch, ?start,
    fun g q t ht hr hl => does_descriptorComplete g q (State.descComplete_of_ended ht hr hl),
    fun p => does_mcBranchTimeout p rfl,
    fun g h => does_moverLost g (State.moverLost_of_active h),
    fun g hs hd hq => does_moverLossDrained g (State.moverDrained_of_drained hs hd hq),
    fun g h => does_dmvCntClr g v ((State.write_DMV_CTL s g v _).trans (State.dmvCntClr_of_set h)),
    fun p h rest hb => ⟨fun ho => does_barrierNotify p (State.barrierNotify_of_token hb ho),
      fun ho ht hr => does_barrierNotify p (State.barrierNotify_of_write hb ho ht hr)⟩⟩
  case fetch =>
    intro g k hp hk w u pa hi
    exact does_descriptorFetch g ((State.moverFetch_of_picked hp).trans (State.fetchItem_of_inHouse hk hi))
  case start =>
    intro g q ws k hf hm u indexed t
    refine ⟨fun reason hc => does_descriptorStart g q (State.descStart_of_failing hf hm hc),
      fun hc => does_descriptorStart g q ((State.descStart_of_sound hf hm hc).trans ?_)⟩
    rw [moverOf_queueKey, queueKey_mod]
    rfl

end Sys2Proof.DataMovers
end

section
/-!
The dispatchers (R244 to R263, R292, R293): the fetch, release, load, completion, spill and reload of a job, tokens, and the
loss of an engine, in the cases that the rules name.
-/
namespace Sys2Proof.Machine

variable {s : State} {v : Word} {d k n : Nat} {j : Job}

theorem isJob_jobKey (d r : Nat) : isJob (jobKey d r) = true :=
  decide_eq_true (by rw [jobKey, Nat.add_assoc]; exact Nat.le_add_right ..)

/-- A job ring's fetch from memory of this module is answered at once (R244). -/
theorem State.jobFetch_of_inHouse (hk : isJob k = true) (hm : s.mayFetch k = true)
    (hi : s.inHouse (s.itemAddr k (s.qStarted k)) = true) :
    s.jobFetch k =
      (let f := s.memRead (s.qAccess k 0) (s.itemAddr k (s.qStarted k) % 2 ^ 41) 128 true
       f.2.2.fetchAnswer k f.1 f.2.1) := by
  have hn : itemBytes k = 128 := if_pos hk
  rw [State.jobFetch, if_pos hm, State.fetchItem, hn, if_pos (c := isJob k = true) hk]
  exact if_pos hi

/-- The state in which a dispatcher has chosen ring r: every ring's status shows what it waits for, and r was served last. -/
def State.ringChosen (s : State) (d r : Nat) : State :=
  let u := (s.jobRings d).foldl (fun u r => u.showWaits (jobKey d r)) s
  { u with nme := { u.nme with last := Tab.set (fun _ => 31) u.nme.last d r } }

theorem State.jobRelease_of_chosen {r number : Nat} {ws : List Nat}
    (hr : ((s.jobRings d).foldl (fun u r => u.showWaits (jobKey d r)) s).releaseRing d (s.jobRings d) = some r)
    (hh : (s.ringChosen d r).headJob (jobKey d r) = some (number, ws)) :
    s.jobRelease d = (s.ringChosen d r).releaseJob d (jobKey d r) number ws := by
  rw [State.ringChosen] at hh ⊢
  rw [State.jobRelease]
  dsimp only at hh ⊢
  rw [hr]
  dsimp only
  rw [hh]

section Load

variable (hj : s.jobAt n = some (k, j)) (hp : j.phase = .loading)
include hj hp

theorem State.programLoad_of_ringFails {t : State} {f : Nat × Nat} (hr : s.loadRing n j.words = (some f, t)) :
    s.programLoad n = t.loadFail k j f := by
  simp [State.programLoad, hj, hp, hr]

theorem State.programLoad_of_argsFail {t u : State} {f : Nat × Nat} {l : List Nat}
    (hr : s.loadRing n j.words = (none, t)) (ha : t.loadArgs n j.words = (some f, l, u)) :
    s.programLoad n = u.loadFail k j f := by
  simp [State.programLoad, hj, hp, hr, ha]

theorem State.programLoad_of_codeFails {t u w : State} {f : Nat × Nat} {args : List Nat} {e : Nat}
    (hr : s.loadRing n j.words = (none, t)) (ha : t.loadArgs n j.words = (none, args, u))
    (hc : u.loadCode n j.words = (some f, e, w)) : s.programLoad n = w.loadFail k j f := by
  simp [State.programLoad, hj, hp, hr, ha, hc]

theorem State.programLoad_of_loaded {t u w : State} {args : List Nat} {entry : Nat}
    (hr : s.loadRing n j.words = (none, t)) (ha : t.loadArgs n j.words = (none, args, u))
    (hc : u.loadCode n j.words = (none, entry, w)) : s.programLoad n = w.startJob k n j args entry := by
  simp [State.programLoad, hj, hp, hr, ha, hc]

end Load

theorem State.jobComplete_of_ended
    (hj : ((s.jobs k).find? fun j => decide (j.phase = .finished) && s.jobDrained k j) = some j)
    (hr : (s.ring k).resetting = false) :
    s.jobComplete k =
      ((s.setJobs k ((s.jobs k).filter fun x => x.number != j.number)).freeFrom k j).recordDue k j.record := by
  rw [State.jobComplete, hj]
  exact if_neg (Bool.eq_false_iff.1 hr)

theorem State.tokCommand_of_clear (h : F.DSP_TOK_CMD_CMD.of v = 1) :
    (s.tokClear d v).tokSet d v = s.setFld (R.DSP_TOK d (F.DSP_TOK_CMD_INDEX.of v)) F.DSP_TOK_PRESENT 0 :=
  (if_neg (by rw [h]; decide)).trans (if_pos h)

theorem State.tokCommand_of_set (h : F.DSP_TOK_CMD_CMD.of v = 2) :
    (s.tokClear d v).tokSet d v =
      s.setTok d (F.DSP_TOK_CMD_INDEX.of v) (F.DSP_TOK_CMD_GEN.of v) (F.DSP_TOK_CMD_PRESENT.of v) := by
  rw [State.tokClear, if_neg (by rw [h]; decide)]
  exact if_pos h

section Spill

variable {slot : Nat} (hj : s.jobAt n = some (k, j))
include hj

theorem State.spillDone_of_spilling (hp : j.phase = .spilling slot) :
    s.spillDone n =
      (let b := s.freeBytes spillBytes
       let u := (b.2.memWrite (b.2.spillAccess n) (b.2.spillAddr (n / 2) slot) (allBytes b.1)).2
       (u.setJob k { j with phase := if j.resumed then .waiting slot else .spilled slot, resumed := false }).freeEngine n) := by
  rw [State.spillDone, hj]
  dsimp only
  rw [hp]

/-- A reload reads the slot; a failed read ends the job. -/
theorem State.reload_of_saved {e : EngineState} (hp : j.phase = .waiting slot) (he : j.saved = some e) :
    s.reload n =
      (let r := s.memRead (s.spillAccess n) (s.spillAddr (n / 2) slot) spillBytes true
       let u := r.2.2.setEngine n { e with job := some (k, j.number), live := false, nextId := (r.2.2.engine n).nextId }
       let w := (u.setJob k { j with phase := .held, saved := none }).setEngineState n neRUNNING
       if r.1 = scDONE then w.submitNext n
       else r.2.2.setJob k { j.note r.1 0 with phase := .finished, flags := j.flags ||| flagOf r.1 }) := by
  rw [State.reload, hj]
  dsimp only
  rw [hp, he]
  exact ite_not ..

end Spill

theorem State.nmeLost_of_active (h : s.takesPackets n = true) :
    s.nmeLost n =
      (let u := ((s.setEngineState n neLOST).raise (512 + 2 * n)).noteLoss dkNME n 0
       let u := (List.range 32).foldl (fun u r =>
         (u.jobs (jobKey (n / 2) r)).foldl (fun u j =>
           if j.engine = n ∧ j.phase ≠ .faulted ∧ j.phase ≠ .again then
             (u.dropWork (n / 2) (ofJob (jobKey (n / 2) r) j.number)).endJob (jobKey (n / 2) r) scUNIT_LOST j
           else u) u) u
       (u.setEngine n { u.engine n with live := false }).discardReceived n) := if_pos h

theorem State.nmeCntClr_of_set (h : F.NME_CTL_CNT_CLR.isSet v = true) :
    s.nmeCntClr n v = ((s.setReg (R.NME_CNT_RUN n) 0).setReg (R.NME_CNT_RING n) 0).setReg (R.NME_CNT_SCR n) 0 := if_pos h

end Sys2Proof.Machine
end

section
/-!
The statement of jobs, tokens and engine registers, settled from the lemmas above.
-/
namespace Sys2Proof.Jobs
open Sys2Proof.Machine

/-- Settles O30: a job's way through its dispatcher and engine, each command by the case of the job that it finds. -/
theorem jobCommands : Obligations.JobCommands := by
  intro s v by'
  refine ⟨fun d r hm hi => does_jobFetch d r (State.jobFetch_of_inHouse (isJob_jobKey d r) hm hi), ?release, ?load,
    fun d r j hj hr => does_jobComplete d r (State.jobComplete_of_ended hj hr),
    fun d => does_dspTokPost d v (State.write_DSP_TOK_POST s d v _), ?tokens,
    fun n k slot j hj hp => does_spillDone n (State.spillDone_of_spilling hj hp),
    fun n k slot j e hj hp he => does_reload n (State.reload_of_saved hj hp he),
    fun n h => does_nmeLost n (State.nmeLost_of_active h),
    fun n h => does_nmeCntClr n v ((State.write_NME_CTL s n v _).trans (State.nmeCntClr_of_set h)),
    fun n => does_srSeedWrite n v by' (State.write_NME_SR_SEED s n v by')⟩
  case release =>
    intro d r number ws u w ended hr hh
    have hrel := State.jobRelease_of_chosen hr hh
    refine ⟨fun reason hc => does_jobRelease d (hrel.trans ?_), fun hc => does_jobRelease d (hrel.trans ?_),
      fun hc => does_jobRelease d (hrel.trans ?_), fun n hc => does_jobRelease d (hrel.trans ?_)⟩
    all_goals
      change State.releaseJob w d (jobKey d r) number ws = _
      rw [State.releaseJob, hc]
  case load =>
    intro n k j hj hp
    exact ⟨fun f t hr => does_jobProgramLoad n (State.programLoad_of_ringFails hj hp hr), fun t hr =>
      ⟨fun f l u ha => does_jobProgramLoad n (State.programLoad_of_argsFail hj hp hr ha), fun args u ha =>
        ⟨fun f e w hc => does_jobProgramLoad n (State.programLoad_of_codeFails hj hp hr ha hc), fun entry w hc =>
          does_jobProgramLoad n (State.programLoad_of_loaded hj hp hr ha hc)⟩⟩⟩
  case tokens =>
    exact fun d => ⟨fun h => does_tokClear d v ((State.write_DSP_TOK_CMD s d v _).trans (State.tokCommand_of_clear h)),
      fun h => does_tokSet d v ((State.write_DSP_TOK_CMD s d v _).trans (State.tokCommand_of_set h))⟩

end Sys2Proof.Jobs
end

section
/-!
The engine ring (R237 to R243): the arrival of a packet, the start of a slot, the arming of the tables, and a wait that
passes its limit, in the cases that the rules name.
-/
namespace Sys2Proof.Machine

variable {s : State} {v flips : Word} {n west : Nat}

/-- The state in which a port has counted so many parity errors in a row (R238). -/
def State.setRingErrors (s : State) (p e : Nat) : State :=
  s.setRingNet { s.nme.ring with errors := Tab.set (fun _ => 0) s.nme.ring.errors p e }

section Arrival

variable {sent : RingPacket} {rest : List RingPacket} (hw : s.wire (2 * n + west) = sent :: rest)
include hw

/-- A packet with a parity error is discarded as it was sent (R238). -/
theorem State.ringArrive_of_parityError {spoiled : Bool}
    (hb : spoiled = true ∨ (bitsOf 64 flips.toNat).length % 2 = 1) :
    s.ringArrive n west flips spoiled =
      (let u := s.setWire (2 * n + west) rest
       (u.setRingErrors (2 * n + west) (Tab.get (fun _ => 0) u.nme.ring.errors (2 * n + west) + 1)).discardPacket
         (2 * n + west) sent) := by
  have hbad : (spoiled || (bitsOf 64 flips.toNat).length % 2 == 1) = true := by
    rwa [Bool.or_eq_true, beq_iff_eq]
  rw [State.ringArrive]
  dsimp only
  rw [hw]
  dsimp only
  rw [hbad, Bool.true_or, if_pos rfl, if_pos rfl]
  rfl

/-- The state in which a packet has arrived without a parity error. -/
def State.ringTaken (s : State) (p : Nat) (rest : List RingPacket) : State := (s.setWire p rest).setRingErrors p 0

/-- What a packet without a parity error does, by its header as it arrives (R238, R239). -/
theorem State.ringArrive_of_intact (hf : ¬ (bitsOf 64 flips.toNat).length % 2 = 1) :
    s.ringArrive n west flips false =
      (let p := 2 * n + west
       let u := s.ringTaken p rest
       let x : RingPacket := { sent with header := sent.header ^^^ flips }
       let q := ringQueue p x.stream
       if (!x.sound) = true then u.discardPacket p sent
       else if x.dest = n then
         if u.takesPackets n then
           State.setReceived (u.setRingNet { u.nme.ring with arrivals := u.nme.ring.arrivals + 1 }) q
             (u.received q ++ [(u.nme.ring.arrivals, x)])
         else u.discardPacket p x
       else (u.setForwards q (u.forwards q ++ [x])).ringGo (ringAcross p)) := by
  have hbad : (false || (bitsOf 64 flips.toNat).length % 2 == 1) = false := by
    rw [Bool.false_or]
    exact beq_false_of_ne hf
  rw [State.ringArrive]
  dsimp only
  rw [hw]
  dsimp only
  rw [hbad, Bool.false_or, if_neg (c := false = true) Bool.false_ne_true]
  rfl

end Arrival

section Slot

variable {i : Nat} (hi : i < s.slotCount n) (hh : s.inHold = false)

/-- The state in which slot i of an engine has begun. -/
def State.slotBegun (s : State) (n i : Nat) : State :=
  s.setRingNet { s.nme.ring with slotNow := Tab.set (fun _ => 0) s.nme.ring.slotNow n (i + 1) }

include hi hh

theorem State.slotStart_of_idle (he : bit ((s.slotBegun n i).slotEntry n west i) 7 = false) :
    s.slotStart n west i = (s.slotBegun n i).setSlot (2 * n + west) none := by
  rw [State.slotStart, if_neg (by simp [hi, hh])]
  exact if_neg (Bool.eq_false_iff.1 he)

theorem State.slotStart_of_forgone (he : bit ((s.slotBegun n i).slotEntry n west i) 7 = true)
    (hp : (s.slotBegun n i).nextPacket (2 * n + west) ((s.slotBegun n i).slotEntry n west i % 16) = none) :
    s.slotStart n west i =
      ((s.slotBegun n i).setSlot (2 * n + west) none).bump (R.NME_CNT_RING n) F.NME_CNT_RING_FORGONE := by
  rw [State.slotStart, if_neg (by simp [hi, hh])]
  refine (if_pos he).trans ?_
  rw [State.slotBegun] at hp
  rw [hp]
  rfl

theorem State.slotStart_of_packet (he : bit ((s.slotBegun n i).slotEntry n west i) 7 = true)
    (hp : ((s.slotBegun n i).nextPacket (2 * n + west) ((s.slotBegun n i).slotEntry n west i % 16)).isSome = true) :
    s.slotStart n west i =
      (let u := s.slotBegun n i
       (u.setSlot (2 * n + west) (some ⟨u.slotEntry n west i % 16, u.now, u.beat.length * 6400 / u.slotCount n, 0⟩)).ringGo
         (2 * n + west)) := by
  obtain ⟨x, hx⟩ := Option.isSome_iff_exists.1 hp
  rw [State.slotStart, if_neg (by simp [hi, hh])]
  refine (if_pos he).trans ?_
  rw [State.slotBegun] at hx
  rw [hx]
  rfl

end Slot

theorem State.ringActWrite_of_arm (h : F.NME_RING_ACT_ARM.isSet v = true) :
    s.ringActWrite n v = s.ringArm n (s.fld (R.NME_RING_ACT n) F.NME_RING_ACT_SLOTS_NEXT)
      (s.fld (R.NME_RING_ACT n) F.NME_RING_ACT_AT) := if_pos h

theorem State.ringActWrite_of_plain (h : F.NME_RING_ACT_ARM.isSet v = false) : s.ringActWrite n v = s :=
  if_neg (Bool.eq_false_iff.1 h)

theorem State.ringTimeout_of_waiting (hw : s.ringWaits n = true) (hj : (s.jobAt n).isSome = true) :
    s.ringTimeout n =
      State.raise ((s.stopJob n scTIMEOUT 0).bump (R.NME_CNT_RING n) F.NME_CNT_RING_TMO) (513 + 2 * n) :=
  if_pos (by rw [hw, hj]; rfl)

end Sys2Proof.Machine
end

section
/-!
The statement of the engine ring, settled from the lemmas above.
-/
namespace Sys2Proof.EngineRing
open Sys2Proof.Machine

/-- Settles O31: a packet by its parity, its header and its destination, and a slot by what its stream has to send. -/
theorem ringCommands : Obligations.RingCommands := by
  intro s v by'
  refine ⟨?arrival, ?slot, fun n west => does_ringCreditReturn n west rfl, fun n => ⟨fun h => ?_, fun h => ?_⟩,
    fun n hw hj => does_ringWaitTimeout n (State.ringTimeout_of_waiting hw hj)⟩
  case arrival =>
    intro n west flips spoiled sent rest p hw errs counted odd x
    refine ⟨fun hb => does_ringPacketRx n west flips spoiled (State.ringArrive_of_parityError hw hb), fun hs hf => ?_⟩
    subst hs
    have harrive := State.ringArrive_of_intact hw hf
    refine ⟨fun hx => ?_, fun hx hd ht => ?_, fun hx hd ht => ?_, fun hx hd => ?_⟩
    all_goals refine does_ringPacketRx n west flips false (harrive.trans ?_)
    · exact if_pos (by rw [hx]; rfl)
    · exact (if_neg (by rw [hx]; decide)).trans ((if_pos hd).trans (if_pos ht))
    · exact (if_neg (by rw [hx]; decide)).trans ((if_pos hd).trans (if_neg (Bool.eq_false_iff.1 ht)))
    · exact (if_neg (by rw [hx]; decide)).trans (if_neg hd)
  case slot =>
    exact fun n west i hi hh => ⟨fun he => does_ringSlotStart n west i (State.slotStart_of_idle hi hh he),
      fun he hp => does_ringSlotStart n west i (State.slotStart_of_forgone hi hh he hp),
      fun he hp => does_ringSlotStart n west i (State.slotStart_of_packet hi hh he hp)⟩
  · exact does_ringTableArm n v by' ((State.write_NME_RING_ACT s n v by').trans (by rw [State.ringActWrite_of_arm h]))
  · exact does_ringTableArm n v by' ((State.write_NME_RING_ACT s n v by').trans (by rw [State.ringActWrite_of_plain h]))

end Sys2Proof.EngineRing
end
